-- ==== Sys2Proof/Word.lean ====
section
/-! DEFINITION. The plainest word types of the LZ640 model. -/

namespace Sys2Proof

/-- One byte of any frame, page or record (chapter 12). -/
abbrev Byte := BitVec 8

end Sys2Proof
end

