-- ==== Sys2Proof/Syntax.lean ====
section
/-! DEFINITION. The commands of the LZ640: one constructor per row of spec/opcode_table.json.

An order of the station processor carries its tag and its arguments as section 12.4 lays them out.
The end of a store port or module bus operation carries what the flash or the module delivered. -/

namespace Sys2Proof

/-- One entry of LOAD TABLE CHANNEL (section 12.4): 8 bytes. -/
structure ChannelArg where
  role : Byte
  module : Byte
  slot : Byte
  enabled : Byte
  gain : BitVec 16
  offset : BitVec 16
  deriving DecidableEq, Repr

/-- One entry of LOAD TABLE PASS (section 12.4): 3 bytes. -/
structure PassArg where
  module : Byte
  mode : Byte
  divisor : Byte
  deriving DecidableEq, Repr

/-- One entry of LOAD TABLE LIMIT (section 12.4): 13 bytes, the six fields in the order of section 5.1. -/
structure LimitArg where
  index : Byte
  dipStart : BitVec 16
  intrStart : BitVec 16
  swellStart : BitVec 16
  hyst : BitVec 16
  bandLow : BitVec 16
  bandHigh : BitVec 16
  deriving DecidableEq, Repr

/-- One list of LOAD TABLE GRID (section 12.4): residual (0) and swell (1) entries take 2 bytes, duration (2)
entries 4. -/
structure GridArg where
  list : Byte
  entries : List (BitVec 32)
  deriving DecidableEq, Repr

/-- The commands, one per row of the table of operations and events, in the table's order. -/
inductive Instr where
  /-- POWER_ON (R1): power-on at the reset pin or the internal detector. -/
  | powerOn
  /-- STROBE_ISSUE (R2): the issue of the next strobe. -/
  | strobeIssue
  /-- CROSSING_TIMEOUT (R42): the strobe issue at which the loss limit is reached in LOCKED. -/
  | crossingTimeout
  /-- FREERUN_BOUNDARY (R39): the strobe issue at which a FREERUN boundary is due. -/
  | freerunBoundary
  /-- HELD_HALF_PERIOD_BOUNDARY (R40): the strobe issue at which a HOLDOVER or ACQUIRE boundary is due. -/
  | heldHalfPeriodBoundary
  /-- HOLDOFF_END (R101): the strobe issue at which the holdoff count reaches 0. -/
  | holdoffEnd
  /-- LANE_FRAME_ARRIVAL (R4): the bytes received between two idle gaps of the sample lane. -/
  | laneFrameArrival (frame : List Byte)
  /-- MONITOR_WINDOW_EXPIRY (R10): the 128th strobe issue of a monitor window. -/
  | monitorWindowExpiry
  /-- ARM_TIMEOUT (R128): the strobe issue at which the arm timer reaches ARM_TIMEOUT_S. -/
  | armTimeout
  /-- HOLDOVER_TIMER_EXPIRY (R50): the strobe issue at which the holdover timer reaches its limit. -/
  | holdoverTimerExpiry
  /-- SECOND_ROLLOVER (R113): the strobe issue at which the sub-second reaches one second. -/
  | secondRollover
  /-- MARK_ARRIVAL (R115): a whole link frame of kind MARK, and the whole oscillator periods (0 to 2,047) since the
  last strobe issue. -/
  | markArrival (frame : List Byte) (periods : BitVec 11)
  /-- DRIFTING (R118): the strobe issue at which the mark age exceeds 3,840,000. -/
  | drifting
  /-- LINK_UP (R185): the link-up report. -/
  | linkUp
  /-- LINK_DOWN (R185): the link-down report. -/
  | linkDown
  /-- INBOUND_FRAME_DISCARD (R185): a whole link frame that does not check. -/
  | inboundFrameDiscard (frame : List Byte)
  /-- ORDER_ARRIVAL (R186): a whole link frame of kind ORDER. -/
  | orderArrival (frame : List Byte)
  /-- ORDER_UNKNOWN_KIND (R187): an order whose kind is not in the table of section 12.4. -/
  | orderUnknownKind (tag kind : Byte) (args : List Byte)
  /-- SET (R192): items of setting code and value. -/
  | set (tag : Byte) (items : List (Byte × BitVec 32))
  /-- GET (R194): setting codes. -/
  | get (tag : Byte) (codes : List Byte)
  /-- LOAD_TABLE_CHANNEL (R19). -/
  | loadTableChannel (tag : Byte) (entries : List ChannelArg)
  /-- LOAD_TABLE_PASS (R29). -/
  | loadTablePass (tag : Byte) (entries : List PassArg)
  /-- LOAD_TABLE_LIMIT (R76). -/
  | loadTableLimit (tag : Byte) (entries : List LimitArg)
  /-- LOAD_TABLE_GRID (R78). -/
  | loadTableGrid (tag : Byte) (lists : List GridArg)
  /-- READ_TABLE_CHANNEL (R20). -/
  | readTableChannel (tag : Byte)
  /-- READ_TABLE_PASS (R20). -/
  | readTablePass (tag : Byte)
  /-- READ_TABLE_LIMIT (R76). -/
  | readTableLimit (tag : Byte)
  /-- READ_TABLE_GRID (R78). -/
  | readTableGrid (tag : Byte)
  /-- START (R127). -/
  | start (tag : Byte)
  /-- STOP (R130). -/
  | stop (tag : Byte)
  /-- RESTART (R132). -/
  | restart (tag : Byte)
  /-- CAPTURE (R102). -/
  | capture (tag : Byte)
  /-- ACK (R196): the mask of the flags listed. -/
  | ack (tag : Byte) (mask : BitVec 32)
  /-- STATUS (R197). -/
  | status (tag : Byte)
  /-- MOUNT (R160). -/
  | mount (tag : Byte)
  /-- FORMAT (R155). -/
  | format (tag : Byte)
  /-- MAP_LOAD (R156): start index and physical sectors. -/
  | mapLoad (tag : Byte) (start : BitVec 16) (sectors : List (BitVec 16))
  /-- UNMOUNT (R157). -/
  | unmount (tag : Byte)
  /-- RELEASE (R150): the sequence number W. -/
  | release (tag : Byte) (w : BitVec 32)
  /-- READ_RECORDS (R165): first sequence and count. -/
  | readRecords (tag : Byte) (first : BitVec 32) (count : BitVec 16)
  /-- CANCEL_READ (R171): the tag of the readback orders to cancel. -/
  | cancelRead (tag : Byte) (target : Byte)
  /-- MODULE_READ (R181): bus address, offset, count. -/
  | moduleRead (tag : Byte) (address offset count : Byte)
  /-- MODULE_WRITE (R181): bus address, offset, data bytes. -/
  | moduleWrite (tag : Byte) (address offset : Byte) (data : List Byte)
  /-- MODULE_FETCH (R178): module number. -/
  | moduleFetch (tag : Byte) (module : Byte)
  /-- MODULE_ABORT (R183). -/
  | moduleAbort (tag : Byte)
  /-- FRAME_TRANSMIT_END (R189): the frame in transmission has been sent whole. -/
  | frameTransmitEnd
  /-- FLUSH_AGE_EXPIRY (R147): the strobe issue at which the oldest byte in the page buffer reaches its age. -/
  | flushAgeExpiry
  /-- PAGE_PROGRAM_DONE (R146): the flash reports the page program in flight successful. -/
  | pageProgramDone
  /-- PAGE_PROGRAM_FAILED (R151): the flash reports the page program in flight failed. -/
  | pageProgramFailed
  /-- MAP_BYTE_PROGRAM_END (R151): the end of the map program in flight, and whether it succeeded. -/
  | mapByteProgramEnd (ok : Bool)
  /-- SECTOR_ERASE_DONE (R148): the flash reports the erase in flight successful. -/
  | sectorEraseDone
  /-- SECTOR_ERASE_FAILED (R153): the flash reports the erase in flight failed. -/
  | sectorEraseFailed
  /-- HEADER_READ_DONE (R149): the 16 bytes of the page header read for the writer, byte 0 in the low bits. -/
  | headerReadDone (header : BitVec 128)
  /-- MAP_ENTRY_READ_DONE (R143): the 4 bytes of the map entry read, byte 0 in the low bits. -/
  | mapEntryReadDone (entry : BitVec 32)
  /-- MOUNT_PAGE_READ_DONE (R161): the 256 bytes of the page read for the mount scan, byte 0 in the low bits. -/
  | mountPageReadDone (page : BitVec 2048)
  /-- READBACK_PAGE_READ_DONE (R168): the 256 bytes of the page read for the reader; a header read uses the first
  16. -/
  | readbackPageReadDone (page : BitVec 2048)
  /-- STORE_OPERATION_TIMEOUT (R175): the operation in flight reaches its time limit. -/
  | storeOperationTimeout
  /-- FETCH_COMPLETE (R179): the 16 bytes of the calibration block, byte 0 in the low bits. -/
  | fetchComplete (block : BitVec 128)
  /-- BUS_NO_ACK (R180): a byte is not acknowledged, after that many acknowledged data bytes of a write. -/
  | busNoAck (acked : BitVec 5)
  /-- RETRY_HOLD_EXPIRY (R180): the 10 ms retry hold of the module runs out. -/
  | retryHoldExpiry (module : Fin 4)
  /-- MODULE_READ_COMPLETE (R181): the bytes received, byte 0 in the low bits; as many count as were asked for. -/
  | moduleReadComplete (data : BitVec 256)
  /-- MODULE_WRITE_COMPLETE (R181): the stop of a station write has been sent. -/
  | moduleWriteComplete
  /-- BUS_CLOCK_HELD (R182): the clock held low for more than 10 ms in a byte, after that many acknowledged data
  bytes of a write. -/
  | busClockHeld (acked : BitVec 5)
  /-- RECOVERY_END (R183): the end of the recovery sequence, and whether the data line reads high. -/
  | recoveryEnd (released : Bool)
  /-- BUS_RESTART_CUT (R184): the byte in progress at a RESTART ends, after that many acknowledged data bytes of a
  write. -/
  | busRestartCut (acked : BitVec 5)
  deriving DecidableEq, Repr

end Sys2Proof
end

