-- ==== Sys2Proof/Config.lean ====
section
/-! DEFINITION. The free values of the model: constants with no body, standing for what the manual leaves open or for
what the outside world decides. Nothing can be proved of their values. Each is applied to a draw number (State.draws)
or to what it depends on. -/

namespace Sys2Proof

/-- The things that come about at one strobe issue and may be taken in any order (R10, R121, R128, R62 and the
"may come together" paragraphs): the sample path from the slots to the forwarder, the monitor window, the interval
boundary test of a rollover, the arm timer, the flush age. -/
inductive IssuePart where
  | sample | monitor | rollover | arm | flush
  deriving DecidableEq, Repr

namespace Config

/-- The order in which the parts of a strobe issue are taken (notes/assumptions/2.md). -/
opaque issueOrder : Nat → List IssuePart

/-- Which of several things that come together is taken first, where their rule lets either be first (R30, R69, R173,
R189; notes/assumptions/2.md). -/
opaque pick : Nat → Nat

/-- Whether the module bus data line is found low when a transaction is to begin (R182; notes/assumptions/5.md). -/
opaque dataLineLow : Nat → Bool

/-- What the 2-byte field of an INTERVAL record holds for a count above 65,535 (R123; notes/assumptions/48.md). -/
opaque overCount : Nat → BitVec 16

/-- What the 4-byte field of the interval number or of a count of the campaign summary holds above 4,294,967,295 (R119, R133;
notes/assumptions/48.md). -/
opaque overSummary : Nat → BitVec 32

/-- The code of the operation in flight in STATUS, whose values section 12.5 does not list, by the kind of operation
(notes/assumptions/7.md). -/
opaque portOpCode : Nat → Byte

/-- The tag (0) and the kind (1) of an ORDER frame whose payload is too short to hold them, by draw number
(notes/assumptions/8.md). -/
opaque missingByte : Nat → Nat → Byte

end Config

end Sys2Proof
end

