-- ==== Sys2Proof/Machine/State.lean ====
section
/-! DEFINITION. The state of the LZ640, block by block as section 3 of 00_scope.md lists them, and its value at
power-on. Every field names the rule that gives it. Enumerations stand in the order of the codes of section 12.1. -/

namespace Sys2Proof.Machine

/-! ## Enumerations and fixed collections -/

/-- The eight channel roles in role order (section 2.1). -/
inductive Channel where
  | v1 | v2 | v3 | vne | i1 | i2 | i3 | neutral
  deriving DecidableEq, Repr

/-- The three phases whose voltages can be the reference (R34) and start events (R80). -/
inductive Phase where
  | p1 | p2 | p3
  deriving DecidableEq, Repr

/-- One value for each acquisition module AM0 to AM3. -/
structure PerModule (α : Type) where
  m0 : α
  m1 : α
  m2 : α
  m3 : α
  deriving DecidableEq, Repr

/-- One value for each channel role. -/
structure PerChannel (α : Type) where
  v1 : α
  v2 : α
  v3 : α
  vne : α
  i1 : α
  i2 : α
  i3 : α
  neutral : α
  deriving DecidableEq, Repr

/-- One value for each phase. -/
structure PerPhase (α : Type) where
  p1 : α
  p2 : α
  p3 : α
  deriving DecidableEq, Repr

/-- A time stamp (section 6.5). -/
structure Stamp where
  seconds : Nat
  micros : Nat
  deriving DecidableEq, Repr

/-- Module states (section 1.3). -/
inductive ModuleState where
  | absent | unqualified | qualified | disabled
  deriving DecidableEq, Repr

/-- Verdicts of a monitor window (R10). -/
inductive Verdict where
  | none | accepted | neutral | rejected
  deriving DecidableEq, Repr

/-- Calibration states of a channel-table entry (section 2.1). -/
inductive CalState where
  | default | loaded | fetched | rejected | stale
  deriving DecidableEq, Repr

/-- Pass modes; DECIMATE holds its divisor (section 2.6). -/
inductive PassMode where
  | drop | all | decimate (divisor : Nat) | duringCapture
  deriving DecidableEq, Repr

/-- Tracker states (R34). -/
inductive TrackState where
  | freerun | acquire | locked | holdover
  deriving DecidableEq, Repr

/-- Boundary kinds (R36). -/
inductive BoundaryKind where
  | crossing | synthetic
  deriving DecidableEq, Repr

/-- Event classes (R81, R89). -/
inductive EventClass where
  | dip | interruption | swell
  deriving DecidableEq, Repr

/-- Causes of an event close (R93). -/
inductive CloseCause where
  | normal | noData | stopped | restart
  deriving DecidableEq, Repr

/-- Results of the attribution (R91). -/
inductive Attribution where
  | undetermined | upstream | downstream
  deriving DecidableEq, Repr

/-- Reasons of an undetermined attribution (R91, R92). -/
inductive AttrReason where
  | none | noChannel | unqualified | noPre | belowFloor | noPeak | swell
  deriving DecidableEq, Repr

/-- Causes of a capture trigger (section 6.4). -/
inductive TrigCause where
  | dip | interruption | swell | order
  deriving DecidableEq, Repr

/-- Outcomes of a capture trigger (R96); `none` where no trigger was handed. -/
inductive TrigOutcome where
  | none | started | extended | added | missed
  deriving DecidableEq, Repr

/-- Capture states (R99). -/
inductive CaptureState where
  | filling | collecting | waiting | holdoff
  deriving DecidableEq, Repr

/-- Time qualities (R118). -/
inductive TimeQuality where
  | unset | synced | drifting
  deriving DecidableEq, Repr

/-- Campaign states (section 7.3). -/
inductive CampaignState where
  | stopped | arming | running | stopping
  deriving DecidableEq, Repr

/-- Store states (section 8.8). -/
inductive StoreState where
  | unmounted | formatting | mounting | mounted | unmounting | faulted
  deriving DecidableEq, Repr

/-- Causes of the FAULTED state (R154). -/
inductive FaultCause where
  | program | erase | map | retirement | serial | timeout
  deriving DecidableEq, Repr

/-- Module bus states (R176). -/
inductive BusState where
  | idle | busy | hung | recovering
  deriving DecidableEq, Repr

/-- The two owners of the module bus (R177). -/
inductive BusOwner where
  | auto | station
  deriving DecidableEq, Repr

/-- Outcomes of a calibration fetch (R176). -/
inductive FetchOutcome where
  | none | good | rejected | dropped
  deriving DecidableEq, Repr

/-- Statuses of a reply (section 11.3). -/
inductive ReplyStatus where
  | ok | clamped | accepted | done | failed | refused
  deriving DecidableEq, Repr

/-- Reasons of a REFUSED or FAILED reply (section 11.3). -/
inductive Reason where
  | none | busy | wrongState | invalid | unknown | full | notMounted | hung | noAck | fault
  deriving DecidableEq, Repr

/-- The 21 attention flags in the order of their mask bits (section 11.7). -/
inductive Flag where
  | modDown (module : Fin 4)
  | trackHold | timeUnset | timeDrift | storeFault | storeFull | busHung | seqExhausted
  | refChange | calReject | timeStep | captureMissed | recordLoss | forwardLoss | sectorRetired
  | mapDamaged | linkError | orderOverflow
  deriving DecidableEq, Repr

/-- REF_MODE (R44). -/
inductive RefMode where
  | auto | manual
  deriving DecidableEq, Repr

/-- TIME_SOURCE (R115). -/
inductive TimeSource where
  | marked | free
  deriving DecidableEq, Repr

/-- STORE_WRAP (R148). -/
inductive StoreWrap where
  | overwrite | halt
  deriving DecidableEq, Repr

/-- MAP_MODE (R141). -/
inductive MapMode where
  | direct | mapped
  deriving DecidableEq, Repr

/-! ## Lane Receiver and Module Monitor (chapter 1) -/

/-- What an accepted lane frame leaves in its slot (R4). -/
structure LaneFrame where
  a : Int
  b : Int
  overA : Bool
  overB : Bool
  fault : Bool
  deriving DecidableEq, Repr

/-- An open sample slot (R2): the strobe it answers and the frame it holds. -/
structure Slot where
  index : Nat
  frame : Option LaneFrame
  deriving DecidableEq, Repr

/-- Lane Receiver: the index of the last strobe issued (48 bits, R1) and the open slots of each module, oldest
first (R2). -/
structure LR where
  strobe : Nat
  slots : PerModule (List Slot)
  deriving DecidableEq, Repr

/-- The Module Monitor's state for one module (R9 to R16). `joined` records that the module left ABSENT or DISABLED
in the current window, so that the window gives it no verdict (R7, R8). -/
structure ModMon where
  state : ModuleState
  good : Nat
  bad : Nat
  accepted : Nat
  duplicate : Nat
  stray : Nat
  fault : Bool
  joined : Bool
  lastAccepted : Nat
  lastDuplicate : Nat
  lastStray : Nat
  lastVerdict : Verdict
  deriving DecidableEq, Repr

/-- Module Monitor: the strobe count of the monitor window, 0 to 127 (R9), and each module's state. -/
structure MM where
  count : Nat
  mods : PerModule ModMon
  deriving DecidableEq, Repr

/-! ## Channel Conditioner (chapter 2) -/

/-- One channel-table entry (section 2.1). `slotB` is slot B. -/
structure ChanEntry where
  module : Fin 4
  slotB : Bool
  enabled : Bool
  gain : Nat
  offset : Int
  cal : CalState
  deriving DecidableEq, Repr

/-- The four values of a good calibration block (section 2.4). -/
structure CalValues where
  gainA : Nat
  offsetA : Int
  gainB : Nat
  offsetB : Int
  deriving DecidableEq, Repr

/-- A calibration result: its values, or none when rejected, and its forced mark (section 2.4). -/
structure CalResult where
  values : Option CalValues
  forced : Bool
  deriving DecidableEq, Repr

/-- A conditioned sample set (R21): its strobe index, both slot values of each module, the channel values and the
overrange marks. -/
structure CondSet where
  k : Nat
  slotA : PerModule Int
  slotB : PerModule Int
  values : PerChannel Int
  overrange : PerChannel Bool
  deriving DecidableEq, Repr

/-- A forwarded sample frame (R31). -/
structure FwdFrame where
  strobe : Nat
  module : Fin 4
  a : Int
  b : Int
  boundary : Nat
  tracker : TrackState
  deriving DecidableEq, Repr

/-- Channel Conditioner: channel table (R18), pending calibration per module (R25), pass table (R29), the conditioned
set held for the forwarder (R30) and the outbound sample buffer, oldest first (R32). -/
structure CC where
  table : PerChannel ChanEntry
  pending : PerModule (Option CalResult)
  pass : PerModule PassMode
  held : Option CondSet
  buffer : List FwdFrame
  deriving DecidableEq, Repr

/-! ## Cycle Tracker (chapter 3) -/

/-- A boundary (R36): number (32-bit), position in fine units, kind. -/
structure Boundary where
  number : Nat
  position : Nat
  kind : BoundaryKind
  deriving DecidableEq, Repr

/-- Cycle Tracker: the table of R34. -/
structure CT where
  state : TrackState
  reference : Option Phase
  lastLocked : Option Phase
  held : Option Nat
  last : Option Boundary
  previous : PerPhase (Option Int)
  run : List Nat
  align : Nat
  revertPhase : Option Phase
  revertCount : Nat
  timer : Option Nat
  deriving DecidableEq, Repr

/-! ## Magnitude Unit (chapter 4) -/

/-- A half-cycle record or a channel's window sums (R55): sum of squares, present count, strobe count. -/
structure Sums where
  sum : Nat
  present : Nat
  strobes : Nat
  deriving DecidableEq, Repr

/-- A channel's half-cycle records (R55). The previous record may be absent, the running record does not exist
before boundary 0 and may be marked cut. -/
structure ChanSums where
  previous : Option Sums
  running : Option Sums
  cut : Bool
  deriving DecidableEq, Repr

/-- The window record (R55). `cycles` is the WINDOW_CYCLES read at its start (R61). Flags are the mask of section
12.1. -/
structure Window where
  number : Nat
  cycles : Nat
  startNumber : Nat
  startPosition : Nat
  startStamp : Stamp
  sums : PerChannel Sums
  flags : BitVec 8
  deriving DecidableEq, Repr

/-- The snapshot (R60). -/
structure Snapshot where
  boundary : Option Boundary
  values : PerChannel (Option Nat)
  frequency : Option Nat
  tracker : TrackState
  deriving DecidableEq, Repr

/-- Magnitude Unit (R55): half-cycle records, open window, the carried flags REF_CHANGE and TIME_STEP, the window
counter (32-bit) and the snapshot. -/
structure MU where
  channels : PerChannel ChanSums
  window : Option Window
  carriedRefChange : Bool
  carriedTimeStep : Bool
  counter : Nat
  snapshot : Snapshot
  deriving DecidableEq, Repr

/-! ## Event Detector (chapter 5) -/

/-- A limit profile (section 5.1). -/
structure Profile where
  dipStart : Nat
  intrStart : Nat
  swellStart : Nat
  hyst : Nat
  bandLow : Nat
  bandHigh : Nat
  deriving DecidableEq, Repr

/-- The limit table: four profiles (R75). -/
structure LimitTable where
  p0 : Profile
  p1 : Profile
  p2 : Profile
  p3 : Profile
  deriving DecidableEq, Repr

/-- The grid table (section 5.2). -/
structure GridTable where
  residual : List Nat
  swell : List Nat
  duration : List Nat
  deriving DecidableEq, Repr

/-- A per-phase entry of an open event (section 5.4): `extreme` is the minimum (dip family) or maximum (swell),
`time` the time below or above and `join` the joining offset, in fine units. -/
structure PhaseEntry where
  phase : Phase
  extreme : Nat
  time : Nat
  join : Nat
  deriving DecidableEq, Repr

/-- A listed sub-span in fine units (R85). -/
structure SubSpan where
  offset : Nat
  duration : Nat
  deriving DecidableEq, Repr

/-- The open event record of either machine (section 5.4, R89). `startThreshold` is the copied dip_start or
swell_start. A swell keeps class SWELL and no sub-spans. -/
structure OpenEvent where
  number : Nat
  profile : Nat
  startThreshold : Nat
  intrStart : Nat
  hyst : Nat
  cls : EventClass
  startNumber : Nat
  startPosition : Nat
  startStamp : Stamp
  phases : List PhaseEntry
  pre : PerPhase (Option Nat)
  peak : PerPhase (Option Nat)
  unbroken : PerPhase Bool
  excluded : PerPhase Bool
  subSpans : List SubSpan
  subCount : Nat
  subTotal : Nat
  openSub : Option Nat
  noInclusion : Nat
  startOutcome : TrigOutcome
  intrOutcome : TrigOutcome
  deriving DecidableEq, Repr

/-- Event Detector: limit tables (R75), grid table and grids (R78; row by row), event number (R81), the two machines
(R82, R89), the previous currents (R79) and the last boundary taken with its stamp (R83, R88). -/
structure ED where
  limits : LimitTable
  pendingLimits : Option LimitTable
  grid : GridTable
  dipCells : List Nat
  swellCells : List Nat
  eventNumber : Nat
  dip : Option OpenEvent
  swell : Option OpenEvent
  previousCurrents : PerPhase (Option Nat)
  lastBoundary : Option (Boundary × Stamp)
  deriving DecidableEq, Repr

/-! ## Capture Unit (chapter 6) -/

/-- A point (section 6.1) with the strobe it was stored at. -/
structure Point where
  strobe : Nat
  values : List Int
  deriving DecidableEq, Repr

/-- A listed trigger (section 6.4). -/
structure Trigger where
  cause : TrigCause
  event : Nat
  strobe : Nat
  outcome : TrigOutcome
  deriving DecidableEq, Repr

/-- The capture in hand (R99, R103). `channels` is the mask of roles; `prePoints` the number of pre points among
`points`; `limit` the memory limit in points. -/
structure Capture where
  channels : BitVec 8
  decim : Nat
  pre : Nat
  post : Nat
  extend : Bool
  limit : Nat
  points : List Point
  prePoints : Nat
  postEnd : Nat
  triggers : List Trigger
  overflow : Nat
  startStrobe : Nat
  startStamp : Stamp
  truncated : Bool
  cut : Bool
  deriving DecidableEq, Repr

/-- Capture Unit (R99). -/
structure CU where
  state : CaptureState
  ring : List Point
  hand : Option Capture
  holdoff : Nat
  deriving DecidableEq, Repr

/-! ## Time Base (section 7.1) -/

/-- Time Base (R113): the time of the last strobe issued (seconds, sub-second in ticks), quality, mark age, slew
remainder in ticks. -/
structure TB where
  seconds : Nat
  sub : Nat
  quality : TimeQuality
  age : Option Nat
  slew : Int
  deriving DecidableEq, Repr

/-! ## Interval Aggregator and Campaign Control (sections 7.2, 7.3) -/

/-- Sums over windows of one voltage channel (R119): windows with a value, sum of R_w squared, and the smallest and
largest window magnitude. -/
structure VoltStat where
  count : Nat
  sumSq : Nat
  min : Option Nat
  max : Option Nat
  deriving DecidableEq, Repr

/-- Sums over windows of one current channel (R119). -/
structure CurrStat where
  count : Nat
  sumSq : Nat
  deriving DecidableEq, Repr

/-- One value for each voltage channel V1, V2, V3, VNE. -/
structure PerVolt (α : Type) where
  v1 : α
  v2 : α
  v3 : α
  vne : α
  deriving DecidableEq, Repr

/-- One value for each current channel I1, I2, I3, IN. -/
structure PerCurr (α : Type) where
  i1 : α
  i2 : α
  i3 : α
  neutral : α
  deriving DecidableEq, Repr

/-- The open interval (R119). `partialMark` is the PARTIAL mark; `union` the union of window flag sets. -/
structure Interval where
  number : Nat
  start : Stamp
  partialMark : Bool
  counted : Nat
  flagged : Nat
  union : BitVec 8
  volts : PerVolt VoltStat
  clean : PerVolt VoltStat
  currents : PerCurr CurrStat
  freqCount : Nat
  freqSum : Nat
  freqMin : Option Nat
  freqMax : Option Nat
  dipStarts : Nat
  escalations : Nat
  swellStarts : Nat
  deriving DecidableEq, Repr

/-- The campaign summary (R133). -/
structure Summary where
  intervals : Nat
  inBand : Nat
  noClean : Nat
  dips : Nat
  interruptions : Nat
  swells : Nat
  missed : Nat
  deriving DecidableEq, Repr

/-- Interval Aggregator and Campaign Control (R119, R126). `endSeq` is the sequence of the CAMPAIGN_END record a
STOPPING campaign waits for (R131). -/
structure IA where
  state : CampaignState
  number : Nat
  armTimer : Nat
  summary : Summary
  stopTag : Option Byte
  endSeq : Option Nat
  interval : Option Interval
  deriving DecidableEq, Repr

/-! ## Records and the Record Queue (sections 8.1, 8.2) -/

/-- What an INTERVAL record holds for one voltage channel (R123). -/
structure VoltResult where
  values : Option (Nat × Nat × Nat)
  clean : Option (Nat × Nat × Nat)
  band : Option Bool
  deriving DecidableEq, Repr

/-- INTERVAL record body (R123). -/
structure IntervalBody where
  number : Nat
  start : Stamp
  stop : Stamp
  partialMark : Bool
  early : Bool
  counted : Nat
  flagged : Nat
  union : BitVec 8
  volts : PerVolt VoltResult
  currents : PerCurr (Option Nat)
  freqMean : Option Nat
  freqMin : Option Nat
  freqMax : Option Nat
  profile : Nat
  dipStarts : Nat
  escalations : Nat
  swellStarts : Nat
  lost : Nat
  deriving DecidableEq, Repr

/-- The attribution part of an EVENT record (R92): result, phase, reason, and I_pre, I_ev and the rise when
computed. -/
structure AttrResult where
  result : Attribution
  phase : Option Phase
  reason : AttrReason
  rise : Option (Nat × Nat × Int)
  deriving DecidableEq, Repr

/-- EVENT record body (R93): the closed event, its end, duration in microseconds, extreme, attribution and grid
cell (row, column). -/
structure EventBody where
  event : OpenEvent
  cause : CloseCause
  endNumber : Nat
  endStamp : Stamp
  duration : Nat
  extreme : Nat
  attribution : AttrResult
  cell : Option (Nat × Nat)
  deriving DecidableEq, Repr

/-- CAPTURE record body without its points (R107). -/
structure CaptureBody where
  truncated : Bool
  cut : Bool
  channels : BitVec 8
  decim : Nat
  firstStrobe : BitVec 32
  prePoints : Nat
  postPoints : Nat
  postEnd : Nat
  startStrobe : Nat
  startStamp : Stamp
  triggers : List Trigger
  overflow : Nat
  deriving DecidableEq, Repr

/-- CAMPAIGN_START record body (R127). -/
structure StartBody where
  nominal : Nat
  cycles : Nat
  declared : Nat
  table : PerChannel ChanEntry
  grid : GridTable
  modules : PerModule ModuleState
  deriving DecidableEq, Repr

/-- CAMPAIGN_END record body (R133); `restart` is the reason RESTART. -/
structure EndBody where
  restart : Bool
  summary : Summary
  lost : Nat
  dipCells : List Nat
  swellCells : List Nat
  deriving DecidableEq, Repr

/-- Causes of a SETTINGS record (R193). -/
inductive SettingsCause where
  | start | interval | early | stop | stopped | restart
  deriving DecidableEq, Repr

/-- SETTINGS record body (R193); `applied` is the link pending mask. -/
structure SettingsBody where
  cause : SettingsCause
  applied : BitVec 8
  intervalSeconds : Nat
  activeProfile : Nat
  attribThreshold : Nat
  attribFloor : Nat
  profile : Profile
  deriving DecidableEq, Repr

/-- The six record kinds (section 8.1). -/
inductive RecordBody where
  | interval (body : IntervalBody)
  | event (body : EventBody)
  | capture (body : CaptureBody)
  | campaignStart (body : StartBody)
  | campaignEnd (body : EndBody)
  | settings (body : SettingsBody)
  deriving DecidableEq, Repr

/-- A record: its header contents and body (section 8.1). Its length follows from its body. -/
structure Record where
  quality : TimeQuality
  campaign : Nat
  sequence : Nat
  stamp : Stamp
  body : RecordBody
  deriving DecidableEq, Repr

/-- A queue entry (R135). For a CAPTURE record the points stay in capture memory. -/
structure Entry where
  record : Record
  appended : Nat
  programmed : Nat
  firstSector : Option Nat
  lastSector : Option Nat
  stored : Bool
  emitted : Bool
  deriving DecidableEq, Repr

/-- The next sequence (R135). -/
inductive NextSeq where
  | undefined
  | number (n : Nat)
  | exhausted
  deriving DecidableEq, Repr

/-- Record Queue (R135). -/
structure RQ where
  entries : List Entry
  next : NextSeq
  intervalLoss : Nat
  campaignLoss : Nat
  totalLoss : Nat
  notCreated : Nat
  deriving DecidableEq, Repr

/-! ## Store Writer and Map Cache (chapter 8) -/

/-- A page serial, or EXHAUSTED (R145). -/
inductive Serial where
  | number (n : Nat)
  | exhausted
  deriving DecidableEq, Repr

/-- A page of the ring: logical sector and page 0 to 15. -/
structure PagePos where
  sector : Nat
  page : Nat
  deriving DecidableEq, Repr

/-- A translation (R143): logical sector, physical sector, USABLE or RETIRED. -/
structure Translation where
  logical : Nat
  physical : Nat
  usable : Bool
  deriving DecidableEq, Repr

/-- Work the writer still has to do before it may program again, oldest first: translate the sector the head stands
at and enter it (R146, R152); translate the sector the tail stands at (R148); read the header of page 0 of the tail
(R148) or of page 15 (R149); erase the head sector (R148); retire a sector after a failed program or erase (R151,
R153). -/
inductive WriterTask where
  | seekHead
  | seekTail
  | readTail
  | readLast
  | erase
  | retire (sector : Nat) (programFailed : Bool)
  deriving DecidableEq, Repr

/-- Store Writer (R145). The page buffer with its bookkeeping (`seqRef`, `starts`, `firstOffset`, and `oldest`, the
strobe index at which its oldest byte was appended), the head and its erased mark, the tail and its sequence, the next
serial, the watermark, the streak, the head departure count, the stop mark with the kept last sequence (R149), whether
a flush is due (R147), the tasks in hand and the translation in hand, the geometry in use (R141) and the map fill
(R156; `none` is UNKNOWN). -/
structure SW where
  buffer : List Byte
  seqRef : Nat
  starts : Nat
  firstOffset : Nat
  oldest : Nat
  head : Option PagePos
  headErased : Bool
  tail : Option Nat
  tailSeq : Nat
  serial : Serial
  watermark : Nat
  streak : Nat
  headDepartures : Nat
  stopMark : Option Nat
  flushDue : Bool
  tasks : List WriterTask
  translation : Option Translation
  mode : MapMode
  sectors : Nat
  logical : Nat
  usable : Nat
  mapFill : Option (Nat × List Nat)
  deriving DecidableEq, Repr

/-! ## Store Reader and Port Arbiter (chapter 9) -/

/-- The two requesters of the arbitrated port (R173). -/
inductive Requester where
  | writer | reader
  deriving DecidableEq, Repr

/-- The operations of the store port (R174). Sectors are physical, but for the map entries, named by their logical
sector. `retireMap` writes 0x00 to the state byte of an entry (R151); `loadMap` programs the 4 bytes of one (R156). -/
inductive PortOp where
  | readMap (logical : Nat)
  | readHeader (sector page : Nat)
  | readPage (sector page : Nat)
  | program (sector page : Nat) (data : List Byte)
  | retireMap (logical : Nat)
  | loadMap (logical : Nat) (entry : List Byte)
  | erase (sector : Nat)
  | eraseMap
  deriving DecidableEq, Repr

/-- The operation in flight (R159): what it is, who asked (`none` for MOUNT, FORMAT and MAP LOAD), the strobe issues
since its start, and whether its requester no longer waits for it. -/
structure InFlight where
  op : PortOp
  requester : Option Requester
  elapsed : Nat
  stale : Bool
  deriving DecidableEq, Repr

/-- A page header as read (section 12.6). -/
structure PageHeader where
  tailOpen : Bool
  serial : Nat
  seqRef : Nat
  starts : Nat
  firstOffset : Nat
  deriving DecidableEq, Repr

/-- Progress of the mount scan (R161, R162). `next` is the sector to scan, or in the walk `page` the next page of the
head sector; `low` and `high` are the VALID sectors of lowest and highest page-0 serial with their page-0 headers;
`firstUsable` the first USABLE sector and `afterHead` the first USABLE sector scanned after `high`; `headPage` and
`headHeader` the last page accepted. -/
structure MountJob where
  next : Nat
  retired : Nat
  empty : Nat
  valid : Nat
  damaged : Nat
  low : Option (Nat × PageHeader)
  high : Option (Nat × PageHeader)
  firstUsable : Option Nat
  afterHead : Option Nat
  walking : Bool
  page : Nat
  headPage : Nat
  headHeader : PageHeader
  deriving DecidableEq, Repr

/-- Progress of a long store operation that owns the port (R155, R156, R160). FORMAT: the sector taken, whether its
retirement is being programmed, and the first USABLE sector. MAP LOAD: start index, whether the map erase is still to
come, the sectors left and the count programmed. -/
inductive StoreJob where
  | none
  | mount (job : MountJob)
  | format (sector : Nat) (retiring : Bool) (first : Option Nat)
  | mapLoad (start : Nat) (erase : Bool) (left : List Nat) (done : Nat)
  deriving DecidableEq, Repr

/-- A READ RECORDS order held (R165). -/
structure ReadOrder where
  tag : Byte
  first : Nat
  count : Nat
  deriving DecidableEq, Repr

/-- A record being parsed by the reader (R168): bytes met so far, and once its header is known its sequence, total
length and whether it is served or passed over; `handed` counts the bytes already handed on in pieces. `guess` is the
last sequence that the header of the page it began in names, its own when its header runs past that page. -/
structure RecordProgress where
  guess : Nat
  bytes : List Byte
  got : Nat
  known : Option (Nat × Nat × Bool)
  handed : Nat
  deriving DecidableEq, Repr

/-- Where the current readback stands (R165 to R168). LOCATING: `settle`, the search for the sector that holds the last page
of the written span (the distance of the sector before or of the head at which it began, and the one it has come to, in sectors
from the tail), the sector stage (bounds in sectors from the tail, the starts of page 0 of the sector at the lower bound once read, and the probe with its first choice), the page
stage (found sector, bounds, and the starts of the page at the lower bound once read) and the step-back (page distance
from the tail). SERVING: the next page to read, or the page in hand with the last sequence that its header names and its
payload bytes left. -/
inductive ReadPhase where
  | settle
  | lastSector (top distance : Nat)
  | sectors (lo hi : Nat) (starts : Option Nat) (probe : Option (Nat × Nat))
  | pages (sector lo hi : Nat) (starts : Option Nat)
  | stepBack (distance : Nat)
  | walk (at_ : PagePos)
  | parse (at_ : PagePos) (last : Nat) (rest : List Byte)
  deriving DecidableEq, Repr

/-- The six outcome counts (section 9.3). -/
structure Outcomes where
  served : Nat
  damaged : Nat
  gone : Nat
  pending : Nat
  torn : Nat
  absent : Nat
  deriving DecidableEq, Repr

/-- The current readback (R159): the order at the front of the queue, next wanted sequence, outcome counts, record in
progress, cancel mark, the CANCEL READ tags waiting on it (R171), and the translation in hand. -/
structure Readback where
  phase : ReadPhase
  wanted : Nat
  outcomes : Outcomes
  record : Option RecordProgress
  cancel : Bool
  waiters : List Byte
  translation : Option Translation
  deriving DecidableEq, Repr

/-- Outcome marks of a readback piece (R170). -/
inductive PieceMark where
  | good | damaged | torn | pending
  deriving DecidableEq, Repr

/-- A readback piece handed on (R170). -/
structure Piece where
  tag : Byte
  sequence : Nat
  index : Nat
  last : Bool
  mark : PieceMark
  bytes : List Byte
  deriving DecidableEq, Repr

/-- Store Reader and Port Arbiter (R159). `queue` holds the readback orders, the front one being current; `job` is the
mount, FORMAT or MAP LOAD in progress; `jobTranslation` the translation in hand for it. -/
structure SR where
  state : StoreState
  cause : Option FaultCause
  queue : List ReadOrder
  current : Option Readback
  piece : Option Piece
  holder : Option Requester
  tenure : Nat
  flight : Option InFlight
  job : StoreJob
  jobTranslation : Option Translation
  deriving DecidableEq, Repr

/-! ## Module Bus Master (chapter 10) -/

/-- A fetch queue entry (R176). -/
structure FetchEntry where
  module : Fin 4
  forced : Bool
  attempt : Bool
  tag : Option Byte
  deriving DecidableEq, Repr

/-- The transaction in flight (R176). `done` counts the bytes done. -/
inductive Transaction where
  | fetch (module : Fin 4) (done : Nat)
  | read (tag : Byte) (address offset count done : Nat)
  | write (tag : Byte) (address offset : Nat) (data : List Byte) (done : Nat)
  deriving DecidableEq, Repr

/-- Module Bus Master (R176). `abortTag` is the abort whose recovery runs; `retryHold` is in oscillator periods, 0 when
no hold runs; `cut` records that a RESTART ends the transaction at the end of its byte (R184). -/
structure MB where
  state : BusState
  owner : BusOwner
  queue : List FetchEntry
  transaction : Option Transaction
  heldAbort : Option Byte
  abortTag : Option Byte
  retryHold : PerModule Nat
  lastFetch : PerModule FetchOutcome
  cut : Bool
  deriving DecidableEq, Repr

/-! ## Station Link Interface (chapter 11) -/

/-- The settings in force (section 11.5), in catalogue order. -/
structure Settings where
  nominalFreq : Nat
  windowCycles : Nat
  declaredCounts : Nat
  intervalSeconds : Nat
  activeProfile : Nat
  attribThreshold : Nat
  attribFloor : Nat
  refMode : RefMode
  refManual : Phase
  refPriority : List Phase
  revertive : Bool
  trackFloor : Nat
  holdoverLimit : Nat
  qualAccept : Nat
  qualReject : Nat
  qualGoodTimes : Nat
  qualFailTimes : Nat
  armTimeout : Nat
  capturePre : Nat
  capturePost : Nat
  captureDecim : Nat
  captureChannels : BitVec 8
  captureTriggers : BitVec 3
  captureExtend : Bool
  captureHoldoff : Nat
  timeSource : TimeSource
  stepLimitMs : Nat
  liveRecords : Bool
  storeWrap : StoreWrap
  flushAge : Nat
  storeSectors : Nat
  mapMode : MapMode
  logSectors : Nat
  mapCache : Bool
  writerBurst : Nat
  readerBurst : Nat
  urgentLevel : Nat
  modbusOwner : BusOwner
  hold : Bool
  attnEnable : BitVec 21
  deriving DecidableEq, Repr

/-- The pending set (R193); the pending limit table stands in the Event Detector. -/
structure PendingSet where
  intervalSeconds : Option Nat
  activeProfile : Option Nat
  attribThreshold : Option Nat
  attribFloor : Option Nat
  deriving DecidableEq, Repr

/-- An order in the order buffer (R186). `whole` is false for an order whose form spells none: an ORDER payload too short to
hold a tag and a kind, or GRID lists that do not fit their fields. -/
structure Order where
  tag : Byte
  kind : Byte
  args : List Byte
  whole : Bool
  deriving DecidableEq, Repr

/-- A reply (section 11.3) with its body laid out as section 12.4 gives. -/
structure Reply where
  tag : Byte
  kind : Byte
  status : ReplyStatus
  reason : Reason
  cancelled : Bool
  body : List Byte
  deriving DecidableEq, Repr

/-- The long store orders (R187). -/
inductive LongOrder where
  | mount | format | mapLoad | unmount
  deriving DecidableEq, Repr

/-- The record in live emission (R190): its sequence, the index of the next fragment, and whether that fragment is in
transmission. -/
structure Live where
  sequence : Nat
  index : Nat
  sending : Bool
  deriving DecidableEq, Repr

/-- What the frame in transmission carries (R189). -/
inductive TxKind where
  | reply
  | live (sequence : Nat) (last : Bool)
  | readback
  | sample
  deriving DecidableEq, Repr

/-- The frame in transmission, byte for byte (section 12.3). -/
structure TxFrame where
  kind : TxKind
  bytes : List Byte
  deriving DecidableEq, Repr

/-- Station Link Interface (chapter 11): link state (R185), order buffer (R186), reply queue with the number of places
reserved (R188), the long store order in flight with its tag (R187), the record in live emission (R190), the frame in
transmission (R189), the settings in force and pending (R192, R193) and the set marks of the latched flags (R195; the
persistent flags follow their conditions and the enables are ATTN_ENABLE). -/
structure SL where
  linkUp : Bool
  orders : List Order
  replies : List Reply
  reserved : Nat
  storeOrder : Option (LongOrder × Byte)
  live : Option Live
  tx : Option TxFrame
  settings : Settings
  pending : PendingSet
  latched : BitVec 21
  deriving DecidableEq, Repr

/-! ## The whole part -/

/-- The state of the part, one field per block, then the model's own fields: `pending`, the commands that wait, first
in first out, and `draws`, the number of free choices taken so far (notes/assumptions/2.md). -/
structure State where
  lr : LR
  mm : MM
  cc : CC
  ct : CT
  mu : MU
  ed : ED
  cu : CU
  tb : TB
  ia : IA
  rq : RQ
  sw : SW
  cache : List Translation
  sr : SR
  mb : MB
  sl : SL
  pending : List Instr
  draws : Nat
  deriving DecidableEq, Repr

/-- Why a step can stop with a fault: never. The manual gives no command of this part a fault that stops it; a store
fault is a state of the part (R154), so this type has no constructor. Safe. -/
inductive Fault where
  deriving DecidableEq, Repr

/-- Why a step can be refused. -/
inductive Refusal where
  /-- Raised by an arm of `exec` whose command has no meaning yet. Safe. No arm raises it. -/
  | notModelled (mnemonic : String)
  deriving DecidableEq, Repr

/-! ## Power-on values -/

/-- A module's monitor state at power-on (section 1.6). -/
def ModMon.reset : ModMon :=
  { state := .absent, good := 0, bad := 0, accepted := 0, duplicate := 0, stray := 0, fault := false, joined := false,
    lastAccepted := 0, lastDuplicate := 0, lastStray := 0, lastVerdict := .none }

/-- A channel entry at power-on (section 2.1). -/
def ChanEntry.reset (module : Fin 4) (slotB : Bool) : ChanEntry :=
  { module := module, slotB := slotB, enabled := true, gain := 32768, offset := 0, cal := .default }

/-- A channel's half-cycle records at power-on (R55). -/
def ChanSums.reset : ChanSums := { previous := none, running := none, cut := false }

/-- A limit profile at power-on (section 5.1). -/
def Profile.reset : Profile :=
  { dipStart := 9000, intrStart := 500, swellStart := 11000, hyst := 200, bandLow := 9000, bandHigh := 11000 }

/-- The grid table at power-on (section 5.2). -/
def GridTable.reset : GridTable :=
  { residual := [8000, 7000, 4000, 500], swell := [12000, 14000], duration := [20, 100, 500, 1000, 5000] }

/-- The settings at power-on (section 11.5). -/
def Settings.reset : Settings :=
  { nominalFreq := 50, windowCycles := 10, declaredCounts := 5000000, intervalSeconds := 600, activeProfile := 0,
    attribThreshold := 5000, attribFloor := 10000, refMode := .auto, refManual := .p1, refPriority := [.p1, .p2, .p3],
    revertive := false, trackFloor := 2000, holdoverLimit := 10, qualAccept := 0, qualReject := 4, qualGoodTimes := 3,
    qualFailTimes := 2, armTimeout := 30, capturePre := 2, capturePost := 6, captureDecim := 1, captureChannels := 0xFF,
    captureTriggers := 7, captureExtend := true, captureHoldoff := 8, timeSource := .marked, stepLimitMs := 10,
    liveRecords := true, storeWrap := .overwrite, flushAge := 5, storeSectors := 4096, mapMode := .direct,
    logSectors := 1024, mapCache := true, writerBurst := 4, readerBurst := 2, urgentLevel := 12, modbusOwner := .auto,
    hold := false, attnEnable := 0x1FFFFF }

/-- The campaign summary at power-on and at START (R126, R127). -/
def Summary.zero : Summary :=
  { intervals := 0, inBand := 0, noClean := 0, dips := 0, interruptions := 0, swells := 0, missed := 0 }

/-- The part as the power-on reset ends, strobe 0 issued (R1): slot 0 is open in every module, and every other piece
of state has the power-on value its chapter gives. The writer's values that the manual sets only at a mount or FORMAT
(head, serial, geometry in use), and the arm timer's 0, for which R126 gives no value, are named in
notes/assumptions/3.md. -/
def State.reset : State :=
  { lr := { strobe := 0, slots := ⟨[⟨0, none⟩], [⟨0, none⟩], [⟨0, none⟩], [⟨0, none⟩]⟩ }
    mm := { count := 0, mods := ⟨.reset, .reset, .reset, .reset⟩ }
    cc :=
      { table := ⟨.reset 0 false, .reset 1 false, .reset 2 false, .reset 3 false,
                  .reset 0 true, .reset 1 true, .reset 2 true, .reset 3 true⟩
        pending := ⟨none, none, none, none⟩
        pass := ⟨.drop, .drop, .drop, .drop⟩
        held := none
        buffer := [] }
    ct :=
      { state := .freerun, reference := none, lastLocked := none, held := none, last := none,
        previous := ⟨none, none, none⟩, run := [], align := 0, revertPhase := none, revertCount := 0, timer := none }
    mu :=
      { channels := ⟨.reset, .reset, .reset, .reset, .reset, .reset, .reset, .reset⟩
        window := none, carriedRefChange := false, carriedTimeStep := false, counter := 0
        snapshot :=
          { boundary := none, values := ⟨none, none, none, none, none, none, none, none⟩, frequency := none,
            tracker := .freerun } }
    ed :=
      { limits := ⟨.reset, .reset, .reset, .reset⟩, pendingLimits := none, grid := .reset,
        dipCells := List.replicate 30 0, swellCells := List.replicate 18 0, eventNumber := 0, dip := none,
        swell := none, previousCurrents := ⟨none, none, none⟩, lastBoundary := none }
    cu := { state := .filling, ring := [], hand := none, holdoff := 0 }
    tb := { seconds := 0, sub := 0, quality := .unset, age := none, slew := 0 }
    ia :=
      { state := .stopped, number := 0, armTimer := 0, summary := .zero, stopTag := none, endSeq := none,
        interval := none }
    rq := { entries := [], next := .undefined, intervalLoss := 0, campaignLoss := 0, totalLoss := 0, notCreated := 0 }
    sw :=
      { buffer := [], seqRef := 0, starts := 0, firstOffset := 240, oldest := 0, head := none, headErased := false,
        tail := none, tailSeq := 0, serial := .number 0, watermark := 0, streak := 0, headDepartures := 0,
        stopMark := none, flushDue := false, tasks := [], translation := none, mode := .direct, sectors := 0,
        logical := 0, usable := 0, mapFill := none }
    cache := []
    sr :=
      { state := .unmounted, cause := none, queue := [], current := none, piece := none, holder := none, tenure := 0,
        flight := none, job := .none, jobTranslation := none }
    mb :=
      { state := .idle, owner := .auto, queue := [], transaction := none, heldAbort := none, abortTag := none,
        retryHold := ⟨0, 0, 0, 0⟩, lastFetch := ⟨.none, .none, .none, .none⟩, cut := false }
    sl :=
      { linkUp := false, orders := [], replies := [], reserved := 0, storeOrder := none, live := none, tx := none,
        settings := .reset, pending := ⟨none, none, none, none⟩, latched := 0 }
    pending := []
    draws := 0 }

end Sys2Proof.Machine
end

