-- ==== Sys2Proof/Machine/Collections.lean ====
section
/-! DEFINITION. Access to the fixed collections of the state: one value per module, channel, phase. -/

namespace Sys2Proof.Machine

def PerModule.get {α : Type} (p : PerModule α) (m : Fin 4) : α :=
  match m with
  | 0 => p.m0
  | 1 => p.m1
  | 2 => p.m2
  | 3 => p.m3

def PerModule.set {α : Type} (p : PerModule α) (m : Fin 4) (x : α) : PerModule α :=
  match m with
  | 0 => { p with m0 := x }
  | 1 => { p with m1 := x }
  | 2 => { p with m2 := x }
  | 3 => { p with m3 := x }

def PerModule.map {α β : Type} (p : PerModule α) (f : α → β) : PerModule β := ⟨f p.m0, f p.m1, f p.m2, f p.m3⟩

def PerModule.toList {α : Type} (p : PerModule α) : List α := [p.m0, p.m1, p.m2, p.m3]

/-- A collection made module by module. -/
def PerModule.of {α : Type} (f : Fin 4 → α) : PerModule α := ⟨f 0, f 1, f 2, f 3⟩

/-- The modules in order. -/
def allModules : List (Fin 4) := [0, 1, 2, 3]

def PerChannel.get {α : Type} (p : PerChannel α) : Channel → α
  | .v1 => p.v1
  | .v2 => p.v2
  | .v3 => p.v3
  | .vne => p.vne
  | .i1 => p.i1
  | .i2 => p.i2
  | .i3 => p.i3
  | .neutral => p.neutral

def PerChannel.set {α : Type} (p : PerChannel α) (c : Channel) (x : α) : PerChannel α :=
  match c with
  | .v1 => { p with v1 := x }
  | .v2 => { p with v2 := x }
  | .v3 => { p with v3 := x }
  | .vne => { p with vne := x }
  | .i1 => { p with i1 := x }
  | .i2 => { p with i2 := x }
  | .i3 => { p with i3 := x }
  | .neutral => { p with neutral := x }

def PerChannel.map {α β : Type} (p : PerChannel α) (f : α → β) : PerChannel β :=
  ⟨f p.v1, f p.v2, f p.v3, f p.vne, f p.i1, f p.i2, f p.i3, f p.neutral⟩

def PerChannel.toList {α : Type} (p : PerChannel α) : List α :=
  [p.v1, p.v2, p.v3, p.vne, p.i1, p.i2, p.i3, p.neutral]

/-- A collection made channel by channel. -/
def PerChannel.of {α : Type} (f : Channel → α) : PerChannel α :=
  ⟨f .v1, f .v2, f .v3, f .vne, f .i1, f .i2, f .i3, f .neutral⟩

/-- The roles in role order (section 2.1). -/
def allChannels : List Channel := [.v1, .v2, .v3, .vne, .i1, .i2, .i3, .neutral]

/-- The code of a role (section 12.1). -/
def Channel.code : Channel → Nat
  | .v1 => 0
  | .v2 => 1
  | .v3 => 2
  | .vne => 3
  | .i1 => 4
  | .i2 => 5
  | .i3 => 6
  | .neutral => 7

/-- The role of a code. -/
def Channel.ofCode (n : Nat) : Option Channel := allChannels[n]?

/-- Whether a role is one of the four voltage channels. -/
def Channel.isVoltage : Channel → Bool
  | .v1 | .v2 | .v3 | .vne => true
  | .i1 | .i2 | .i3 | .neutral => false

def PerPhase.get {α : Type} (p : PerPhase α) : Phase → α
  | .p1 => p.p1
  | .p2 => p.p2
  | .p3 => p.p3

def PerPhase.map {α β : Type} (p : PerPhase α) (f : α → β) : PerPhase β := ⟨f p.p1, f p.p2, f p.p3⟩

def PerPhase.toList {α : Type} (p : PerPhase α) : List α := [p.p1, p.p2, p.p3]

/-- A collection made phase by phase. -/
def PerPhase.of {α : Type} (f : Phase → α) : PerPhase α := ⟨f .p1, f .p2, f .p3⟩

/-- The phases in order V1, V2, V3. -/
def allPhases : List Phase := [.p1, .p2, .p3]

/-- The voltage channel of a phase. -/
def Phase.voltage : Phase → Channel
  | .p1 => .v1
  | .p2 => .v2
  | .p3 => .v3

/-- The current channel of a phase (R82). -/
def Phase.current : Phase → Channel
  | .p1 => .i1
  | .p2 => .i2
  | .p3 => .i3

/-- The role code of a phase. -/
def Phase.code : Phase → Nat
  | .p1 => 0
  | .p2 => 1
  | .p3 => 2

/-- The phase of a role code. -/
def Phase.ofCode (n : Nat) : Option Phase := allPhases[n]?

def PerVolt.map {α β : Type} (p : PerVolt α) (f : α → β) : PerVolt β := ⟨f p.v1, f p.v2, f p.v3, f p.vne⟩

def PerVolt.toList {α : Type} (p : PerVolt α) : List α := [p.v1, p.v2, p.v3, p.vne]

def PerCurr.map {α β : Type} (p : PerCurr α) (f : α → β) : PerCurr β := ⟨f p.i1, f p.i2, f p.i3, f p.neutral⟩

def PerCurr.toList {α : Type} (p : PerCurr α) : List α := [p.i1, p.i2, p.i3, p.neutral]

def LimitTable.get (t : LimitTable) : Nat → Profile
  | 0 => t.p0
  | 1 => t.p1
  | 2 => t.p2
  | _ => t.p3

def LimitTable.set (t : LimitTable) (i : Nat) (p : Profile) : LimitTable :=
  match i with
  | 0 => { t with p0 := p }
  | 1 => { t with p1 := p }
  | 2 => { t with p2 := p }
  | _ => { t with p3 := p }

def LimitTable.toList (t : LimitTable) : List Profile := [t.p0, t.p1, t.p2, t.p3]

/-! Setters of the state, one per block: a block is changed by giving the state its new value. -/

def State.setLr (s : State) (x : LR) : State := { s with lr := x }
def State.setMm (s : State) (x : MM) : State := { s with mm := x }
def State.setCc (s : State) (x : CC) : State := { s with cc := x }
def State.setCt (s : State) (x : CT) : State := { s with ct := x }
def State.setMu (s : State) (x : MU) : State := { s with mu := x }
def State.setEd (s : State) (x : ED) : State := { s with ed := x }
def State.setCu (s : State) (x : CU) : State := { s with cu := x }
def State.setTb (s : State) (x : TB) : State := { s with tb := x }
def State.setIa (s : State) (x : IA) : State := { s with ia := x }
def State.setRq (s : State) (x : RQ) : State := { s with rq := x }
def State.setSw (s : State) (x : SW) : State := { s with sw := x }
def State.setCache (s : State) (x : List Translation) : State := { s with cache := x }
def State.setSr (s : State) (x : SR) : State := { s with sr := x }
def State.setMb (s : State) (x : MB) : State := { s with mb := x }
def State.setSl (s : State) (x : SL) : State := { s with sl := x }
def State.setPending (s : State) (x : List Instr) : State := { s with pending := x }
def State.setDraws (s : State) (x : Nat) : State := { s with draws := x }

end Sys2Proof.Machine
end

