-- ==== Sys2Proof/Machine/Flags.lean ====
section
/-! DEFINITION. Attention flags (section 11.7) and window flags (section 4.5): their mask bits, the conditions the
persistent flags follow, and the summary bit. -/

namespace Sys2Proof.Machine

/-! ## Attention -/

/-- The mask bit of an attention flag (section 12.1). -/
def Flag.bit : Flag → Nat
  | .modDown m => m.val
  | .trackHold => 4
  | .timeUnset => 5
  | .timeDrift => 6
  | .storeFault => 7
  | .storeFull => 8
  | .busHung => 9
  | .seqExhausted => 10
  | .refChange => 11
  | .calReject => 12
  | .timeStep => 13
  | .captureMissed => 14
  | .recordLoss => 15
  | .forwardLoss => 16
  | .sectorRetired => 17
  | .mapDamaged => 18
  | .linkError => 19
  | .orderOverflow => 20

/-- A flag alone as a mask. -/
def Flag.mask (f : Flag) : BitVec 21 := BitVec.ofNat 21 (2 ^ f.bit)

/-- The mask of the latched flags (section 11.7): bits 11 to 20. -/
def latchedMask : BitVec 21 := 0x1FF800

/-- A latched flag's event sets its mark, whether or not it was set (R195). -/
def latch (f : Flag) (s : State) : State := s.setSl { s.sl with latched := s.sl.latched ||| f.mask }

/-- The MOD_DOWN condition of a module (R15): enabled and not QUALIFIED. -/
def ModMon.down (x : ModMon) : Bool :=
  match x.state with
  | .absent | .unqualified => true
  | .qualified | .disabled => false

/-- The TRACK_HOLD condition (R52). -/
def trackHold (s : State) : Bool :=
  match s.ct.state with
  | .holdover | .freerun => true
  | .acquire | .locked => false

/-- The STORE_FULL condition (R149, R154): the stop mark is set, and the store is not FAULTED. -/
def storeFull (s : State) : Bool := s.sw.stopMark.isSome && s.sr.state != .faulted

/-- The BUS_HUNG condition (R176). -/
def busHung (s : State) : Bool := s.mb.state == .hung || s.mb.state == .recovering

/-- Whether a flag's set mark is set: a latched flag by its mark, a persistent flag by its condition (R195). -/
def flagSet (s : State) : Flag → Bool
  | .modDown m => (s.mm.mods.get m).down
  | .trackHold => trackHold s
  | .timeUnset => s.tb.quality == .unset
  | .timeDrift => s.tb.quality == .drifting
  | .storeFault => s.sr.state == .faulted
  | .storeFull => storeFull s
  | .busHung => busHung s
  | .seqExhausted => s.rq.next == .exhausted
  | .refChange => s.sl.latched.getLsbD 11
  | .calReject => s.sl.latched.getLsbD 12
  | .timeStep => s.sl.latched.getLsbD 13
  | .captureMissed => s.sl.latched.getLsbD 14
  | .recordLoss => s.sl.latched.getLsbD 15
  | .forwardLoss => s.sl.latched.getLsbD 16
  | .sectorRetired => s.sl.latched.getLsbD 17
  | .mapDamaged => s.sl.latched.getLsbD 18
  | .linkError => s.sl.latched.getLsbD 19
  | .orderOverflow => s.sl.latched.getLsbD 20

/-- The 21 flags in the order of their bits. -/
def allFlags : List Flag :=
  [.modDown 0, .modDown 1, .modDown 2, .modDown 3, .trackHold, .timeUnset, .timeDrift, .storeFault, .storeFull,
   .busHung, .seqExhausted, .refChange, .calReject, .timeStep, .captureMissed, .recordLoss, .forwardLoss,
   .sectorRetired, .mapDamaged, .linkError, .orderOverflow]

/-- The set marks of all flags as a mask. -/
def setMarks (s : State) : BitVec 21 :=
  allFlags.foldl (fun m f => if flagSet s f then m ||| f.mask else m) 0

/-- The summary bit (R195): at least one flag is both set and enabled. -/
def summaryBit (s : State) : Bool := setMarks s &&& s.sl.settings.attnEnable != 0

/-! ## Window flags -/

/-- The window flags in the order of their mask bits (section 12.1). -/
inductive WinFlag where
  | event | hold | refChange | gap | unqual | uncal | overrange | timeStep
  deriving DecidableEq, Repr

/-- The mask of a window flag. -/
def WinFlag.mask : WinFlag → BitVec 8
  | .event => 1
  | .hold => 2
  | .refChange => 4
  | .gap => 8
  | .unqual => 16
  | .uncal => 32
  | .overrange => 64
  | .timeStep => 128

/-- A flag joined to a flag set when a condition holds. -/
def WinFlag.join (f : WinFlag) (b : Bool) (m : BitVec 8) : BitVec 8 := if b then m ||| f.mask else m

end Sys2Proof.Machine
end

