-- ==== Sys2Proof/Machine/Bytes.lean ====
section
/-! DEFINITION. Byte order, sign extension, rounding, square root and the three checks (sections 6.1, 6.4, 6.6 and
chapter 12). -/

namespace Sys2Proof.Machine

/-! ## Little-endian fields (R199) -/

/-- The low 8 bits of a number. -/
def byteOf (n : Nat) : Byte := BitVec.ofNat 8 n

/-- A number as an unsigned little-endian field of the given width in bytes. -/
def leBytes : Nat → Nat → List Byte
  | 0, _ => []
  | w + 1, n => byteOf n :: leBytes w (n / 256)

/-- A signed little-endian field, two's complement. -/
def leSigned (w : Nat) (n : Int) : List Byte := leBytes w (n % (256 ^ w : Nat)).toNat

/-- The number an unsigned little-endian field holds. -/
def leNat : List Byte → Nat
  | [] => 0
  | b :: t => b.toNat + 256 * leNat t

/-- The number a signed little-endian field holds. -/
def leInt (bs : List Byte) : Int :=
  let n := leNat bs
  if 2 * n < 256 ^ bs.length then (n : Int) else (n : Int) - (256 ^ bs.length : Nat)

/-- The bytes of a field at an offset. -/
def field (bs : List Byte) (offset w : Nat) : List Byte := (bs.drop offset).take w

/-- The unsigned number in a field. -/
def fieldNat (bs : List Byte) (offset w : Nat) : Nat := leNat (field bs offset w)

/-- The signed number in a field. -/
def fieldInt (bs : List Byte) (offset w : Nat) : Int := leInt (field bs offset w)

/-- An absent numeric value: all ones of its width (R199). -/
def absent (w : Nat) : List Byte := List.replicate w 0xFF

/-- A value that may be absent, written as R199 gives. -/
def leOpt (w : Nat) : Option Nat → List Byte
  | some n => leBytes w n
  | none => absent w

/-- A one-byte mark: 1 for yes, 0 for no (DESIGN CHOICE for the fields without a code list, notes/assumptions/70.md). -/
def leBool (b : Bool) : List Byte := [if b then 1 else 0]

/-- Bits collected into a number, bit 0 first. -/
def bits : List Bool → Nat
  | [] => 0
  | b :: t => (if b then 1 else 0) + 2 * bits t

/-! ## Arithmetic (section 6.4) -/

/-- The quotient of two non-negative numbers rounded: one half is added and the floor taken. -/
def roundDiv (a b : Nat) : Nat := (2 * a + b) / (2 * b)

/-- A duration of fine units in microseconds (section 6.1). -/
def microsOf (fine : Nat) : Nat := roundDiv (fine * 625) 2048

/-- A duration in microseconds limited to its 4-byte field (R93). -/
def micros32 (fine : Nat) : Nat := min (microsOf fine) 4294967295

/-- The digits of the integer square root from bit `b - 1` down, on top of `r`. -/
def isqrtFrom (n : Nat) : Nat → Nat → Nat
  | 0, r => r
  | b + 1, r => isqrtFrom n b (if (r + 2 ^ b) * (r + 2 ^ b) ≤ n then r + 2 ^ b else r)

/-- The integer square root, truncated, of a number below 2^96. -/
def isqrt (n : Nat) : Nat := isqrtFrom n 48 0

/-- A number brought into a range. -/
def clampTo (lo hi n : Nat) : Nat := if n < lo then lo else if hi < n then hi else n

/-- A 32-bit count taken modulo 2^32. -/
def wrap32 (n : Nat) : Nat := n % 4294967296

/-- A count raised by one, saturating. -/
def satSucc (top n : Nat) : Nat := if n < top then n + 1 else top

/-! ## Checks (R198) -/

/-- A function applied eight times, once for each bit of a byte. -/
def eight {α : Type} (f : α → α) (a : α) : α := f (f (f (f (f (f (f (f a)))))))

/-- One bit of CRC-8: most significant bit first, polynomial 0x07. -/
def crc8Bit (c : BitVec 8) : BitVec 8 := if c.msb then (c <<< 1) ^^^ 0x07 else c <<< 1

/-- CRC-8, initial value 0. -/
def crc8 (bs : List Byte) : BitVec 8 := bs.foldl (fun c b => eight crc8Bit (c ^^^ b)) 0

/-- One bit of CRC-16: most significant bit first, polynomial 0x1021. -/
def crc16Bit (c : BitVec 16) : BitVec 16 := if c.msb then (c <<< 1) ^^^ 0x1021 else c <<< 1

/-- CRC-16, initial value 0xFFFF. -/
def crc16 (bs : List Byte) : BitVec 16 :=
  bs.foldl (fun c b => eight crc16Bit (c ^^^ ((b.setWidth 16 : BitVec 16) <<< (8 : Nat)))) 0xFFFF

/-- One bit of CRC-32: least significant bit first, so the polynomial 0x04C11DB7 stands reflected. -/
def crc32Bit (c : BitVec 32) : BitVec 32 := if c.getLsbD 0 then (c >>> 1) ^^^ 0xEDB88320 else c >>> 1

/-- CRC-32, initial value and final XOR 0xFFFFFFFF. -/
def crc32 (bs : List Byte) : BitVec 32 :=
  bs.foldl (fun c b => eight crc32Bit (c ^^^ b.setWidth 32)) 0xFFFFFFFF ^^^ 0xFFFFFFFF

/-- The stored form of a CRC-16 (little-endian). -/
def crc16Bytes (bs : List Byte) : List Byte := leBytes 2 (crc16 bs).toNat

/-- The stored form of a CRC-32 (little-endian). -/
def crc32Bytes (bs : List Byte) : List Byte := leBytes 4 (crc32 bs).toNat

end Sys2Proof.Machine
end

