-- ==== Sys2Proof/Machine/Layout.lean ====
section
/-! DEFINITION. The codes of section 12.1 and the layouts of records, pages, map entries and link frames (chapter 12).
The STATUS body stands in Status.lean. -/

namespace Sys2Proof.Machine

/-! ## Codes (section 12.1) -/

def CampaignState.code : CampaignState → Nat
  | .stopped => 0
  | .arming => 1
  | .running => 2
  | .stopping => 3

def ModuleState.code : ModuleState → Nat
  | .absent => 0
  | .unqualified => 1
  | .qualified => 2
  | .disabled => 3

def Verdict.code : Verdict → Nat
  | .none => 0
  | .accepted => 1
  | .neutral => 2
  | .rejected => 3

def CalState.code : CalState → Nat
  | .default => 0
  | .loaded => 1
  | .fetched => 2
  | .rejected => 3
  | .stale => 4

def PassMode.code : PassMode → Nat
  | .drop => 0
  | .all => 1
  | .decimate _ => 2
  | .duringCapture => 3

def TrackState.code : TrackState → Nat
  | .freerun => 0
  | .acquire => 1
  | .locked => 2
  | .holdover => 3

def BoundaryKind.code : BoundaryKind → Nat
  | .crossing => 0
  | .synthetic => 1

def EventClass.code : EventClass → Nat
  | .dip => 0
  | .interruption => 1
  | .swell => 2

def CloseCause.code : CloseCause → Nat
  | .normal => 0
  | .noData => 1
  | .stopped => 2
  | .restart => 3

def Attribution.code : Attribution → Nat
  | .undetermined => 0
  | .upstream => 1
  | .downstream => 2

def AttrReason.code : AttrReason → Nat
  | .none => 0
  | .noChannel => 1
  | .unqualified => 2
  | .noPre => 3
  | .belowFloor => 4
  | .noPeak => 5
  | .swell => 6

def TrigCause.code : TrigCause → Nat
  | .dip => 0
  | .interruption => 1
  | .swell => 2
  | .order => 3

def TrigOutcome.code : TrigOutcome → Nat
  | .none => 0
  | .started => 1
  | .extended => 2
  | .added => 3
  | .missed => 4

def CaptureState.code : CaptureState → Nat
  | .filling => 0
  | .collecting => 1
  | .waiting => 2
  | .holdoff => 3

def TimeQuality.code : TimeQuality → Nat
  | .unset => 0
  | .synced => 1
  | .drifting => 2

def StoreState.code : StoreState → Nat
  | .unmounted => 0
  | .formatting => 1
  | .mounting => 2
  | .mounted => 3
  | .unmounting => 4
  | .faulted => 5

def FaultCause.code : FaultCause → Nat
  | .program => 1
  | .erase => 2
  | .map => 3
  | .retirement => 4
  | .serial => 5
  | .timeout => 6

def BusState.code : BusState → Nat
  | .idle => 0
  | .busy => 1
  | .hung => 2
  | .recovering => 3

def BusOwner.code : BusOwner → Nat
  | .auto => 0
  | .station => 1

def FetchOutcome.code : FetchOutcome → Nat
  | .none => 0
  | .good => 1
  | .rejected => 2
  | .dropped => 3

def ReplyStatus.code : ReplyStatus → Nat
  | .ok => 0
  | .clamped => 1
  | .accepted => 2
  | .done => 3
  | .failed => 4
  | .refused => 5

def Reason.code : Reason → Nat
  | .none => 0
  | .busy => 1
  | .wrongState => 2
  | .invalid => 3
  | .unknown => 4
  | .full => 5
  | .notMounted => 6
  | .hung => 7
  | .noAck => 8
  | .fault => 9

def RefMode.code : RefMode → Nat
  | .auto => 0
  | .manual => 1

def TimeSource.code : TimeSource → Nat
  | .marked => 0
  | .free => 1

def StoreWrap.code : StoreWrap → Nat
  | .overwrite => 0
  | .halt => 1

def MapMode.code : MapMode → Nat
  | .direct => 0
  | .mapped => 1

def SettingsCause.code : SettingsCause → Nat
  | .start => 0
  | .interval => 1
  | .early => 2
  | .stop => 3
  | .stopped => 4
  | .restart => 5

def PieceMark.code : PieceMark → Nat
  | .good => 0
  | .damaged => 1
  | .torn => 2
  | .pending => 3

/-- The kind byte of a record (section 12.6). -/
def RecordBody.code : RecordBody → Nat
  | .interval _ => 1
  | .event _ => 2
  | .capture _ => 3
  | .campaignStart _ => 4
  | .campaignEnd _ => 5
  | .settings _ => 6

/-! ## Parts of layouts -/

/-- A time stamp inside a body: seconds, then microseconds (section 12.6). -/
def Stamp.bytes (t : Stamp) : List Byte := leBytes 4 t.seconds ++ leBytes 4 t.micros

/-- A set of phases as a mask. -/
def PerPhase.maskByte (p : PerPhase Bool) : List Byte := leBytes 1 (bits p.toList)

/-- A CHANNEL table entry with its calibration state (section 12.4): 9 bytes. -/
def ChanEntry.bytes (c : Channel) (e : ChanEntry) : List Byte :=
  leBytes 1 c.code ++ leBytes 1 e.module.val ++ leBool e.slotB ++ leBool e.enabled ++ leBytes 2 e.gain ++
    leSigned 2 e.offset ++ leBytes 1 e.cal.code

/-- The channel table in role order. -/
def tableBytes (t : PerChannel ChanEntry) : List Byte :=
  allChannels.flatMap fun c => (t.get c).bytes c

/-- The three lists of the grid table. -/
def GridTable.bytes (g : GridTable) : List Byte :=
  g.residual.flatMap (leBytes 2) ++ g.swell.flatMap (leBytes 2) ++ g.duration.flatMap (leBytes 4)

/-- Grid cells, row by row. -/
def cellBytes (cells : List Nat) : List Byte := cells.flatMap (leBytes 2)

/-- The six fields of a profile in the order of section 5.1. -/
def Profile.bytes (p : Profile) : List Byte :=
  leBytes 2 p.dipStart ++ leBytes 2 p.intrStart ++ leBytes 2 p.swellStart ++ leBytes 2 p.hyst ++ leBytes 2 p.bandLow ++
    leBytes 2 p.bandHigh

/-! ## Record bodies (section 12.6) -/

/-- Three magnitudes, 0 when absent, since a presence bit stands beside them (R199). -/
def tripleBytes : Option (Nat × Nat × Nat) → List Byte
  | some (a, b, c) => leBytes 2 a ++ leBytes 2 b ++ leBytes 2 c
  | none => leBytes 6 0

/-- A voltage channel of an INTERVAL record (section 12.6). The band without its presence bit is 0: DEDUCED
(notes/assumptions/78.md). -/
def VoltResult.bytes (v : VoltResult) : List Byte :=
  leBytes 1 (bits [v.values.isSome, v.clean.isSome, v.band.isSome]) ++ tripleBytes v.values ++ tripleBytes v.clean ++
    leBool (v.band == some true)

/-- A 2-byte count of an INTERVAL record; what stands for a count above 65,535 is free (notes/assumptions/48.md). -/
def countField (n : Nat) : List Byte := leBytes 2 (if n ≤ 65535 then n else (Config.overCount n).toNat)

/-- The 4-byte field of a count that no rule bounds, the interval number (R119) and the counts of the campaign summary (R133):
above its width it is a free value (notes/assumptions/48.md). -/
def summaryField (n : Nat) : List Byte := leBytes 4 (if n ≤ 4294967295 then n else (Config.overSummary n).toNat)

/-- The body of an INTERVAL record (section 12.6). The interval number rises without a bound (R119): above 4 bytes its field is
free, DESIGN CHOICE (notes/assumptions/48.md). -/
def IntervalBody.bytes (b : IntervalBody) : List Byte :=
  summaryField b.number ++ b.start.bytes ++ b.stop.bytes ++ leBytes 1 (bits [b.partialMark, b.early]) ++
    leBytes 4 b.counted ++ leBytes 4 b.flagged ++ leBytes 1 b.union.toNat ++
    b.volts.toList.flatMap VoltResult.bytes ++ b.currents.toList.flatMap (leOpt 4) ++
    leOpt 4 b.freqMean ++ leOpt 4 b.freqMin ++ leOpt 4 b.freqMax ++ leBytes 1 b.profile ++
    countField b.dipStarts ++ countField b.escalations ++ countField b.swellStarts ++ leBytes 2 b.lost

def PhaseEntry.bytes (e : PhaseEntry) : List Byte :=
  leBytes 1 e.phase.code ++ leBytes 2 e.extreme ++ leBytes 4 (micros32 e.time) ++ leBytes 4 (micros32 e.join)

def AttrResult.bytes (a : AttrResult) : List Byte :=
  leBytes 1 a.result.code ++ leOpt 1 (a.phase.map Phase.code) ++ leBytes 1 a.reason.code ++ leBool a.rise.isSome ++
    match a.rise with
    | some (pre, ev, rise) => leBytes 4 pre ++ leBytes 4 ev ++ leSigned 4 rise
    | none => leBytes 12 0

def SubSpan.bytes (x : SubSpan) : List Byte := leBytes 4 (micros32 x.offset) ++ leBytes 4 (micros32 x.duration)

def EventBody.bytes (b : EventBody) : List Byte :=
  let e := b.event
  leBytes 4 e.number ++ leBytes 1 e.cls.code ++ leBytes 1 b.cause.code ++ leBytes 1 e.profile ++
    leBytes 2 e.startThreshold ++ leBytes 2 e.intrStart ++ leBytes 2 e.hyst ++ leBytes 4 e.startNumber ++
    leBytes 4 b.endNumber ++ e.startStamp.bytes ++ b.endStamp.bytes ++ leBytes 4 b.duration ++ leBytes 2 b.extreme ++
    e.excluded.maskByte ++ leBytes 1 e.phases.length ++ e.phases.flatMap PhaseEntry.bytes ++ b.attribution.bytes ++
    leOpt 1 (b.cell.map Prod.fst) ++ leOpt 1 (b.cell.map Prod.snd) ++ leBytes 1 e.startOutcome.code ++
    leBytes 1 e.intrOutcome.code ++
    if e.cls = .interruption then
      leBytes 1 e.subCount ++ leBytes 4 (micros32 e.subTotal) ++ leBytes 1 e.subSpans.length ++
        e.subSpans.flatMap SubSpan.bytes
    else []

def Trigger.bytes (t : Trigger) : List Byte :=
  leBytes 1 t.cause.code ++ leBytes 4 t.event ++ leBytes 4 t.strobe ++ leBytes 1 t.outcome.code

/-- The descriptor of a CAPTURE record: its body without the points. R107 gives the low 32 bits for the first stored
strobe, the post end and the trigger list; that the start trigger strobe is its low 32 bits too is DEDUCED
(notes/assumptions/60.md). -/
def CaptureBody.bytes (b : CaptureBody) : List Byte :=
  leBytes 1 (bits [b.truncated, b.cut]) ++ leBytes 1 b.channels.toNat ++ leBytes 1 b.decim ++
    leBytes 4 b.firstStrobe.toNat ++ leBytes 2 b.prePoints ++ leBytes 4 b.postPoints ++ leBytes 4 b.postEnd ++
    leBytes 4 b.startStrobe ++ b.startStamp.bytes ++ leBytes 1 b.triggers.length ++ leBytes 1 b.overflow ++
    b.triggers.flatMap Trigger.bytes

/-- The points of a capture, each 3 bytes signed per channel in role order. -/
def pointBytes (points : List Point) : List Byte := points.flatMap fun p => p.values.flatMap (leSigned 3)

def StartBody.bytes (b : StartBody) : List Byte :=
  leBytes 1 b.nominal ++ leBytes 1 b.cycles ++ leBytes 4 b.declared ++ tableBytes b.table ++ b.grid.bytes ++
    b.modules.toList.flatMap (fun m => leBytes 1 m.code) ++ leBytes 2 0x0640 ++ leBytes 1 1

/-- The counts of the campaign summary that come before the records lost (R133). -/
def Summary.bytes (x : Summary) : List Byte :=
  summaryField x.intervals ++ summaryField x.inBand ++ summaryField x.noClean ++ summaryField x.dips ++
    summaryField x.interruptions ++ summaryField x.swells

def EndBody.bytes (b : EndBody) : List Byte :=
  leBool b.restart ++ b.summary.bytes ++ leBytes 4 b.lost ++ summaryField b.summary.missed ++ cellBytes b.dipCells ++
    cellBytes b.swellCells

def SettingsBody.bytes (b : SettingsBody) : List Byte :=
  leBytes 1 b.cause.code ++ leBytes 1 b.applied.toNat ++ leBytes 2 b.intervalSeconds ++ leBytes 1 b.activeProfile ++
    leBytes 2 b.attribThreshold ++ leBytes 4 b.attribFloor ++ b.profile.bytes

/-- The bytes of a record body; a CAPTURE body ends with the points in capture memory. -/
def RecordBody.bytes (points : List Point) : RecordBody → List Byte
  | .interval b => b.bytes
  | .event b => b.bytes
  | .capture b => b.bytes ++ pointBytes points
  | .campaignStart b => b.bytes
  | .campaignEnd b => b.bytes
  | .settings b => b.bytes

/-- The total length of a record: header, body and trailer (section 8.1). -/
def Record.length (points : List Point) (r : Record) : Nat := 20 + (r.body.bytes points).length + 4

/-- The 20-byte record header (section 12.6). -/
def Record.header (points : List Point) (r : Record) : List Byte :=
  leBytes 1 r.body.code ++ leBytes 1 r.quality.code ++ leBytes 2 r.campaign ++ leBytes 4 (r.length points) ++
    leBytes 4 r.sequence ++ r.stamp.bytes

/-- A record as stored and emitted: header, body and CRC-32 trailer. -/
def Record.bytes (points : List Point) (r : Record) : List Byte :=
  let covered := r.header points ++ r.body.bytes points
  covered ++ crc32Bytes covered

/-- Whether a record's bytes end with the CRC-32 over the bytes before it (R198). -/
def recordChecks (bs : List Byte) : Bool := bs.drop (bs.length - 4) == crc32Bytes (bs.take (bs.length - 4))

/-! ## Pages and map entries (sections 8.3, 8.4, 12.6) -/

/-- The 16 bytes of a page header (R144). -/
def PageHeader.bytes (h : PageHeader) : List Byte :=
  let covered := [0x4C, 0x5A, 1] ++ leBool h.tailOpen ++ leBytes 4 h.serial ++ leBytes 4 h.seqRef ++
    leBytes 1 h.starts ++ leBytes 1 h.firstOffset
  covered ++ crc16Bytes covered

/-- A page header as read: none when the marker, the format or the CRC-16 is not correct (R144). -/
def readHeader (bs : List Byte) : Option PageHeader :=
  if field bs 0 3 = [0x4C, 0x5A, 1] ∧ field bs 14 2 = crc16Bytes (bs.take 14) then
    some
      { tailOpen := (fieldNat bs 3 1) % 2 == 1, serial := fieldNat bs 4 4, seqRef := fieldNat bs 8 4,
        starts := fieldNat bs 12 1, firstOffset := fieldNat bs 13 1 }
  else none

/-- The payload of a page. -/
def pagePayload (bs : List Byte) : List Byte := field bs 16 240

/-- A page is empty when all 256 bytes read 0xFF (R144). -/
def pageEmpty (bs : List Byte) : Bool := bs.all (· == 0xFF)

/-- The check byte of a map entry (R142). -/
def mapCheck (lo hi : Byte) : Byte := 0x5A ^^^ lo ^^^ hi

/-- A map entry as MAP LOAD programs it: the physical sector, state byte 0xFF and the check byte (R142, R156). -/
def mapEntryBytes (physical : Nat) : List Byte :=
  let lo := byteOf physical
  let hi := byteOf (physical / 256)
  [lo, hi, 0xFF, mapCheck lo hi]

/-- The last sequence a page header names (R149, R163). -/
def PageHeader.lastSequence (h : PageHeader) : Nat := if h.starts = 0 then h.seqRef else h.seqRef + h.starts - 1

/-! ## Link frames (section 12.3) -/

/-- An outbound frame: kind with the summary bit and the campaign state, length, payload, CRC-32. -/
def linkFrame (kind : Nat) (summary : Bool) (campaign : CampaignState) (payload : List Byte) : List Byte :=
  let covered := leBytes 1 (kind + (if summary then 16 else 0) + 32 * campaign.code) ++ leBytes 2 payload.length ++
    payload
  covered ++ crc32Bytes covered

/-- A REPLY payload (section 12.4). -/
def Reply.bytes (r : Reply) : List Byte :=
  [r.tag, r.kind] ++ leBytes 1 r.status.code ++ leBytes 1 r.reason.code ++ leBool r.cancelled ++ r.body

/-- A forwarded sample frame: 16 bytes: strobe, module, slot values, boundary number, tracker state. -/
def FwdFrame.bytes (f : FwdFrame) : List Byte :=
  leBytes 4 f.strobe ++ leBytes 1 f.module.val ++ leSigned 3 f.a ++ leSigned 3 f.b ++ leBytes 4 f.boundary ++
    leBytes 1 f.tracker.code

/-- A RECORD fragment payload: 8 bytes of header, then the record bytes. -/
def fragmentBytes (readback last : Bool) (mark : Nat) (tag : Byte) (sequence index : Nat) (bs : List Byte) :
    List Byte :=
  leBytes 1 ((if readback then 1 else 0) + (if last then 2 else 0) + 4 * mark) ++ [tag] ++ leBytes 4 sequence ++
    leBytes 2 index ++ bs

end Sys2Proof.Machine
end

