-- ==== Sys2Proof/Machine/Ops.lean ====
section
/-! DEFINITION. Operations every block uses: time stamps (R114), free choices, and the reply queue (R188). -/

namespace Sys2Proof.Machine

/-! ## Time stamps (section 7.1) -/

/-- Time ticks in one second. -/
def secondTicks : Nat := 2048000000

/-- Time ticks in one strobe period. -/
def strobeTicks : Nat := 160000

/-- The strobe time in ticks. -/
def TB.ticks (t : TB) : Nat := t.seconds * secondTicks + t.sub

/-- The stamp of a time in ticks; a time below (0, 0) gives (0, 0) (R114). -/
def stampOfTicks (t : Int) : Stamp := ⟨wrap32 (t.toNat / secondTicks), t.toNat % secondTicks / 2048⟩

/-- The stamp of the position P (fine units) of the sample stream (R114). -/
def stampAt (s : State) (p : Nat) : Stamp :=
  stampOfTicks ((s.tb.ticks : Int) - ((s.lr.strobe * 256 : Nat) - (p : Int)) * 625)

/-- The stamp of the strobe time in force (R114). -/
def nowStamp (s : State) : Stamp := ⟨s.tb.seconds, s.tb.sub / 2048⟩

/-! ## Free choices -/

/-- Takes the next draw number (notes/assumptions/2.md). -/
def draw (s : State) : Nat × State := (s.draws, s.setDraws (s.draws + 1))

/-! ## The reply queue (R188) -/

/-- The free unreserved places of the reply queue. -/
def freePlaces (s : State) : Nat := 32 - (s.sl.replies.length + s.sl.reserved)

/-- A reply takes its place, or is discarded as it is formed while the link is DOWN. -/
def formReply (r : Reply) (s : State) : State :=
  if s.sl.linkUp then s.setSl { s.sl with replies := s.sl.replies ++ [r] } else s

/-- The reply of an order carried out in its dispatch event. -/
def answerOk (tag : Byte) (kind : Nat) (body : List Byte) (s : State) : State :=
  formReply { tag := tag, kind := byteOf kind, status := .ok, reason := .none, cancelled := false, body := body } s

/-- The body of a REFUSED or ACCEPTED reply: MAP LOAD gives its count of entries programmed, 0, in every status
(section 12.4); SET and GET form theirs with their items (notes/assumptions/31.md). -/
def earlyBody (kind : Nat) : List Byte := if kind = 13 then [0] else []

/-- The reply of an order not taken. -/
def refuse (tag : Byte) (kind : Nat) (reason : Reason) (s : State) : State :=
  formReply
    { tag := tag, kind := byteOf kind, status := .refused, reason := reason, cancelled := false,
      body := earlyBody kind } s

/-- The reply ACCEPTED, with the place reserved for the final reply (R187). -/
def accept (tag : Byte) (kind : Nat) (s : State) : State :=
  let s := formReply
    { tag := tag, kind := byteOf kind, status := .accepted, reason := .none, cancelled := false,
      body := earlyBody kind } s
  s.setSl { s.sl with reserved := s.sl.reserved + 1 }

/-- A final reply: it takes the place reserved for it, and the reservation is released. -/
def finalReply (r : Reply) (s : State) : State := formReply r (s.setSl { s.sl with reserved := s.sl.reserved - 1 })

/-- The final reply DONE. -/
def replyDone (tag : Byte) (kind : Nat) (cancelled : Bool) (body : List Byte) (s : State) : State :=
  finalReply
    { tag := tag, kind := byteOf kind, status := .done, reason := .none, cancelled := cancelled, body := body } s

/-- The final reply FAILED. -/
def replyFailed (tag : Byte) (kind : Nat) (reason : Reason) (body : List Byte) (s : State) : State :=
  finalReply
    { tag := tag, kind := byteOf kind, status := .failed, reason := reason, cancelled := false, body := body } s

end Sys2Proof.Machine
end

