-- ==== Sys2Proof/Machine/Conditioner.lean ====
section
/-! DEFINITION. The Channel Conditioner (chapter 2): conditioning, calibration, pending calibrations, forwarding, and its
two tables; with the Module Monitor's part of a channel table load (R7). -/

namespace Sys2Proof.Machine

/-! ## Marker codes and calibration (section 6.3, R22) -/

def missingCode : Int := 8388607
def invalidCode : Int := -8388608

/-- Whether a calibrated value is a marker. -/
def isMarker (v : Int) : Bool := v == missingCode || v == invalidCode

/-- The calibrated sample of a raw sample, offset and gain (R22). -/
def calibrate (raw offset : Int) (gain : Nat) : Int :=
  let product := (raw - offset) * gain
  let size : Int := ((product.natAbs + 16384) / 32768 : Nat)
  let c := if product < 0 then -size else size
  if 8388606 < c then 8388606 else if c < -8388607 then -8388607 else c

/-! ## Conditioning (R21, R23, R24) -/

/-- The enabled entry that names a module and slot, if any (R21). -/
def entryFor (t : PerChannel ChanEntry) (m : Fin 4) (slotB : Bool) : Option ChanEntry :=
  t.toList.find? fun e => e.enabled && e.module == m && e.slotB == slotB

/-- Whether a module is enabled: some enabled entry names it (section 1.3). -/
def moduleEnabled (t : PerChannel ChanEntry) (m : Fin 4) : Bool := t.toList.any fun e => e.enabled && e.module == m

/-- The raw sample of a slot. -/
def LaneFrame.raw (f : LaneFrame) (slotB : Bool) : Int := if slotB then f.b else f.a

/-- The overrange indication of a slot. -/
def LaneFrame.over (f : LaneFrame) (slotB : Bool) : Bool := if slotB then f.overB else f.overA

/-- A slot value (R14, R21 to R23): MISSING without a frame, INVALID for both slots of a frame with the fault indication,
MISSING for a slot that no enabled entry names (notes/assumptions/12.md), else the calibrated sample. -/
def slotValue (t : PerChannel ChanEntry) (frame : Option LaneFrame) (m : Fin 4) (slotB : Bool) : Int :=
  match frame with
  | none => missingCode
  | some f =>
    if f.fault then invalidCode
    else
      match entryFor t m slotB with
      | none => missingCode
      | some e => calibrate (f.raw slotB) e.offset e.gain

/-- Whether an enabled role's sample is marked overrange (R24). -/
def overrangeMark (e : ChanEntry) (frame : Option LaneFrame) : Bool :=
  match frame with
  | none => false
  | some f =>
    e.enabled && !f.fault &&
      (f.raw e.slotB == -8388608 || f.raw e.slotB == 8388607 || f.over e.slotB)

/-- The conditioned sample set (R21). -/
def condition (t : PerChannel ChanEntry) (k : Nat) (frames : PerModule (Option LaneFrame)) : CondSet :=
  { k := k
    slotA := PerModule.of fun m => slotValue t (frames.get m) m false
    slotB := PerModule.of fun m => slotValue t (frames.get m) m true
    values := t.map fun e => if e.enabled then slotValue t (frames.get e.module) e.module e.slotB else missingCode
    overrange := t.map fun e => overrangeMark e (frames.get e.module) }

/-! ## Calibration results (R25 to R28) -/

/-- A channel entry after a result is applied to its module (the table of R26). -/
def ChanEntry.applyResult (r : CalResult) (e : ChanEntry) : ChanEntry :=
  if e.cal = .loaded ∧ r.forced = false then e
  else
    match r.values with
    | some v =>
      { e with
        gain := if e.slotB then v.gainB else v.gainA
        offset := if e.slotB then v.offsetB else v.offsetA
        cal := .fetched }
    | none => { e with gain := 32768, offset := 0, cal := .rejected }

/-- A result applied to a module: every entry that names it changes (R26). -/
def applyResult (m : Fin 4) (r : CalResult) (s : State) : State :=
  s.setCc { s.cc with table := s.cc.table.map fun e => if e.module = m then e.applyResult r else e }

/-- Every pending calibration is applied and discarded (R26). -/
def applyPendingCal (s : State) : State :=
  allModules.foldl (fun s m =>
    match s.cc.pending.get m with
    | some r => applyResult m r (s.setCc { s.cc with pending := s.cc.pending.set m none })
    | none => s) s

/-- The delivery of a fetch result (R25). -/
def deliverResult (m : Fin 4) (r : CalResult) (s : State) : State :=
  if s.ia.state = .running then
    let forced := r.forced || ((s.cc.pending.get m).map CalResult.forced).getD false
    s.setCc { s.cc with pending := s.cc.pending.set m (some { r with forced := forced }) }
  else applyResult m r s

/-- A write into a module's calibration block: FETCHED entries become STALE (R27). -/
def markStale (m : Fin 4) (s : State) : State :=
  s.setCc { s.cc with
    table := s.cc.table.map fun e => if e.module = m ∧ e.cal = .fetched then { e with cal := .stale } else e }

/-- The uncalibrated condition (R28). -/
def uncalibrated (s : State) : Bool :=
  s.cc.table.toList.any fun e => e.enabled && (e.cal == .default || e.cal == .rejected)

/-! ## Forwarding (R30 to R32) -/

/-- Whether a pass entry selects strobe k (R30). -/
def PassMode.selects (k : Nat) (collecting : Bool) : PassMode → Bool
  | .drop => false
  | .all => true
  | .decimate n => k % n == 0
  | .duringCapture => collecting

/-- The number of the half-cycle that strobe k lies in, as the tracker holds it (R31). At most the last boundary placed
can lie after the strobe. -/
def halfCycleOf (last : Option Boundary) (k : Nat) : Nat :=
  match last with
  | none => 0
  | some b => if b.position ≤ k * 256 then b.number else wrap32 (b.number + 4294967295)

/-- A frame enters the outbound sample buffer, or is dropped with FORWARD_LOSS latched (R32). -/
def pushFrame (s : State) (f : FwdFrame) : State :=
  if s.cc.buffer.length < 32 then s.setCc { s.cc with buffer := s.cc.buffer ++ [f] } else latch .forwardLoss s

/-- The forwarded frame of a module (R31). -/
def forwardFrame (s : State) (c : CondSet) (m : Fin 4) : FwdFrame :=
  { strobe := c.k, module := m, a := c.slotA.get m, b := c.slotB.get m, boundary := halfCycleOf s.ct.last c.k,
    tracker := s.ct.state }

/-- Whether the Capture Unit is COLLECTING (R30). -/
def isCollecting (s : State) : Bool := s.cu.state == .collecting

/-- Whether a module's slot values of strobe k are forwarded (R30). -/
def forwards (s : State) (k : Nat) (collecting : Bool) (m : Fin 4) : Bool :=
  (s.mm.mods.get m).state != .disabled && (s.cc.pass.get m).selects k collecting

/-- The forwarder takes a conditioned set (R30); `collecting` is the Capture Unit's state as it does so. While the link is
down it creates no frames. -/
def forward (collecting : Bool) (c : CondSet) (s : State) : State :=
  if s.sl.linkUp then
    (allModules.filter (forwards s c.k collecting)).foldl (fun t m => pushFrame t (forwardFrame s c m)) s
  else s

/-- The forwarder takes the set it holds, and holds the newest one (R30). -/
def forwardHeld (collecting : Bool) (newest : CondSet) (s : State) : State :=
  let s := match s.cc.held with
    | some c => forward collecting c s
    | none => s
  s.setCc { s.cc with held := some newest }

/-! ## The channel table (R7, R19, R20) -/

/-- A module's monitor state changed. -/
def State.setModule (s : State) (m : Fin 4) (x : ModMon) : State :=
  s.setMm { s.mm with mods := s.mm.mods.set m x }

/-- The Module Monitor and the Lane Receiver after a channel table load, for one module (R7). -/
def moduleAfterLoad (before : PerChannel ChanEntry) (s : State) (m : Fin 4) : State :=
  match moduleEnabled before m, moduleEnabled s.cc.table m with
  | true, false =>
    let s := s.setModule m
      { s.mm.mods.get m with
        state := .disabled, good := 0, bad := 0, accepted := 0, duplicate := 0, stray := 0, fault := false }
    s.setLr { s.lr with slots := s.lr.slots.set m [] }
  | false, true =>
    s.setModule m { s.mm.mods.get m with state := .unqualified, good := 0, bad := 0, joined := true }
  | _, _ => s

/-- The entry a listed channel entry gives: LOADED (R19); enabled when its byte is 1 (notes/assumptions/70.md). -/
def channelEntry (a : ChannelArg) (m : Fin 4) : ChanEntry :=
  { module := m, slotB := a.slot == 1, enabled := a.enabled == 1, gain := a.gain.toNat, offset := a.offset.toInt,
    cal := .loaded }

/-- The candidate table (R19); none when a role or a module number is not one of the part's. -/
def candidateTable (t : PerChannel ChanEntry) : List ChannelArg → Option (PerChannel ChanEntry)
  | [] => some t
  | a :: rest =>
    match Channel.ofCode a.role.toNat with
    | some c =>
      if h : a.module.toNat < 4 then candidateTable (t.set c (channelEntry a ⟨a.module.toNat, h⟩)) rest else none
    | none => none

/-- Whether no two enabled entries name the same module and slot (R19). -/
def slotsDistinct (t : PerChannel ChanEntry) : Bool :=
  decide ((t.toList.filter fun e => e.enabled).map fun e => (e.module, e.slotB)).Nodup

/-- LOAD TABLE for the channel table (R19). -/
def orderLoadChannel (tag : Byte) (entries : List ChannelArg) (s : State) : State :=
  if s.ia.state ≠ .stopped then refuse tag 3 .wrongState s
  else
    match candidateTable s.cc.table entries with
    | none => refuse tag 3 .invalid s
    | some t =>
      if (entries.map ChannelArg.role).Nodup ∧ slotsDistinct t = true then
        let before := s.cc.table
        answerOk tag 3 [] (allModules.foldl (moduleAfterLoad before) (s.setCc { s.cc with table := t }))
      else refuse tag 3 .invalid s

/-- READ TABLE for the channel table (R20, section 12.4; notes/assumptions/27.md). -/
def channelTableBody (s : State) : List Byte :=
  tableBytes s.cc.table ++ s.cc.pending.toList.flatMap fun p =>
    leBool p.isSome ++ leBool (p.isSome && (p.bind CalResult.values).isNone) ++ leBool ((p.map CalResult.forced).getD false)

/-! ## The pass table (R29, R20) -/

/-- The mode of a listed pass entry, if it is one of the four with a divisor in its range (R29). -/
def passMode (a : PassArg) : Option PassMode :=
  if a.mode = 0 then some .drop
  else if a.mode = 1 then some .all
  else if a.mode = 2 then
    if 2 ≤ a.divisor.toNat ∧ a.divisor.toNat ≤ 64 then some (.decimate a.divisor.toNat) else none
  else if a.mode = 3 then some .duringCapture
  else none

/-- The pass table with the listed entries in place; none when one is not acceptable (R29). -/
def passWith (t : PerModule PassMode) : List PassArg → Option (PerModule PassMode)
  | [] => some t
  | a :: rest =>
    match passMode a with
    | some mode => if h : a.module.toNat < 4 then passWith (t.set ⟨a.module.toNat, h⟩ mode) rest else none
    | none => none

/-- LOAD TABLE for the pass table (R29). -/
def orderLoadPass (tag : Byte) (entries : List PassArg) (s : State) : State :=
  match passWith s.cc.pass entries with
  | some t =>
    if (entries.map PassArg.module).Nodup then answerOk tag 3 [] (s.setCc { s.cc with pass := t })
    else refuse tag 3 .invalid s
  | none => refuse tag 3 .invalid s

/-- The divisor a pass entry holds (R29); a mode other than DECIMATE keeps none. -/
def PassMode.divisor : PassMode → Option Nat
  | .decimate n => some n
  | .drop | .all | .duringCapture => none

/-- READ TABLE for the pass table (R20, section 12.4); an absent divisor is all ones (R199). -/
def passTableBody (s : State) : List Byte :=
  allModules.flatMap fun m =>
    leBytes 1 m.val ++ leBytes 1 (s.cc.pass.get m).code ++ leOpt 1 (s.cc.pass.get m).divisor

/-! ## RESTART (R33) -/

/-- The Channel Conditioner's part of a RESTART (R33). -/
def restartConditioner (s : State) : State :=
  let s := applyPendingCal s
  s.setCc { s.cc with held := none, buffer := [] }

end Sys2Proof.Machine
end

