-- ==== Sys2Proof/Machine/Bus.lean ====
section
/-! DEFINITION. The Module Bus Master (chapter 10): ownership, the fetch queue, transactions and their ends, hang, abort
and RESTART. -/

namespace Sys2Proof.Machine

/-- The Module Bus Master changed. -/
def State.updMb (s : State) (f : MB → MB) : State := s.setMb (f s.mb)

/-! ## The fetch queue (R178) -/

/-- A fetch request joins the queue, or its forced mark joins the module's entry (R178). -/
def joinQueue (m : Fin 4) (forced : Bool) (q : List FetchEntry) : List FetchEntry :=
  if q.any fun e => e.module == m then
    q.map fun e => if e.module = m then { e with forced := e.forced || forced } else e
  else q ++ [{ module := m, forced := forced, attempt := false, tag := none }]

/-- A fetch request for a module (R178). -/
def requestFetch (m : Fin 4) (forced : Bool) (s : State) : State :=
  s.updMb fun b => { b with queue := joinQueue m forced b.queue }

/-- The entry of a module in the fetch queue. -/
def fetchEntry (s : State) (m : Fin 4) : Option FetchEntry := s.mb.queue.find? fun e => e.module == m

/-- The entry of a module changed in its place. -/
def mapEntry (m : Fin 4) (f : FetchEntry → FetchEntry) (s : State) : State :=
  s.updMb fun b => { b with queue := b.queue.map fun e => if e.module = m then f e else e }

/-- The entry of a module leaves the queue. -/
def dropEntry (m : Fin 4) (s : State) : State :=
  s.updMb fun b => { b with queue := b.queue.filter fun e => e.module != m }

/-! ## The end of a transaction -/

/-- The 10 ms retry hold in oscillator periods. -/
def retryHoldPeriods : Nat := 262144

/-- What follows the end of a transaction: a waiting owner change takes effect (R177), then a held abort starts
(R183). -/
def afterTransaction (s : State) : State :=
  let s := s.updMb fun b => { b with owner := s.sl.settings.modbusOwner }
  match s.mb.heldAbort with
  | some tag => s.updMb fun b => { b with state := .recovering, abortTag := some tag, heldAbort := none }
  | none => s

/-- The transaction in flight ends, and the bus takes a state: IDLE, or HUNG (R182). -/
def endTransaction (state : BusState) (s : State) : State :=
  afterTransaction (s.updMb fun b => { b with state := state, transaction := none, cut := false })

/-- The module whose identity memory answers at a bus address (section 10.1). -/
def moduleAt (address : Nat) : Option (Fin 4) :=
  if address = 0x50 then some 0 else if address = 0x51 then some 1 else if address = 0x52 then some 2
  else if address = 0x53 then some 3 else none

/-- Whether some acknowledged data byte of a write lay in the calibration block (R181). -/
def touchesBlock (offset acked : Nat) : Bool := decide (0 < acked ∧ offset ≤ 0x2F ∧ 0x20 < offset + acked)

/-- The report of a station write into a calibration block, as its transaction ends (R181). -/
def reportWrite (address offset acked : Nat) (s : State) : State :=
  match moduleAt address with
  | some m => if touchesBlock offset acked then requestFetch m false (markStale m s) else s
  | none => s

/-- A final reply FAILED with the cancelled mark as given. -/
def failStation (tag : Byte) (kind : Nat) (reason : Reason) (cancelled : Bool) (s : State) : State :=
  finalReply
    { tag := tag, kind := byteOf kind, status := .failed, reason := reason, cancelled := cancelled, body := [] } s

/-- A tag waiting on a fetch entry is answered FAILED and cleared; the entry stays (R182, R184). -/
def failFetchTag (m : Fin 4) (reason : Reason) (cancelled : Bool) (s : State) : State :=
  match (fetchEntry s m).bind FetchEntry.tag with
  | some tag => mapEntry m (fun e => { e with tag := none }) (failStation tag 20 reason cancelled s)
  | none => s

/-- The accounting of a transaction that ends without completing and without NO_ACK: a hang (R182) or the cut of a
RESTART (R184). -/
def failTransaction (reason : Reason) (cancelled : Bool) (acked : Nat) (s : State) : State :=
  match s.mb.transaction with
  | none => s
  | some (.fetch m _) => failFetchTag m reason cancelled s
  | some (.read tag _ _ _ _) => failStation tag 18 reason cancelled s
  | some (.write tag address offset data _) =>
    reportWrite address offset (min acked data.length) (failStation tag 19 reason cancelled s)

/-- The bus becomes HUNG (R182). -/
def hang (acked : Nat) (s : State) : State := endTransaction .hung (failTransaction .hung false acked s)

/-! ## Starts -/

/-- A transaction begins, unless the data line is found low (R182). -/
def beginTransaction (t : Transaction) (s : State) : State :=
  let (n, s) := draw s
  let s := s.updMb fun b => { b with state := .busy, transaction := some t }
  if Config.dataLineLow n then hang 0 s else s

/-- The first queue entry whose module has no retry hold running (R179). -/
def servable (s : State) : Option FetchEntry := s.mb.queue.find? fun e => s.mb.retryHold.get e.module == 0

/-- The fetch-start check (R179). -/
def busSettle (s : State) : State :=
  if s.mb.owner = .auto ∧ s.mb.state = .idle ∧ s.mb.heldAbort = none then
    match servable s with
    | some e => beginTransaction (.fetch e.module 0) s
    | none => s
  else s

/-! ## Ends -/

/-- Whether a transaction runs undisturbed: one a RESTART has cut ends by R184 alone. -/
def running (s : State) : Bool := s.mb.state == .busy && !s.mb.cut

/-- The judgement of a calibration block (R179): its CRC-16 and its format version. -/
def blockValues (bs : List Byte) : Option CalValues :=
  if field bs 14 2 = crc16Bytes (bs.take 14) ∧ fieldNat bs 12 1 = 1 then
    some { gainA := fieldNat bs 0 2, offsetA := fieldInt bs 2 2, gainB := fieldNat bs 4 2, offsetB := fieldInt bs 6 2 }
  else none

/-- A fetch completes (R179). -/
def fetchDone (m : Fin 4) (bs : List Byte) (s : State) : State :=
  let values := blockValues bs
  let entry := fetchEntry s m
  let forced := (entry.map FetchEntry.forced).getD false
  let s := deliverResult m { values := values, forced := forced } s
  let s := if values.isNone then latch .calReject s else s
  let s := (dropEntry m s).updMb fun b => { b with
    lastFetch := b.lastFetch.set m (if values.isSome then .good else .rejected)
    retryHold := b.retryHold.set m 0 }
  let s := match entry.bind FetchEntry.tag with
    | some tag => replyDone tag 20 false (leBool values.isNone) s
    | none => s
  endTransaction .idle s

/-- A fetch ends without an acknowledge (R180). -/
def fetchNoAck (m : Fin 4) (s : State) : State :=
  match fetchEntry s m with
  | none => s
  | some e =>
    if e.attempt then
      let s := (dropEntry m (latch .calReject s)).updMb fun b => { b with lastFetch := b.lastFetch.set m .dropped }
      match e.tag with
      | some tag => replyFailed tag 20 .noAck [] s
      | none => s
    else
      (dropEntry m s).updMb fun b => { b with
        queue := b.queue ++ [{ e with attempt := true }]
        retryHold := b.retryHold.set m retryHoldPeriods }

/-- All 16 bytes of a fetch have been received and the stop sent (R179; notes/assumptions/18.md). -/
def endFetch (bs : List Byte) (s : State) : State :=
  match s.mb.transaction with
  | some (.fetch m _) => if running s then fetchDone m bs s else s
  | _ => s

/-- A byte is not acknowledged (R180, R181). -/
def endNoAck (acked : Nat) (s : State) : State :=
  if running s then
    match s.mb.transaction with
    | none => s
    | some (.fetch m _) => endTransaction .idle (fetchNoAck m s)
    | some (.read tag _ _ _ _) => endTransaction .idle (replyFailed tag 18 .noAck [] s)
    | some (.write tag address offset data _) =>
      endTransaction .idle (reportWrite address offset (min acked data.length) (replyFailed tag 19 .noAck [] s))
  else s

/-- A station read completes (R181). -/
def endRead (bs : List Byte) (s : State) : State :=
  match s.mb.transaction with
  | some (.read tag _ _ count _) =>
    if running s then
      endTransaction .idle (replyDone tag 18 false (leBytes 1 count ++ bs.take count) s)
    else s
  | _ => s

/-- The stop of a station write has been sent (R181). -/
def endWrite (s : State) : State :=
  match s.mb.transaction with
  | some (.write tag address offset data _) =>
    if running s then
      endTransaction .idle (reportWrite address offset data.length (replyDone tag 19 false [] s))
    else s
  | _ => s

/-- The end of a recovery (R183; notes/assumptions/18.md). -/
def endRecovery (released : Bool) (s : State) : State :=
  if s.mb.state = .recovering then
    let tag := s.mb.abortTag
    let s := s.updMb fun b => { b with state := if released then .idle else .hung, abortTag := none }
    match tag with
    | some t => if released then replyDone t 21 false [] s else replyFailed t 21 .hung [] s
    | none => s
  else s

/-- The clock is held low for more than 10 ms in a byte (R182), or during a recovery (R183). -/
def clockHeld (acked : Nat) (s : State) : State :=
  match s.mb.state with
  | .busy => hang acked s
  | .recovering => endRecovery false s
  | .idle | .hung => s

/-- The byte in progress at a RESTART has ended (R184). -/
def endCut (acked : Nat) (s : State) : State :=
  if s.mb.cut then endTransaction .idle (failTransaction .busy true acked s) else s

/-- The retry hold of a module runs out (R180; notes/assumptions/19.md). -/
def endHold (m : Fin 4) (s : State) : State := s.updMb fun b => { b with retryHold := b.retryHold.set m 0 }

/-- The Module Bus Master's part of a RESTART (R184). -/
def restartBus (s : State) : State := s.updMb fun b => { b with cut := b.transaction.isSome }

/-! ## Orders -/

/-- Whether the bus is HUNG or RECOVERING. -/
def busDown (s : State) : Bool := s.mb.state == .hung || s.mb.state == .recovering

/-- The checks of a station transaction, in their sequence (R181). -/
def stationRefusal (s : State) (address offset count most : Nat) : Option Reason :=
  if address < 0x08 ∨ 0x77 < address ∨ count < 1 ∨ most < count ∨ 256 < offset + count then some .invalid
  else if s.mb.owner = .auto then some .wrongState
  else if busDown s then some .hung
  else if s.mb.state = .busy ∨ s.mb.heldAbort.isSome = true then some .busy
  else none

/-- MODULE READ (R181). -/
def orderModuleRead (tag : Byte) (address offset count : Nat) (s : State) : State :=
  match stationRefusal s address offset count 32 with
  | some r => refuse tag 18 r s
  | none => beginTransaction (.read tag address offset count 0) (accept tag 18 s)

/-- MODULE WRITE (R181). -/
def orderModuleWrite (tag : Byte) (address offset : Nat) (data : List Byte) (s : State) : State :=
  match stationRefusal s address offset data.length 16 with
  | some r => refuse tag 19 r s
  | none => beginTransaction (.write tag address offset data 0) (accept tag 19 s)

/-- MODULE FETCH (R178). Its refusals are judged in the order the rule lists them, WRONG_STATE before HUNG; the rule names no
sequence: DESIGN CHOICE (notes/assumptions/77.md). -/
def orderModuleFetch (tag : Byte) (module : Nat) (s : State) : State :=
  if h : module < 4 then
    let m : Fin 4 := ⟨module, h⟩
    if s.mb.owner = .station then refuse tag 20 .wrongState s
    else if busDown s then refuse tag 20 .hung s
    else if ((fetchEntry s m).bind FetchEntry.tag).isSome then refuse tag 20 .busy s
    else mapEntry m (fun e => { e with tag := some tag }) (requestFetch m true (accept tag 20 s))
  else refuse tag 20 .invalid s

/-- MODULE ABORT (R183). -/
def orderModuleAbort (tag : Byte) (s : State) : State :=
  match s.mb.state with
  | .idle | .hung => (accept tag 21 s).updMb fun b => { b with state := .recovering, abortTag := some tag }
  | .busy =>
    if s.mb.heldAbort.isSome then refuse tag 21 .busy s
    else (accept tag 21 s).updMb fun b => { b with heldAbort := some tag }
  | .recovering => refuse tag 21 .busy s

/-- A SET of MODBUS_OWNER: the owner in force takes it when no transaction is in flight (R177). -/
def ownerSet (s : State) : State :=
  if s.mb.transaction.isSome then s else s.updMb fun b => { b with owner := s.sl.settings.modbusOwner }

end Sys2Proof.Machine
end

