-- ==== Sys2Proof/Machine/Records.lean ====
section
/-! DEFINITION. The Record Queue (R135 to R140), with what a departure does (R108, R139), the application of the
pending set (R193) and the entry into STOPPED (R131). -/

namespace Sys2Proof.Machine

/-! ## Leaving the queue -/

/-- The Capture Unit releases a capture's memory (R108). -/
def releaseCapture (s : State) : State :=
  if s.ia.state = .running ∧ 0 < s.sl.settings.captureHoldoff then
    s.setCu { state := .holdoff, ring := [], hand := none, holdoff := s.sl.settings.captureHoldoff * 256 }
  else s.setCu { state := .filling, ring := [], hand := none, holdoff := 0 }

/-- Whether a record is a CAPTURE record. -/
def RecordBody.isCapture : RecordBody → Bool
  | .capture _ => true
  | _ => false

/-- Whether a record is a CAMPAIGN_END record. -/
def RecordBody.isEnd : RecordBody → Bool
  | .campaignEnd _ => true
  | _ => false

/-- Whether a record is an INTERVAL record. -/
def RecordBody.isInterval : RecordBody → Bool
  | .interval _ => true
  | _ => false

/-- The points a record's CAPTURE body is read from: those in capture memory. -/
def capturePoints (s : State) : List Point := (s.cu.hand.map Capture.points).getD []

/-- The number of bytes of an entry's record. -/
def Entry.size (points : List Point) (e : Entry) : Nat := e.record.length points

/-- Whether an entry's last byte has been programmed into the head sector (R139). -/
def endsInHead (s : State) (e : Entry) : Bool :=
  e.programmed == e.size (capturePoints s) && e.lastSector.isSome && e.lastSector == s.sw.head.map PagePos.sector

/-- The departure of an entry: reported to the Store Writer when the entry's last byte lay in the head sector, and to the
Capture Unit for a CAPTURE entry (R139). -/
def departed (s : State) (e : Entry) : State :=
  let s := if endsInHead s e then s.setSw { s.sw with headDepartures := s.sw.headDepartures + 1 } else s
  if e.record.body.isCapture then releaseCapture s else s

/-- Whether an entry has both marks. -/
def Entry.leaves (e : Entry) : Bool := e.stored && e.emitted

/-- Every entry with both marks leaves (R139). -/
def sweep (s : State) : State :=
  (s.rq.entries.filter Entry.leaves).foldl departed
    (s.setRq { s.rq with entries := s.rq.entries.filter fun e => !e.leaves })

/-- Every entry takes the stored mark: the store becomes FAULTED (R139). -/
def markAllStored (s : State) : State :=
  sweep (s.setRq { s.rq with entries := s.rq.entries.map fun e => { e with stored := true } })

/-- Every entry takes the emitted mark: LIVE_RECORDS off, or the link goes down (R139). -/
def markAllEmitted (s : State) : State :=
  sweep (s.setRq { s.rq with entries := s.rq.entries.map fun e => { e with emitted := true } })

/-- The record of one sequence has been emitted (R190). -/
def markEmitted (sequence : Nat) (s : State) : State :=
  sweep (s.setRq { s.rq with
    entries := s.rq.entries.map fun e => if e.record.sequence = sequence then { e with emitted := true } else e })

/-! ## Numbering and entering -/

/-- A number of records counted lost (R137, R138). -/
def countLost (n : Nat) (s : State) : State :=
  if n = 0 then s
  else
    latch .recordLoss (s.setRq { s.rq with
      intervalLoss := min 65535 (s.rq.intervalLoss + n)
      campaignLoss := min 4294967295 (s.rq.campaignLoss + n)
      totalLoss := min 4294967295 (s.rq.totalLoss + n) })

/-- What the producer of a record is told (R136, R137). -/
inductive HandResult where
  | entered (sequence : Nat)
  | lost (sequence : Nat)
  | notCreated
  deriving DecidableEq, Repr

/-- Whether the queue has a slot that a record may use (R137). -/
def hasSlot (isEnd : Bool) (entries : List Entry) : Bool :=
  decide (entries.length < 16) && (isEnd || decide ((entries.filter fun e => !e.record.body.isEnd).length < 15))

/-- The number a record created now takes, if any (R136). -/
def recordNumber (s : State) : Option Nat :=
  match s.sr.state, s.rq.next with
  | .mounted, .number n => some n
  | .faulted, .number n => some n
  | _, _ => none

/-- The next sequence after a number is taken (R136). -/
def nextAfter (n : Nat) : NextSeq := if n < 4294967295 then .number (n + 1) else .exhausted

/-- The record formed for a body now (R114, R135). -/
def formRecord (s : State) (n : Nat) (body : RecordBody) : Record :=
  { quality := s.tb.quality, campaign := s.ia.number, sequence := n, stamp := nowStamp s, body := body }

/-- The entry a record enters with (R137, R139). -/
def newEntry (s : State) (r : Record) : Entry :=
  { record := r, appended := 0, programmed := 0, firstSector := none, lastSector := none,
    stored := s.sr.state == .faulted, emitted := !s.sl.settings.liveRecords || !s.sl.linkUp }

/-- A block hands a record to the Record Queue (R136 to R139). An INTERVAL record that takes a number has read the
interval loss count, which is then 0 (R138; notes/assumptions/25.md). -/
def handRecord (body : RecordBody) (s : State) : HandResult × State :=
  match recordNumber s with
  | none => (.notCreated, s.setRq { s.rq with notCreated := satSucc 65535 s.rq.notCreated })
  | some n =>
    let loss := if body.isInterval then 0 else s.rq.intervalLoss
    let s1 := s.setRq { s.rq with next := nextAfter n, intervalLoss := loss }
    if hasSlot body.isEnd s.rq.entries then
      (.entered n, sweep (s1.setRq { s1.rq with entries := s1.rq.entries ++ [newEntry s (formRecord s n body)] }))
    else (.lost n, countLost 1 s1)

/-- Every queue entry is discarded: those without the stored mark count lost, and a CAPTURE entry is reported departed
(R140, R155). -/
def discardEntries (s : State) : State :=
  let gone := s.rq.entries
  let s := countLost (gone.filter fun e => !e.stored).length (s.setRq { s.rq with entries := [] })
  if gone.any fun e => e.record.body.isCapture then releaseCapture s else s

/-- An entry set back to be written again from its start (R140, R152). -/
def Entry.setBack (e : Entry) : Entry :=
  { e with appended := 0, programmed := 0, firstSector := none, lastSector := none, stored := false }

/-- A sequence as a number, EXHAUSTED being 2^32 (R140). -/
def NextSeq.toNat : NextSeq → Nat
  | .number n => n
  | .undefined | .exhausted => 4294967296

/-- The Record Queue takes the next sequence that a mount found (R140). -/
def takeSequence (found : NextSeq) (s : State) : State :=
  match s.rq.entries with
  | [] => s.setRq { s.rq with next := found }
  | e :: _ =>
    if found.toNat ≤ e.record.sequence + 1 then
      s.setRq { s.rq with entries := s.rq.entries.map fun e => if e.stored then e else e.setBack }
    else
      let s := discardEntries s
      s.setRq { s.rq with next := found }

/-! ## The pending set (R193) -/

/-- The mask of what is pending: bits 0 to 3 the settings in catalogue order, bit 4 the limit table (section 12.5). -/
def pendingMask (s : State) : BitVec 8 :=
  let p := s.sl.pending
  BitVec.ofNat 8 (bits [p.intervalSeconds.isSome, p.activeProfile.isSome, p.attribThreshold.isSome,
    p.attribFloor.isSome, s.ed.pendingLimits.isSome])

/-- A SETTINGS record is created and handed on (R193). -/
def settingsRecord (cause : SettingsCause) (applied : BitVec 8) (s : State) : State :=
  let x := s.sl.settings
  (handRecord (.settings
    { cause := cause, applied := applied, intervalSeconds := x.intervalSeconds, activeProfile := x.activeProfile,
      attribThreshold := x.attribThreshold, attribFloor := x.attribFloor,
      profile := s.ed.limits.get x.activeProfile }) s).2

/-- Every pending value comes into force, and the pending set is empty (R193). -/
def placePending (s : State) : State :=
  let p := s.sl.pending
  let x := s.sl.settings
  let s := s.setSl { s.sl with
    pending := ⟨none, none, none, none⟩
    settings := { x with
      intervalSeconds := p.intervalSeconds.getD x.intervalSeconds
      activeProfile := p.activeProfile.getD x.activeProfile
      attribThreshold := p.attribThreshold.getD x.attribThreshold
      attribFloor := p.attribFloor.getD x.attribFloor } }
  s.setEd { s.ed with limits := s.ed.pendingLimits.getD s.ed.limits, pendingLimits := none }

/-- An application of the pending set (R193): with nothing pending it does nothing and creates no record. -/
def applyPending (cause : SettingsCause) (s : State) : State :=
  if pendingMask s = 0 then s else settingsRecord cause (pendingMask s) (placePending s)

/-- An application that HOLD skips (R193). -/
def applyUnlessHold (cause : SettingsCause) (s : State) : State :=
  if s.sl.settings.hold then s else applyPending cause s

/-! ## The entry into STOPPED (R131) -/

/-- The DONE reply to the STOP that waits, with the campaign number and the outcome code (section 12.4). -/
def answerStop (outcome : Nat) (s : State) : State :=
  match s.ia.stopTag with
  | none => s
  | some tag =>
    replyDone tag 6 false (leBytes 2 s.ia.number ++ leBytes 1 outcome)
      (s.setIa { s.ia with stopTag := none })

/-- The campaign enters STOPPED at a STOP: the waiting STOP is answered, and the pending settings are applied whatever
HOLD is (R131). -/
def enterStopped (outcome : Nat) (s : State) : State :=
  applyPending .stopped (answerStop outcome (s.setIa { s.ia with state := .stopped, endSeq := none }))

/-- The end record's last byte has been programmed, or its entry has left without storage (R131). -/
def endRecordSettled (outcome : Nat) (s : State) : State :=
  if s.ia.state = .stopping then enterStopped outcome s else s

end Sys2Proof.Machine
end

