-- ==== Sys2Proof/Machine/Capture.lean ====
section
/-! DEFINITION. The Capture Unit (chapter 6): points and memory, triggers, the taking of sets, the close of a capture, and
its part of a STOP and a RESTART. -/

namespace Sys2Proof.Machine

/-! ## Points, blocks and memory (section 6.1) -/

/-- The number of channels in a set of roles. -/
def channelCount (mask : BitVec 8) : Nat := (allChannels.filter fun c => mask.getLsbD c.code).length

/-- Points in a block. -/
def blockPoints (decim : Nat) : Nat := 256 / decim

/-- The most blocks the capture memory holds. -/
def maxBlocks (mask : BitVec 8) (decim : Nat) : Nat := 98304 / (channelCount mask * blockPoints decim * 3)

/-- The point of a set in the channels of a mask, in role order (R101). -/
def pointOf (mask : BitVec 8) (c : CondSet) : Point :=
  { strobe := c.k, values := (allChannels.filter fun r => mask.getLsbD r.code).map fun r => c.values.get r }

/-- The points held, in the ring or the capture in hand (R99). -/
def pointsHeld (u : CU) : Nat :=
  match u.hand with
  | some h => h.points.length
  | none => u.ring.length

/-- The memory in use, computed with the channel count of those points (R99). -/
def memoryInUse (s : State) : Nat :=
  match s.cu.hand with
  | some h => h.points.length * (3 * channelCount h.channels)
  | none => s.cu.ring.length * (3 * channelCount s.sl.settings.captureChannels)

/-- The most points the ring holds (R99). -/
def ringLimit (x : Settings) : Nat := x.capturePre * blockPoints x.captureDecim

/-! ## The close of a capture (R107) -/

/-- The first stored strobe of a capture; one that holds no point has none, written as 0, since all ones is a strobe and the
two counts of points tell the absence (R199; notes/assumptions/6.md). -/
def firstStrobe (h : Capture) : BitVec 32 :=
  match h.points with
  | p :: _ => BitVec.ofNat 32 p.strobe
  | [] => 0

/-- A capture closes: its record is created and handed on; entered, it waits; lost or not created, its memory is released
at once (R107, R136). -/
def closeCapture (truncated cut : Bool) (s : State) : State :=
  match s.cu.hand with
  | none => s
  | some h =>
    let h := { h with truncated := truncated, cut := cut }
    let body : CaptureBody :=
      { truncated := truncated, cut := cut, channels := h.channels, decim := h.decim, firstStrobe := firstStrobe h,
        prePoints := h.prePoints, postPoints := h.points.length - h.prePoints, postEnd := h.postEnd,
        startStrobe := h.startStrobe, startStamp := h.startStamp, triggers := h.triggers, overflow := h.overflow }
    let s := s.setCu { s.cu with state := .waiting, hand := some h }
    match handRecord (.capture body) s with
    | (.entered _, s) => s
    | (_, s) => releaseCapture s

/-! ## Triggers (R103, R104, R106) -/

/-- A capture starts (R103). -/
def startCapture (cause : TrigCause) (event strobe : Nat) (s : State) : State :=
  let x := s.sl.settings
  let first : Trigger := { cause := cause, event := event, strobe := strobe, outcome := .started }
  s.setCu
    { state := .collecting, ring := [], holdoff := 0
      hand := some
        { channels := x.captureChannels, decim := x.captureDecim, pre := x.capturePre, post := x.capturePost,
          extend := x.captureExtend, limit := maxBlocks x.captureChannels x.captureDecim * blockPoints x.captureDecim,
          points := s.cu.ring, prePoints := s.cu.ring.length, postEnd := strobe + x.capturePost * 256,
          triggers := [first], overflow := 0, startStrobe := strobe, startStamp := stampAt s (strobe * 256),
          truncated := false, cut := false } }

/-- A trigger while a capture is being collected (R104). -/
def Capture.joined (h : Capture) (cause : TrigCause) (event strobe : Nat) : TrigOutcome × Capture :=
  let outcome := if h.extend then TrigOutcome.extended else .added
  let h := { h with postEnd := if h.extend then max h.postEnd (strobe + h.post * 256) else h.postEnd }
  let t : Trigger := { cause := cause, event := event, strobe := strobe, outcome := outcome }
  (outcome,
    if h.triggers.length < 8 then { h with triggers := h.triggers ++ [t] }
    else { h with overflow := satSucc 255 h.overflow })

/-- A trigger arrives (R103, R104, R106). -/
def trigger (cause : TrigCause) (event strobe : Nat) (s : State) : TrigOutcome × State :=
  match s.cu.state, s.cu.hand with
  | .filling, _ => (.started, startCapture cause event strobe s)
  | .collecting, some h =>
    let r := h.joined cause event strobe
    (r.1, s.setCu { s.cu with hand := some r.2 })
  | _, _ =>
    let s := latch .captureMissed s
    (.missed, s.setIa { s.ia with summary := { s.ia.summary with missed := s.ia.summary.missed + 1 } })

/-! ## Taking sets (R101, R105) -/

/-- The ring with the point of a set: in FILLING and HOLDOFF while RUNNING (R101). -/
def ringWith (c : CondSet) (s : State) : List Point :=
  let x := s.sl.settings
  if s.ia.state = .running ∧ c.k % x.captureDecim = 0 then
    let ring := s.cu.ring ++ [pointOf x.captureChannels c]
    if ringLimit x < ring.length then ring.drop 1 else ring
  else s.cu.ring

/-- A set is collected, and the capture tested for a close (R105), the post end first. With a decimation of 2 or 4 the last point
stored before the post end can fill the memory limit while k + 1 is still below the post end: the ordered tests then close
TRUNCATED, where the sentence after them can be read as a close without it: DESIGN CHOICE (notes/assumptions/74.md). -/
def collect (c : CondSet) (h : Capture) (s : State) : State :=
  let h := if c.k % h.decim = 0 then { h with points := h.points ++ [pointOf h.channels c] } else h
  let s := s.setCu { s.cu with hand := some h }
  if c.k + 1 = h.postEnd then closeCapture false false s
  else if h.limit ≤ h.points.length then closeCapture true false s
  else s

/-- The Capture Unit takes a conditioned set (R101). -/
def captureTake (c : CondSet) (s : State) : State :=
  match s.cu.state with
  | .filling => s.setCu { s.cu with ring := ringWith c s }
  | .collecting =>
    match s.cu.hand with
    | some h => collect c h s
    | none => s
  | .waiting => s
  | .holdoff =>
    let left := s.cu.holdoff - 1
    s.setCu { s.cu with ring := ringWith c s, holdoff := left, state := if left = 0 then .filling else .holdoff }

/-! ## Leaving RUNNING, orders and settings -/

/-- The Capture Unit's part of a STOP and of a RESTART (R109, R110). -/
def stopCapture (s : State) : State :=
  match s.cu.state with
  | .filling | .holdoff => s.setCu { s.cu with state := .filling, ring := [], holdoff := 0 }
  | .collecting => closeCapture false true s
  | .waiting => s

/-- The index of the next set the unit will take (R102). -/
def nextSet (s : State) : Nat := s.lr.strobe - 3

/-- CAPTURE (R102). -/
def orderCapture (tag : Byte) (s : State) : State :=
  if s.ia.state = .running then
    let r := trigger .order 0 (nextSet s) s
    answerOk tag 8 (leBytes 1 r.1.code) r.2
  else refuse tag 8 .wrongState s

/-- The ring is emptied when a SET changes the format of its points (R100). -/
def emptyRing (s : State) : State := s.setCu { s.cu with ring := [] }

end Sys2Proof.Machine
end

