-- ==== Sys2Proof/Machine/Events.lean ====
section
/-! DEFINITION. The Event Detector (chapter 5): inclusion, the two event machines, attribution, grids, the close of an
event, and its tables. -/

namespace Sys2Proof.Machine

/-! ## Inclusion (R80) -/

/-- What the Event Detector takes at a boundary (R79): the boundary with its stamp, the index of the set that placed it
and the eight sliding values. -/
structure BoundaryWork where
  boundary : Boundary
  stamp : Stamp
  k : Nat
  values : PerChannel (Option Nat)
  deriving DecidableEq, Repr

/-- Whether the module that a channel's entry names is QUALIFIED. -/
def channelQualified (s : State) (c : Channel) : Bool :=
  (s.mm.mods.get (s.cc.table.get c).module).state == .qualified

/-- The sliding magnitude of a phase when the phase is included: its voltage entry is enabled, the module it names is
QUALIFIED, and the magnitude has data (R80). -/
def includedValue (s : State) (w : BoundaryWork) (p : Phase) : Option Nat :=
  if (s.cc.table.get p.voltage).enabled && channelQualified s p.voltage then w.values.get p.voltage else none

/-- Whether a phase is included (R80). -/
def included (s : State) (w : BoundaryWork) (p : Phase) : Bool := (includedValue s w p).isSome

/-- Whether some phase is included and satisfies a test. -/
def someIncluded (s : State) (w : BoundaryWork) (test : Nat → Bool) : Bool :=
  allPhases.any fun p => (includedValue s w p).any test

/-- Whether at least one phase is included and every included phase satisfies a test. -/
def everyIncluded (s : State) (w : BoundaryWork) (test : Nat → Bool) : Bool :=
  allPhases.any (included s w) && allPhases.all fun p => (includedValue s w p).all test

/-- Whether all three phases are included and below a threshold (R84). -/
def allBelow (s : State) (w : BoundaryWork) (threshold : Nat) : Bool :=
  allPhases.all fun p => (includedValue s w p).any fun v => decide (v < threshold)

/-! ## Reports to the Interval Aggregator (R97, R122, R133) -/

/-- The open interval changed, when one is open. -/
def updInterval (f : Interval → Interval) (s : State) : State :=
  s.setIa { s.ia with interval := s.ia.interval.map f }

/-- The campaign summary changed. -/
def updSummary (f : Summary → Summary) (s : State) : State := s.setIa { s.ia with summary := f s.ia.summary }

/-- A close is counted by its final class (R133). -/
def countClose (c : EventClass) (s : State) : State :=
  updSummary (fun x =>
    match c with
    | .dip => { x with dips := x.dips + 1 }
    | .interruption => { x with interruptions := x.interruptions + 1 }
    | .swell => { x with swells := x.swells + 1 }) s

/-! ## Opening (R82, R89) -/

/-- The next event number (R81). -/
def nextEvent (s : State) : Nat := wrap32 (s.ed.eventNumber + 1)

/-- The current of a phase at a boundary. -/
def currentOf (w : BoundaryWork) (p : Phase) : Option Nat := w.values.get p.current

/-- The entries of the included phases beyond a threshold, as an event opens (R82, R89). -/
def startEntries (s : State) (w : BoundaryWork) (beyond : Nat → Bool) : List PhaseEntry :=
  allPhases.filterMap fun p =>
    match includedValue s w p with
    | some v => if beyond v then some { phase := p, extreme := v, time := 0, join := 0 } else none
    | none => none

/-- The event record at its start boundary (R82, R89). -/
def openEvent (s : State) (w : BoundaryWork) (cls : EventClass) (start intr hyst : Nat) (beyond : Nat → Bool) :
    OpenEvent :=
  { number := nextEvent s, profile := s.sl.settings.activeProfile, startThreshold := start, intrStart := intr,
    hyst := hyst, cls := cls, startNumber := w.boundary.number, startPosition := w.boundary.position,
    startStamp := w.stamp, phases := startEntries s w beyond, pre := s.ed.previousCurrents,
    peak := PerPhase.of (currentOf w), unbroken := PerPhase.of fun p => channelQualified s p.current,
    excluded := PerPhase.of fun p => !included s w p, subSpans := [], subCount := 0, subTotal := 0, openSub := none,
    noInclusion := 0, startOutcome := .none, intrOutcome := .none }

/-- A trigger handed to the Capture Unit when its cause is in CAPTURE_TRIGGERS (R96). -/
def handTrigger (cause : TrigCause) (event k : Nat) (s : State) : TrigOutcome × State :=
  if s.sl.settings.captureTriggers.getLsbD cause.code then trigger cause event k s else (.none, s)

/-- The active profile of the table in force (R77). -/
def activeProfile (s : State) : Profile := s.ed.limits.get s.sl.settings.activeProfile

/-- The dip-family machine opens an event (R82). -/
def openDip (w : BoundaryWork) (s : State) : State :=
  let p := activeProfile s
  let e := openEvent s w .dip p.dipStart p.intrStart p.hyst fun v => decide (v < p.dipStart)
  let s := s.setEd { s.ed with eventNumber := nextEvent s }
  let (outcome, s) := handTrigger .dip e.number w.k s
  let s := s.setEd { s.ed with dip := some { e with startOutcome := outcome } }
  updInterval (fun x => { x with dipStarts := x.dipStarts + 1 }) s

/-- The swell machine opens an event (R89). -/
def openSwell (w : BoundaryWork) (s : State) : State :=
  let p := activeProfile s
  let e := openEvent s w .swell p.swellStart 0 p.hyst fun v => decide (p.swellStart < v)
  let s := s.setEd { s.ed with eventNumber := nextEvent s }
  let (outcome, s) := handTrigger .swell e.number w.k s
  let s := s.setEd { s.ed with swell := some { e with startOutcome := outcome } }
  updInterval (fun x => { x with swellStarts := x.swellStarts + 1 }) s

/-! ## Updates of an open event (R83, R89) -/

/-- The larger of a peak and a current. -/
def peakWith (old new : Option Nat) : Option Nat :=
  match old, new with
  | some a, some b => some (max a b)
  | some a, none => some a
  | none, x => x

/-- A listed phase at a later boundary: its extreme and its time beyond the threshold (R83). -/
def PhaseEntry.update (s : State) (w : BoundaryWork) (length : Nat) (beyond : Nat → Bool) (worse : Nat → Nat → Nat)
    (e : PhaseEntry) : PhaseEntry :=
  match includedValue s w e.phase with
  | some v => { e with extreme := worse e.extreme v, time := if beyond v then e.time + length else e.time }
  | none => e

/-- The phases that join at a later boundary (R83). -/
def joiners (s : State) (w : BoundaryWork) (e : OpenEvent) (beyond : Nat → Bool) : List PhaseEntry :=
  allPhases.filterMap fun p =>
    match includedValue s w p with
    | some v =>
      if beyond v && !(e.phases.any fun x => x.phase == p) then
        some { phase := p, extreme := v, time := 0, join := w.boundary.position - e.startPosition }
      else none
    | none => none

/-- The length of the half-cycle just ended (R83). -/
def halfLength (s : State) (w : BoundaryWork) : Nat :=
  w.boundary.position - (s.ed.lastBoundary.map fun x => x.1.position).getD 0

/-- An open event record updated at a later boundary, before any test (R83, R89). -/
def OpenEvent.update (s : State) (w : BoundaryWork) (beyond : Nat → Bool) (worse : Nat → Nat → Nat) (e : OpenEvent) :
    OpenEvent :=
  { e with
    phases := (e.phases ++ joiners s w e beyond).map (PhaseEntry.update s w (halfLength s w) beyond worse)
    peak := PerPhase.of fun p => peakWith (e.peak.get p) (currentOf w p)
    unbroken := PerPhase.of fun p => e.unbroken.get p && channelQualified s p.current
    excluded := PerPhase.of fun p => e.excluded.get p || !included s w p
    noInclusion := if allPhases.any (included s w) then 0 else e.noInclusion + 1 }

/-! ## Sub-spans (R85) -/

/-- An open sub-span closes at a position (R85). -/
def OpenEvent.closeSub (position : Nat) (e : OpenEvent) : OpenEvent :=
  match e.openSub with
  | none => e
  | some start =>
    { e with
      openSub := none
      subCount := satSucc 255 e.subCount
      subTotal := e.subTotal + (position - start)
      subSpans :=
        if e.subSpans.length < 8 then
          e.subSpans ++ [{ offset := start - e.startPosition, duration := position - start }]
        else e.subSpans }

/-- The sub-span test of a boundary (R85). -/
def OpenEvent.subTest (s : State) (w : BoundaryWork) (e : OpenEvent) : OpenEvent :=
  if e.cls = .interruption then
    match e.openSub with
    | some _ =>
      if someIncluded s w fun v => decide (e.intrStart + e.hyst ≤ v) then e.closeSub w.boundary.position else e
    | none => if allBelow s w e.intrStart then { e with openSub := some w.boundary.position } else e
  else e

/-! ## Attribution (R91, R92) -/

/-- The attribution phase and its minimum: the listed phase with the lowest minimum, the first in order among equals
(R91). -/
def attributionPhase (e : OpenEvent) : Option PhaseEntry :=
  allPhases.foldl (fun best p =>
    match e.phases.find? fun x => x.phase == p, best with
    | none, b => b
    | some x, none => some x
    | some x, some b => if x.extreme < b.extreme then some x else some b) none

/-- The rise of a current, truncated toward zero and limited (R91). -/
def riseOf (pre peak : Nat) : Int := min (Int.tdiv (((peak : Int) - pre) * 10000) pre) 2147483647

/-- An undetermined attribution. -/
def undetermined (p : Option Phase) (reason : AttrReason) : AttrResult :=
  { result := .undetermined, phase := p, reason := reason, rise := none }

/-- The attribution of a dip-family event on its phase: the prerequisites in order, then the rise (R91). -/
def attributeOn (s : State) (e : OpenEvent) (p : Phase) : AttrResult :=
  if !(s.cc.table.get p.current).enabled then undetermined (some p) .noChannel
  else if !e.unbroken.get p then undetermined (some p) .unqualified
  else
    match e.pre.get p with
    | none => undetermined (some p) .noPre
    | some pre =>
      if pre < s.sl.settings.attribFloor then undetermined (some p) .belowFloor
      else
        match e.peak.get p with
        | none => undetermined (some p) .noPeak
        | some peak =>
          let rise := riseOf pre peak
          { result := if (s.sl.settings.attribThreshold : Int) ≤ rise then .downstream else .upstream
            phase := some p, reason := .none, rise := some (pre, peak, rise) }

/-- The attribution of an event at its close (R91, R92). -/
def attributionOf (s : State) (e : OpenEvent) : AttrResult :=
  if e.cls = .swell then undetermined none .swell
  else
    match attributionPhase e with
    | some x => attributeOn s e x.phase
    | none => undetermined none .noChannel

/-! ## Grids (R94) -/

/-- The column of a duration in microseconds (R94). -/
def gridColumn (g : GridTable) (micros : Nat) : Nat := (g.duration.filter fun t => decide (t ≤ micros / 1000)).length

/-- The row of a dip-family extreme (R94). -/
def dipRow (g : GridTable) (extreme : Nat) : Nat := (g.residual.filter fun t => decide (extreme < t)).length

/-- The row of a swell extreme (R94). -/
def swellRow (g : GridTable) (extreme : Nat) : Nat := (g.swell.filter fun t => decide (t ≤ extreme)).length

/-- A cell counted, saturating at 65,535 (R94). -/
def countCell (cells : List Nat) (i : Nat) : List Nat := cells.modify i (satSucc 65535)

/-- The extreme of an event: the lowest minimum, or the highest maximum of a swell (R93). -/
def extremeOf (e : OpenEvent) : Nat :=
  if e.cls = .swell then (e.phases.map PhaseEntry.extreme).foldl max 0
  else ((attributionPhase e).map PhaseEntry.extreme).getD 0

/-- The cell an event is counted in (R94); none for NO_DATA. -/
def cellOf (s : State) (e : OpenEvent) (cause : CloseCause) (micros : Nat) : Option (Nat × Nat) :=
  if cause = .noData then none
  else
    let row := if e.cls = .swell then swellRow s.ed.grid (extremeOf e) else dipRow s.ed.grid (extremeOf e)
    some (row, gridColumn s.ed.grid micros)

/-- The grids with an event counted (R94). -/
def countGrid (swell : Bool) (cell : Option (Nat × Nat)) (s : State) : State :=
  match cell with
  | none => s
  | some (r, c) =>
    if swell then s.setEd { s.ed with swellCells := countCell s.ed.swellCells (r * 6 + c) }
    else s.setEd { s.ed with dipCells := countCell s.ed.dipCells (r * 6 + c) }

/-! ## The close (R93) -/

/-- The EVENT record body of an event closed at a boundary (R93). -/
def eventBody (s : State) (e : OpenEvent) (cause : CloseCause) (b : Boundary) (stamp : Stamp) : EventBody :=
  let length := b.position - e.startPosition
  { event := e, cause := cause, endNumber := b.number, endStamp := stamp, duration := micros32 length,
    extreme := extremeOf e, attribution := attributionOf s e, cell := cellOf s e cause (microsOf length) }

/-- The close of an event, with any cause, at its end boundary (R93). -/
def closeEvent (e : OpenEvent) (cause : CloseCause) (b : Boundary) (stamp : Stamp) (s : State) : State :=
  let e := e.closeSub b.position
  let body := eventBody s e cause b stamp
  let swell := e.cls == .swell
  let s := countGrid swell body.cell s
  let s := (handRecord (.event body) s).2
  let s := if swell then s.setEd { s.ed with swell := none } else s.setEd { s.ed with dip := none }
  countClose e.cls s

/-! ## The machines at a boundary (R79) -/

/-- The escalation test (R84). -/
def escalate (w : BoundaryWork) (s : State) : State :=
  match s.ed.dip with
  | none => s
  | some e =>
    if e.cls = .dip ∧ allBelow s w e.intrStart = true then
      let (outcome, s) := handTrigger .interruption e.number w.k s
      let e := { e with cls := .interruption, openSub := some w.boundary.position, intrOutcome := outcome }
      let s := s.setEd { s.ed with dip := some e }
      updInterval (fun x => { x with escalations := x.escalations + 1 }) s
    else s

/-- The end test and the no-data test of an open event (R86, R87, R89). -/
def endTests (w : BoundaryWork) (ended : Nat → Bool) (e : OpenEvent) (s : State) : State :=
  if everyIncluded s w ended then closeEvent e .normal w.boundary w.stamp s
  else if 4 ≤ e.noInclusion then closeEvent e .noData w.boundary w.stamp s
  else s

/-- The dip-family machine at a boundary (R82 to R87). -/
def runDip (w : BoundaryWork) (s : State) : State :=
  match s.ed.dip with
  | none =>
    if someIncluded s w fun v => decide (v < (activeProfile s).dipStart) then escalate w (openDip w s) else s
  | some e =>
    let e := (e.update s w (fun v => decide (v < e.startThreshold)) min).subTest s w
    let s := escalate w (s.setEd { s.ed with dip := some e })
    match s.ed.dip with
    | none => s
    | some e => endTests w (fun v => decide (e.startThreshold + e.hyst ≤ v)) e s

/-- The swell machine at a boundary (R89). -/
def runSwell (w : BoundaryWork) (s : State) : State :=
  match s.ed.swell with
  | none => if someIncluded s w fun v => decide ((activeProfile s).swellStart < v) then openSwell w s else s
  | some e =>
    let e := e.update s w (fun v => decide (e.startThreshold < v)) max
    endTests w (fun v => decide (v ≤ e.startThreshold - e.hyst)) e (s.setEd { s.ed with swell := some e })

/-- Whether an event of either machine is open. -/
def anyOpen (s : State) : Bool := s.ed.dip.isSome || s.ed.swell.isSome

/-- The Event Detector's work at a boundary (R79), and its report whether an event was open at it: opened or closed here
counts. The machines run at every boundary while RUNNING, the first after the entry whatever its parity
(notes/assumptions/47.md). -/
def boundaryEvents (w : BoundaryWork) (s : State) : Bool × State :=
  let ran :=
    if s.ia.state = .running then
      let before := s.ed.dip.isSome
      let s := runDip w s
      let middle := anyOpen s
      let s := runSwell w s
      (before || middle || anyOpen s, s)
    else (false, s)
  let s := ran.2
  (ran.1, s.setEd { s.ed with
    previousCurrents := PerPhase.of (currentOf w), lastBoundary := some (w.boundary, w.stamp) })

/-- The forced closes of a STOP or a RESTART: the dip-family event, then the swell event, at the last boundary taken
(R88, R90). -/
def forceClose (cause : CloseCause) (s : State) : State :=
  match s.ed.lastBoundary with
  | none => s
  | some (b, stamp) =>
    let s := match s.ed.dip with
      | some e => closeEvent e cause b stamp s
      | none => s
    match s.ed.swell with
    | some e => closeEvent e cause b stamp s
    | none => s

/-! ## The limit table (R76) -/

/-- The relations a profile keeps (R76). -/
def Profile.valid (p : Profile) : Bool :=
  decide (0 < p.intrStart ∧ p.intrStart < p.dipStart ∧ p.dipStart < 10000 ∧ 10000 < p.swellStart ∧ p.hyst ≤ 1000 ∧
    p.dipStart + p.hyst ≤ 10000 ∧ 10000 + p.hyst ≤ p.swellStart ∧ p.bandLow < p.bandHigh)

/-- The profile a listed entry gives. -/
def profileOf (a : LimitArg) : Profile :=
  { dipStart := a.dipStart.toNat, intrStart := a.intrStart.toNat, swellStart := a.swellStart.toNat,
    hyst := a.hyst.toNat, bandLow := a.bandLow.toNat, bandHigh := a.bandHigh.toNat }

/-- The candidate limit table (R76). -/
def candidateLimits (s : State) (entries : List LimitArg) : LimitTable :=
  entries.foldl (fun t a => t.set a.index.toNat (profileOf a)) (s.ed.pendingLimits.getD s.ed.limits)

/-- Whether a listed limit table is acceptable (R76). -/
def limitsValid (s : State) (entries : List LimitArg) : Bool :=
  entries.all (fun a => decide (a.index.toNat < 4)) && decide (entries.map LimitArg.index).Nodup &&
    (candidateLimits s entries).toList.all Profile.valid

/-- LOAD TABLE for the limit table (R76). -/
def orderLoadLimit (tag : Byte) (entries : List LimitArg) (s : State) : State :=
  if limitsValid s entries then
    let t := candidateLimits s entries
    answerOk tag 3 [] <|
      if s.ia.state = .stopped then s.setEd { s.ed with limits := t, pendingLimits := none }
      else s.setEd { s.ed with pendingLimits := some t }
  else refuse tag 3 .invalid s

/-- READ TABLE for the limit table (R76, section 12.4). A profile is its six fields without the index that an entry of LOAD TABLE
has: DEDUCED (notes/assumptions/68.md). -/
def limitTableBody (s : State) : List Byte :=
  s.ed.limits.toList.flatMap Profile.bytes ++ leBool s.ed.pendingLimits.isSome ++
    match s.ed.pendingLimits with
    | some t => t.toList.flatMap Profile.bytes
    | none => List.replicate 48 0

/-! ## The grid table (R78) -/

/-- Whether a list has a length, lies in a range and stands in strict order. -/
def listValid (length lo hi : Nat) (ordered : Nat → Nat → Bool) (xs : List Nat) : Bool :=
  xs.length == length && xs.all (fun x => decide (lo ≤ x ∧ x ≤ hi)) &&
    (xs.zip (xs.drop 1)).all fun p => ordered p.1 p.2

/-- A grid table with one list replaced, if the list is acceptable (R78). -/
def gridWith (g : GridTable) (a : GridArg) : Option GridTable :=
  let xs := a.entries.map BitVec.toNat
  if a.list = 0 then
    if listValid 4 1 10000 (fun x y => decide (y < x)) xs then some { g with residual := xs } else none
  else if a.list = 1 then
    if listValid 2 10001 65535 (fun x y => decide (x < y)) xs then some { g with swell := xs } else none
  else if a.list = 2 then
    if listValid 5 1 3600000 (fun x y => decide (x < y)) xs then some { g with duration := xs } else none
  else none

/-- A grid table with every list replaced (R78). -/
def gridsWith : GridTable → List GridArg → Option GridTable
  | g, [] => some g
  | g, a :: rest => (gridWith g a).bind fun g => gridsWith g rest

/-- LOAD TABLE for the grid table (R78), WRONG_STATE before INVALID: DESIGN CHOICE (notes/assumptions/77.md). -/
def orderLoadGrid (tag : Byte) (lists : List GridArg) (s : State) : State :=
  if s.ia.state ≠ .stopped then refuse tag 3 .wrongState s
  else
    match gridsWith s.ed.grid lists with
    | some g =>
      if (lists.map GridArg.list).Nodup then answerOk tag 3 [] (s.setEd { s.ed with grid := g })
      else refuse tag 3 .invalid s
    | none => refuse tag 3 .invalid s

/-- READ TABLE for the grid table (R78, section 12.4). A list is its entries without the list code and the count that LOAD TABLE
gives: DEDUCED (notes/assumptions/68.md). -/
def gridTableBody (s : State) : List Byte :=
  s.ed.grid.bytes ++ cellBytes s.ed.dipCells ++ cellBytes s.ed.swellCells

/-- A START clears both grids (R78). -/
def clearGrids (s : State) : State :=
  s.setEd { s.ed with dipCells := List.replicate 30 0, swellCells := List.replicate 18 0 }

end Sys2Proof.Machine
end

