-- ==== Sys2Proof/Machine/Intervals.lean ====
section
/-! DEFINITION. Intervals (R119 to R125) and the way from ARMING into RUNNING (R128, R129). -/

namespace Sys2Proof.Machine

/-! ## Window results (R64) -/

/-- A window result as the Magnitude Unit hands it on (R64). -/
structure WindowResult where
  number : Nat
  startNumber : Nat
  endNumber : Nat
  startStamp : Stamp
  endStamp : Stamp
  length : Nat
  frequency : Nat
  rms : PerChannel (Option Nat)
  magnitudes : PerVolt (Option Nat)
  flags : BitVec 8
  deriving DecidableEq, Repr

/-- An RMS value in counts as a magnitude (R58). -/
def magnitudeOf (rms declared : Nat) : Nat := min 65535 (roundDiv (rms * 10000) declared)

/-! ## The open interval (R119, R121) -/

def VoltStat.zero : VoltStat := { count := 0, sumSq := 0, min := none, max := none }

def CurrStat.zero : CurrStat := { count := 0, sumSq := 0 }

/-- An interval as it opens: every count and sum 0, every minimum and maximum absent (R119). -/
def Interval.opened (number : Nat) (start : Stamp) (partialMark : Bool) : Interval :=
  { number := number, start := start, partialMark := partialMark, counted := 0, flagged := 0, union := 0,
    volts := ⟨.zero, .zero, .zero, .zero⟩, clean := ⟨.zero, .zero, .zero, .zero⟩,
    currents := ⟨.zero, .zero, .zero, .zero⟩, freqCount := 0, freqSum := 0, freqMin := none, freqMax := none,
    dipStarts := 0, escalations := 0, swellStarts := 0 }

/-- The smaller of a minimum held and a value. -/
def lower (old : Option Nat) (v : Nat) : Option Nat := some (match old with | some x => min x v | none => v)

/-- The larger of a maximum held and a value. -/
def higher (old : Option Nat) (v : Nat) : Option Nat := some (match old with | some x => max x v | none => v)

/-- A voltage channel's items with a window added (R121). -/
def VoltStat.add (x : VoltStat) (rms magnitude : Option Nat) : VoltStat :=
  match rms, magnitude with
  | some r, some m =>
    { count := x.count + 1, sumSq := x.sumSq + r * r, min := lower x.min m, max := higher x.max m }
  | _, _ => x

/-- A current channel's items with a window added (R121). -/
def CurrStat.add (x : CurrStat) (rms : Option Nat) : CurrStat :=
  match rms with
  | some r => { count := x.count + 1, sumSq := x.sumSq + r * r }
  | none => x

/-- The voltage channels' items with a window added. -/
def addVolts (v : PerVolt VoltStat) (w : WindowResult) : PerVolt VoltStat :=
  ⟨v.v1.add w.rms.v1 w.magnitudes.v1, v.v2.add w.rms.v2 w.magnitudes.v2, v.v3.add w.rms.v3 w.magnitudes.v3,
    v.vne.add w.rms.vne w.magnitudes.vne⟩

/-- The open interval with a window result added (R121). -/
def Interval.add (w : WindowResult) (x : Interval) : Interval :=
  let clean := w.flags == 0
  { x with
    counted := x.counted + 1
    flagged := if clean then x.flagged else x.flagged + 1
    union := x.union ||| w.flags
    volts := addVolts x.volts w
    clean := if clean then addVolts x.clean w else x.clean
    currents := ⟨x.currents.i1.add w.rms.i1, x.currents.i2.add w.rms.i2, x.currents.i3.add w.rms.i3,
      x.currents.neutral.add w.rms.neutral⟩
    freqCount := x.freqCount + 1
    freqSum := x.freqSum + w.frequency
    freqMin := lower x.freqMin w.frequency
    freqMax := higher x.freqMax w.frequency }

/-- A window result arrives at the Interval Aggregator (R121). -/
def windowArrives (w : WindowResult) (s : State) : State := updInterval (Interval.add w) s

/-! ## The close of an interval (R123, R124) -/

/-- RMS, minimum and maximum of a channel's items as magnitudes; absent when the count is 0 (R123). -/
def VoltStat.figures (declared : Nat) (x : VoltStat) : Option (Nat × Nat × Nat) :=
  if x.count = 0 then none
  else some (magnitudeOf (isqrt (x.sumSq / x.count)) declared, x.min.getD 0, x.max.getD 0)

/-- The RMS of a current channel in counts (R123). -/
def CurrStat.rms (x : CurrStat) : Option Nat := if x.count = 0 then none else some (isqrt (x.sumSq / x.count))

/-- The band result of a phase (R124). -/
def bandResult (p : Profile) (clean : Option (Nat × Nat × Nat)) : Option Bool :=
  clean.map fun f => decide (p.bandLow ≤ f.1 ∧ f.1 ≤ p.bandHigh)

/-- The figures of one voltage channel (R123); only a phase has a band result. -/
def voltResult (declared : Nat) (p : Profile) (phase : Bool) (x clean : VoltStat) : VoltResult :=
  let c := clean.figures declared
  { values := x.figures declared, clean := c, band := if phase then bandResult p c else none }

/-- The body of the INTERVAL record (R123). -/
def intervalBody (s : State) (x : Interval) (stop : Stamp) (ended early : Bool) : IntervalBody :=
  let d := s.sl.settings.declaredCounts
  let p := activeProfile s
  { number := x.number, start := x.start, stop := stop, partialMark := x.partialMark || ended, early := early,
    counted := x.counted, flagged := x.flagged, union := x.union,
    volts := ⟨voltResult d p true x.volts.v1 x.clean.v1, voltResult d p true x.volts.v2 x.clean.v2,
      voltResult d p true x.volts.v3 x.clean.v3, voltResult d p false x.volts.vne x.clean.vne⟩,
    currents := x.currents.map CurrStat.rms,
    freqMean := if x.freqCount = 0 then none else some (roundDiv x.freqSum x.freqCount),
    freqMin := x.freqMin, freqMax := x.freqMax, profile := s.sl.settings.activeProfile, dipStarts := x.dipStarts,
    escalations := x.escalations, swellStarts := x.swellStarts, lost := s.rq.intervalLoss }

/-- The band results of the three phases. -/
def IntervalBody.bands (b : IntervalBody) : List (Option Bool) := [b.volts.v1.band, b.volts.v2.band, b.volts.v3.band]

/-- Whether an interval is in band: at least one band result, and every one IN (R124). -/
def IntervalBody.inBand (b : IntervalBody) : Bool :=
  b.bands.any Option.isSome && b.bands.all fun r => r != some false

/-- The campaign summary with an interval counted (R133). -/
def Summary.addInterval (b : IntervalBody) (x : Summary) : Summary :=
  { x with
    intervals := x.intervals + 1
    inBand := if b.inBand then x.inBand + 1 else x.inBand
    noClean := if b.bands.all Option.isNone then x.noClean + 1 else x.noClean }

/-- The open interval closes: its record is created and handed on, and it is counted into the summary (R123). -/
def closeInterval (stop : Stamp) (ended early : Bool) (s : State) : State :=
  match s.ia.interval with
  | none => s
  | some x =>
    let b := intervalBody s x stop ended early
    let s := (handRecord (.interval b) s).2
    let s := updSummary (Summary.addInterval b) s
    s.setIa { s.ia with interval := none }

/-- An interval opens (R119). -/
def openInterval (number : Nat) (start : Stamp) (partialMark : Bool) (s : State) : State :=
  s.setIa { s.ia with interval := some (.opened number start partialMark) }

/-- The number of the open interval. -/
def intervalNumber (s : State) : Nat := (s.ia.interval.map Interval.number).getD 0

/-- Whether a seconds value is an interval boundary (R120). -/
def isIntervalBoundary (s : State) (seconds : Nat) : Bool := seconds % 86400 % s.sl.settings.intervalSeconds == 0

/-- The interval boundary test of a second rollover (R120). -/
def rolloverReport (s : State) : State :=
  if s.ia.state = .running ∧ isIntervalBoundary s s.tb.seconds = true then
    let n := intervalNumber s
    let at_ : Stamp := ⟨s.tb.seconds, 0⟩
    openInterval (n + 1) at_ false (applyUnlessHold .interval (closeInterval at_ false false s))
  else s

/-- The step report of the Time Base (R125), with the strobe time just before and just after the step. -/
def stepReport (before after : Stamp) (s : State) : State :=
  match s.ia.interval with
  | none => s
  | some x =>
    openInterval (x.number + 1) after true (applyUnlessHold .early (closeInterval before false true s))

/-! ## From ARMING into RUNNING (R128, R129) -/

/-- Whether every module named by an enabled voltage entry is QUALIFIED (R128). -/
def voltageModulesReady (s : State) : Bool :=
  ([.v1, .v2, .v3, .vne] : List Channel).all fun c => !(s.cc.table.get c).enabled || channelQualified s c

/-- Whether the campaign is ready (R128). -/
def campaignReady (s : State) : Bool := voltageModulesReady s && s.ct.state == .locked

/-- The campaign enters RUNNING (R129): interval 0 opens PARTIAL and the window counter becomes 0. -/
def enterRunning (s : State) : State :=
  let s := s.setIa { s.ia with state := .running }
  let s := s.setMu { s.mu with counter := 0 }
  openInterval 0 (nowStamp s) true s

/-- The readiness test of R128. -/
def readyTest (s : State) : State := if s.ia.state = .arming ∧ campaignReady s = true then enterRunning s else s

end Sys2Proof.Machine
end

