-- ==== Sys2Proof/Machine/Magnitude.lean ====
section
/-! DEFINITION. The Magnitude Unit (chapter 4): half-cycle records, sliding values, windows with their flags, and the
snapshot. -/

namespace Sys2Proof.Machine

/-! ## Half-cycle records (R56 to R58) -/

def Sums.zero : Sums := { sum := 0, present := 0, strobes := 0 }

/-- A channel value added to a record: a marker raises only the strobe count (R56). -/
def Sums.add (x : Sums) (v : Int) : Sums :=
  if isMarker v then { x with strobes := x.strobes + 1 }
  else { sum := x.sum + v.natAbs * v.natAbs, present := x.present + 1, strobes := x.strobes + 1 }

/-- Two records together (R57). -/
def Sums.join (x y : Sums) : Sums :=
  { sum := x.sum + y.sum, present := x.present + y.present, strobes := x.strobes + y.strobes }

/-- The cycle just ended when it is valid (R57). -/
def ChanSums.cycle (c : ChanSums) : Option Sums :=
  match c.previous, c.running, c.cut with
  | some x, some y, false =>
    let z := x.join y
    if 7 * z.strobes ≤ z.present * 8 then some z else none
  | _, _, _ => none

/-- The records moved on at a boundary (R57). -/
def ChanSums.moveOn (c : ChanSums) : ChanSums :=
  { previous := if c.cut then none else c.running, running := some .zero, cut := false }

/-- The sliding value of a channel: a magnitude, a count, or no data (R58). -/
def slidingValue (declared : Nat) (c : Channel) (x : ChanSums) : Option Nat :=
  x.cycle.map fun z =>
    let r := isqrt (z.sum / z.present)
    if c.isVoltage then magnitudeOf r declared else r

/-- The eight sliding values at a boundary (R58). -/
def slidingValues (s : State) : PerChannel (Option Nat) :=
  PerChannel.of fun c => slidingValue s.sl.settings.declaredCounts c (s.mu.channels.get c)

/-! ## Windows (R62 to R73) -/

/-- Whether some module named by an enabled entry is not QUALIFIED (R71). -/
def someUnqualified (s : State) : Bool :=
  allChannels.any fun c => (s.cc.table.get c).enabled && !channelQualified s c

/-- Whether an enabled channel has no data at a boundary (R70). -/
def someNoData (s : State) (values : PerChannel (Option Nat)) : Bool :=
  allChannels.any fun c => (s.cc.table.get c).enabled && (values.get c).isNone

/-- Whether an enabled channel is thinly covered in a window (R70). -/
def someThin (s : State) (w : Window) : Bool :=
  allChannels.any fun c =>
    (s.cc.table.get c).enabled && decide ((w.sums.get c).present * 8 < 7 * (w.sums.get c).strobes)

/-- The flags any boundary in a window gives: HOLD, EVENT and UNQUAL (R67, R68, R71). -/
def edgeFlags (s : State) (b : Boundary) (event : Bool) (m : BitVec 8) : BitVec 8 :=
  WinFlag.unqual.join (someUnqualified s)
    (WinFlag.event.join event (WinFlag.hold.join (b.kind == .synthetic) m))

/-- Whether a boundary ends the open window (R62). -/
def Window.endsAt (w : Window) (b : Boundary) : Bool := b.number == wrap32 (w.startNumber + 2 * w.cycles)

/-- The frequency of a window in millihertz (R65). -/
def windowFrequency (cycles length : Nat) : Nat := roundDiv (cycles * 3276800000) length

/-- The R_w of a channel (R64). -/
def Sums.rms (x : Sums) : Option Nat := if x.present = 0 then none else some (isqrt (x.sum / x.present))

/-- The window result formed at the end boundary (R64). -/
def Window.result (w : Window) (declared : Nat) (b : Boundary) (stamp : Stamp) (flags : BitVec 8) : WindowResult :=
  let rms := w.sums.map Sums.rms
  let length := b.position - w.startPosition
  { number := w.number, startNumber := w.startNumber, endNumber := b.number, startStamp := w.startStamp,
    endStamp := stamp, length := length, frequency := windowFrequency w.cycles length, rms := rms,
    magnitudes := ⟨rms.v1.map (magnitudeOf · declared), rms.v2.map (magnitudeOf · declared),
      rms.v3.map (magnitudeOf · declared), rms.vne.map (magnitudeOf · declared)⟩,
    flags := flags }

/-- A window starts at a cycle boundary (R62). -/
def startWindow (b : Boundary) (stamp : Stamp) (event : Bool) (s : State) : State :=
  let s := applyPendingCal s
  let flags := edgeFlags s b event 0
  let flags := WinFlag.uncal.join (uncalibrated s) flags
  let flags := WinFlag.refChange.join s.mu.carriedRefChange (WinFlag.timeStep.join s.mu.carriedTimeStep flags)
  let w : Window :=
    { number := s.mu.counter, cycles := s.sl.settings.windowCycles, startNumber := b.number,
      startPosition := b.position, startStamp := stamp, sums := PerChannel.of fun _ => .zero, flags := flags }
  s.setMu { s.mu with
    window := some w, carriedRefChange := false, carriedTimeStep := false, counter := wrap32 (s.mu.counter + 1) }

/-- The window closes at its end boundary: the result goes to the Interval Aggregator, and the snapshot's frequency is
replaced (R64). -/
def closeWindow (w : Window) (b : Boundary) (stamp : Stamp) (flags : BitVec 8) (s : State) : State :=
  let flags := WinFlag.gap.join (someThin s w) flags
  let r := w.result s.sl.settings.declaredCounts b stamp flags
  let s := windowArrives r s
  s.setMu { s.mu with window := none, snapshot := { s.mu.snapshot with frequency := some r.frequency } }

/-- The window work of a boundary (R62, R64, R67 to R71). -/
def windowWork (b : Boundary) (stamp : Stamp) (event : Bool) (values : PerChannel (Option Nat)) (s : State) : State :=
  match s.mu.window with
  | some w =>
    let flags := WinFlag.gap.join (someNoData s values) (edgeFlags s b event w.flags)
    if w.endsAt b then startWindow b stamp event (closeWindow w b stamp flags s)
    else s.setMu { s.mu with window := some { w with flags := flags } }
  | none => if s.ia.state = .running ∧ b.number % 2 = 0 then startWindow b stamp event s else s

/-! ## Boundary and set -/

/-- The boundary work of the Magnitude Unit (R57 to R59): sliding values, the Event Detector's work, the window work. -/
def boundaryWork (b : Boundary) (k : Nat) (s : State) : PerChannel (Option Nat) × State :=
  let values := slidingValues s
  let stamp := stampAt s b.position
  let s := s.setMu { s.mu with channels := s.mu.channels.map ChanSums.moveOn }
  let (event, s) := boundaryEvents { boundary := b, stamp := stamp, k := k, values := values } s
  (values, windowWork b stamp event values s)

/-- The snapshot latched at a boundary after the reference decision (R60). -/
def latchSnapshot (b : Boundary) (values : PerChannel (Option Nat)) (s : State) : State :=
  s.setMu { s.mu with
    snapshot := { s.mu.snapshot with boundary := some b, values := values, tracker := s.ct.state } }

/-- A set added to the open window (R63, R73). -/
def Window.addSet (c : CondSet) (w : Window) : Window :=
  { w with
    sums := PerChannel.of fun r => (w.sums.get r).add (c.values.get r)
    flags := WinFlag.overrange.join (c.overrange.toList.any id) w.flags }

/-- A set added to the running records and to the open window (R56, R63). -/
def addSet (c : CondSet) (s : State) : State :=
  s.setMu { s.mu with
    channels := PerChannel.of fun r =>
      let x := s.mu.channels.get r
      { x with running := x.running.map fun y => y.add (c.values.get r) }
    window := s.mu.window.map (Window.addSet c) }

/-! ## Reports, STOP and RESTART -/

/-- A reference change is reported (R69). -/
def reportRefChange (s : State) : State :=
  match s.mu.window with
  | some w => s.setMu { s.mu with window := some { w with flags := WinFlag.refChange.join true w.flags } }
  | none => if s.ia.state = .running then s.setMu { s.mu with carriedRefChange := true } else s

/-- A step of the time is reported (R69). -/
def reportTimeStep (s : State) : State :=
  match s.mu.window with
  | some w => s.setMu { s.mu with window := some { w with flags := WinFlag.timeStep.join true w.flags } }
  | none => if s.ia.state = .running then s.setMu { s.mu with carriedTimeStep := true } else s

/-- The open window is abandoned (R66). -/
def abandonWindow (s : State) : State :=
  s.setMu { s.mu with window := none, carriedRefChange := false, carriedTimeStep := false }

/-- A channel's records at a RESTART (R74): the next boundary has no data and discards the cut record, the second has no
data for want of a previous record, and the third can have a value (notes/assumptions/46.md). Before boundary 0 there is
no running record to cut. -/
def ChanSums.restart (c : ChanSums) : ChanSums :=
  { previous := none, running := c.running.map fun _ => .zero, cut := c.running.isSome }

/-- The Magnitude Unit's part of a RESTART (R74). -/
def restartMagnitude (s : State) : State :=
  let s := abandonWindow s
  s.setMu { s.mu with channels := s.mu.channels.map ChanSums.restart }

end Sys2Proof.Machine
end

