-- ==== Sys2Proof/Machine/Tracker.lean ====
section
/-! DEFINITION. The Cycle Tracker (chapter 3): crossings, placement in each state, acquisition, the reference decision and
the holdover timer. -/

namespace Sys2Proof.Machine

/-- The Cycle Tracker changed. -/
def State.updCt (s : State) (f : CT → CT) : State := s.setCt (f s.ct)

/-- The shortest half-cycle in fine units (R41). -/
def shortHalf : Nat := 23296

/-- The longest half-cycle in fine units (R42). -/
def longHalf : Nat := 40960

/-- The nominal half-period (R39). -/
def nominalHalf (s : State) : Nat := if s.sl.settings.nominalFreq = 60 then 27307 else 32768

/-! ## Crossings (R38) -/

/-- The fraction of a crossing between two samples (R38). -/
def crossingFraction (p q : Int) : Nat := max 1 (roundDiv (256 * p.natAbs) (p.natAbs + q.natAbs))

/-- Whether two samples cross zero (R38). -/
def crosses (p q : Int) : Bool := decide (p < 0 ∧ 0 ≤ q) || decide (0 ≤ p ∧ q < 0)

/-- The position of the crossing of a channel at set k, if there is one (R38). -/
def crossingAt (k : Nat) (p : Option Int) (q : Int) : Option Nat :=
  match p with
  | none => none
  | some p =>
    if !isMarker p && !isMarker q && crosses p q then some (k * 256 + crossingFraction p q - 256) else none

/-- The crossing of a phase at a set. -/
def phaseCrossing (s : State) (c : CondSet) (p : Phase) : Option Nat :=
  crossingAt c.k (s.ct.previous.get p) (c.values.get p.voltage)

/-- The crossing of the reference at a set. -/
def referenceCrossing (s : State) (c : CondSet) : Option Nat := s.ct.reference.bind (phaseCrossing s c)

/-! ## Placing a boundary (R36) -/

/-- A boundary placed in the taking of a set, with the sliding values at it. -/
abbrev Placed := Option (Boundary × PerChannel (Option Nat))

/-- A boundary is placed: numbered, kept as the last boundary, and handed to the Magnitude Unit (R36). -/
def place (position : Nat) (kind : BoundaryKind) (k : Nat) (s : State) : Placed × State :=
  let number := match s.ct.last with
    | some b => wrap32 (b.number + 1)
    | none => 0
  let b : Boundary := { number := number, position := position, kind := kind }
  let (values, s) := boundaryWork b k (s.updCt fun t => { t with last := some b })
  (some (b, values), s)

/-- A SYNTHETIC boundary placed at a due position once it is reached (R39, R40; notes/assumptions/13.md). -/
def placeDue (due k : Nat) (s : State) : Placed × State :=
  if due ≤ k * 256 then place due .synthetic k s else (none, s)

/-- The departure from LOCKED into HOLDOVER, or FREERUN without a held half-period (R42, R48, R50). -/
def CT.leaveLocked (t : CT) : CT :=
  let t := { t with align := 0, revertPhase := none, revertCount := 0 }
  if t.held.isSome then { t with state := .holdover, timer := some 0 }
  else { t with state := .freerun, reference := none, timer := none }

/-- The loss limit of the half-cycle in LOCKED that began at a boundary (R42). -/
def lossLimit (held : Option Nat) (b : Boundary) : Nat :=
  match b.kind, held with
  | .crossing, some h => b.position + min (h * 5 / 4) longHalf
  | _, _ => b.position + longHalf

/-- The tracker with a crossing accepted that ends the half-cycle begun at a boundary (R41). -/
def CT.accept (b : Boundary) (position : Nat) (t : CT) : CT :=
  { t with
    held := if b.kind = .crossing then some (position - b.position) else t.held
    align := 0 }

/-- The tracker at a loss limit reached without a crossing: an alignment boundary or a crossing timeout (R42). -/
def CT.lose (b : Boundary) (t : CT) : CT :=
  if b.kind = .synthetic ∧ t.align < 2 then { t with align := t.align + 1 } else t.leaveLocked

/-- Placement in LOCKED against the last boundary and a loss limit (R41, R42). -/
def placeLocked (b : Boundary) (limit k : Nat) (crossing : Option Nat) (s : State) : Placed × State :=
  let accepted := crossing.filter fun c => decide (b.position + shortHalf ≤ c ∧ c ≤ limit)
  match accepted with
  | some c => place c .crossing k (s.updCt (CT.accept b c))
  | none =>
    if limit ≤ k * 256 then
      let (p, s) := place limit .synthetic k s
      (p, s.updCt (CT.lose b))
    else (none, s)

/-- Step 1 of R35. -/
def placement (c : CondSet) (s : State) : Placed × State :=
  match s.ct.last with
  | none => place (c.k * 256) .synthetic c.k s
  | some b =>
    match s.ct.state with
    | .freerun => placeDue (b.position + nominalHalf s) c.k s
    | .holdover | .acquire => placeDue (b.position + s.ct.held.getD (nominalHalf s)) c.k s
    | .locked => placeLocked b (lossLimit s.ct.held b) c.k (referenceCrossing s c) s

/-! ## Acquisition (R46, R51) -/

/-- A crossing offered to the acquisition run (R46). -/
def offer (run : List Nat) (c : Nat) : List Nat :=
  match run.reverse with
  | [] => [c]
  | e :: before =>
    let h := c - e
    if h < shortHalf then run
    else if longHalf < h then [c]
    else
      match before with
      | [] => run ++ [c]
      | d :: _ =>
        let g := e - d
        if (((h : Int) - g).natAbs) * 8 ≤ g then run ++ [c] else [e, c]

/-- The tracker in LOCKED on its candidate (R46, R50, R51). -/
def CT.lockOn (t : CT) : CT :=
  { t with state := .locked, align := 0, timer := none, run := [], lastLocked := t.reference }

/-- Whether a lock now is a reference change (R51). -/
def CT.changes (t : CT) : Bool := t.lastLocked.isSome && t.lastLocked != t.reference

/-- A reference change is latched and reported (R51, R69). -/
def refChanged (changed : Bool) (s : State) : State := if changed then reportRefChange (latch .refChange s) else s

/-- The orders in which a lock's report of a reference change, the readiness test and the boundary placed in the same
step can be taken (R46, R62, R69, R128): the report stands before the boundary, the readiness test anywhere. -/
inductive LockOrder where
  | readyReportPlace | reportReadyPlace | reportPlaceReady
  deriving DecidableEq, Repr

/-- The order that a free choice gives. -/
def LockOrder.ofDraw (n : Nat) : LockOrder :=
  if Config.pick n % 3 = 0 then .readyReportPlace else if Config.pick n % 3 = 1 then .reportReadyPlace
  else .reportPlaceReady

/-- The entry into LOCKED (R46, R51), with the readiness test that R128 applies at it. The report and the readiness test
may be taken in either order, and the test may also be left to the end of the step, after the boundary placed in it
(R62, R69, R128; notes/assumptions/2.md). -/
def enterLocked (order : LockOrder) (s : State) : State :=
  let changed := s.ct.changes
  let s := s.updCt CT.lockOn
  match order with
  | .readyReportPlace => refChanged changed (readyTest s)
  | .reportReadyPlace => readyTest (refChanged changed s)
  | .reportPlaceReady => refChanged changed s

/-- The lock, and the test of its crossing for placement in the same step (R46). -/
def lock (c : CondSet) (position : Nat) (s : State) : Placed × State :=
  let (n, s) := draw s
  let s := enterLocked (.ofDraw n) s
  match s.ct.last with
  | some b => placeLocked b (b.position + longHalf) c.k (some position) s
  | none => (none, s)

/-- Step 2 of R35. -/
def acquisition (c : CondSet) (s : State) : Placed × State :=
  if s.ct.state = .acquire then
    match referenceCrossing s c with
    | none => (none, s)
    | some position =>
      let run := offer s.ct.run position
      if run.length = 4 then lock c position s else (none, s.updCt fun t => { t with run := run })
  else (none, s)

/-! ## The reference decision (R43 to R49) -/

/-- Whether a candidate is eligible at a boundary (R43). -/
def eligible (s : State) (values : PerChannel (Option Nat)) (p : Phase) : Bool :=
  (s.cc.table.get p.voltage).enabled && channelQualified s p.voltage &&
    (values.get p.voltage).any fun v => decide (s.sl.settings.trackFloor ≤ v)

/-- The wanted reference (R44). -/
def wanted (s : State) (values : PerChannel (Option Nat)) : Option Phase :=
  match s.sl.settings.refMode with
  | .manual => if eligible s values s.sl.settings.refManual then some s.sl.settings.refManual else none
  | .auto => s.sl.settings.refPriority.find? (eligible s values)

/-- Into ACQUIRE on a channel, the run emptied (R45, R47). -/
def CT.acquire (p : Phase) (t : CT) : CT := { t with state := .acquire, reference := some p, run := [] }

/-- From LOCKED into ACQUIRE on a channel: the holdover timer starts and the revert count is cleared (R48 to R50)
(notes/assumptions/26.md). -/
def CT.switchTo (p : Phase) (t : CT) : CT :=
  { t.acquire p with timer := some 0, revertPhase := none, revertCount := 0 }

/-- The candidate is dropped without a new one (R47). The run is emptied with it (notes/assumptions/53.md). Back in HOLDOVER the
reference shown stays the candidate just dropped, not the channel that lost lock; R34 and R47 do not say which is 'the channel
that was lost': DESIGN CHOICE (notes/assumptions/73.md). -/
def CT.dropCandidate (t : CT) : CT :=
  if t.held.isSome then { t with state := .holdover, run := [] }
  else { t with state := .freerun, reference := none, run := [], timer := none }

/-- The decision in ACQUIRE (R47). -/
def decideAcquire (s : State) (values : PerChannel (Option Nat)) (candidate : Phase) : State :=
  let x := s.sl.settings
  if !eligible s values candidate || (x.refMode == .manual && candidate != x.refManual) then
    if x.refMode = .manual ∧ eligible s values x.refManual = true then s.updCt (CT.acquire x.refManual)
    else s.updCt CT.dropCandidate
  else s

/-- The preferred channel (R49): the first in REF_PRIORITY before the reference that is eligible. -/
def preferred (s : State) (values : PerChannel (Option Nat)) (reference : Phase) : Option Phase :=
  (s.sl.settings.refPriority.takeWhile fun p => p != reference).find? (eligible s values)

/-- The revertive rule (R49). -/
def revert (s : State) (values : PerChannel (Option Nat)) (reference : Phase) : State :=
  match preferred s values reference with
  | none => s.updCt fun t => { t with revertPhase := none, revertCount := 0 }
  | some p =>
    if s.sl.settings.revertive then
      let count := if s.ct.revertPhase = some p then s.ct.revertCount + 1 else 1
      if 100 ≤ count then s.updCt (CT.switchTo p)
      else s.updCt fun t => { t with revertPhase := some p, revertCount := count }
    else s.updCt fun t => { t with revertPhase := none, revertCount := 0 }

/-- The decision in LOCKED (R48). -/
def decideLocked (s : State) (values : PerChannel (Option Nat)) (reference : Phase) : State :=
  let x := s.sl.settings
  if !eligible s values reference then s.updCt CT.leaveLocked
  else
    match x.refMode with
    | .auto => revert s values reference
    | .manual =>
      if reference = x.refManual then s
      else if eligible s values x.refManual then s.updCt (CT.switchTo x.refManual)
      else s.updCt CT.leaveLocked

/-- The reference decision at a boundary (R43 to R49). -/
def decideReference (values : PerChannel (Option Nat)) (s : State) : State :=
  match s.ct.state, s.ct.reference with
  | .freerun, _ | .holdover, _ =>
    match wanted s values with
    | some p => s.updCt (CT.acquire p)
    | none => s
  | .acquire, some p => decideAcquire s values p
  | .locked, some p => decideLocked s values p
  | _, none => s

/-- Step 3 of R35, and the snapshot after it (R60). -/
def decideAt (p : Placed) (s : State) : State :=
  match p with
  | some (b, values) => latchSnapshot b values (decideReference values s)
  | none => s

/-! ## The holdover timer (R50) -/

/-- The tracker at the expiry of the holdover timer (R50). -/
def CT.expire (t : CT) : CT :=
  match t.state with
  | .holdover => { t with timer := none, state := .freerun, held := none, reference := none }
  | .acquire => { t with timer := none, held := none }
  | .freerun | .locked => { t with timer := none }

/-- The timer advances by 256 fine units and is tested for expiry (R50; notes/assumptions/34.md). -/
def CT.advance (limit : Nat) (t : CT) : CT :=
  match t.timer with
  | none => t
  | some n => if limit * 3276800 ≤ n + 256 then t.expire else { t with timer := some (n + 256) }

/-! ## Taking a set (R35) -/

/-- The Cycle Tracker takes a conditioned set (R35). -/
def trackTake (c : CondSet) (s : State) : State :=
  let (p1, s) := placement c s
  let (p2, s) := acquisition c s
  let s := decideAt (p2.orElse fun _ => p1) s
  let s := s.updCt fun t =>
    { t with previous := PerPhase.of fun p => some (c.values.get p.voltage) }
  readyTest (s.updCt (CT.advance s.sl.settings.holdoverLimit))

/-- The Cycle Tracker's part of a RESTART (R54). -/
def restartTracker (s : State) : State :=
  s.updCt fun t =>
    { t with
      state := .freerun, reference := none, held := none, run := [], align := 0, revertPhase := none, revertCount := 0,
      timer := none }

end Sys2Proof.Machine
end

