-- ==== Sys2Proof/Machine/Lane.lean ====
section
/-! DEFINITION. The Lane Receiver and the Module Monitor (chapter 1): lane frames, slots, the monitor window and the
streaks. -/

namespace Sys2Proof.Machine

/-! ## Lane frames (R3, R4; section 12.2) -/

/-- A lane frame that checks: module, sequence and contents (R3). -/
def readLaneFrame (bs : List Byte) : Option (Fin 4 × Nat × LaneFrame) :=
  if bs.length = 10 ∧ crc8 (bs.take 9) = (bs.drop 9).headD 0 then
    let m := fieldNat bs 0 1
    let status := (bs.drop 2).headD 0
    if h : m < 4 then
      some (⟨m, h⟩, fieldNat bs 1 1,
        { a := fieldInt bs 3 3, b := fieldInt bs 6 3, overA := status.getLsbD 0, overB := status.getLsbD 1,
          fault := status.getLsbD 2 })
    else none
  else none

/-- A slot filled with a frame. -/
def fillSlot (j : Nat) (f : LaneFrame) (slots : List Slot) : List Slot :=
  slots.map fun x => if x.index = j then { x with frame := some f } else x

/-- The monitor state of a module as it accepts a frame (R4, R8, R14). -/
def ModMon.accept (fault : Bool) (x : ModMon) : ModMon :=
  let x := { x with accepted := satSucc 65535 x.accepted, fault := x.fault || fault }
  match x.state with
  | .absent => { x with state := .unqualified, good := 0, bad := 0, joined := true }
  | .qualified => if fault then { x with state := .unqualified, good := 0, bad := 0 } else x
  | .unqualified => if fault then { x with good := 0 } else x
  | .disabled => x

/-- A frame of a module that is not DISABLED: accepted, duplicate or stray (R4). -/
def matchFrame (m : Fin 4) (sequence : Nat) (f : LaneFrame) (s : State) : State :=
  let x := s.mm.mods.get m
  match (s.lr.slots.get m).find? fun slot => slot.index % 256 == sequence with
  | some slot =>
    match slot.frame with
    | none =>
      let s := s.setLr { s.lr with slots := s.lr.slots.set m (fillSlot slot.index f (s.lr.slots.get m)) }
      s.setModule m (x.accept f.fault)
    | some _ => s.setModule m { x with duplicate := satSucc 65535 x.duplicate }
  | none => s.setModule m { x with stray := satSucc 65535 x.stray }

/-- A lane frame arrives (R3, R4). -/
def laneArrival (bs : List Byte) (s : State) : State :=
  match readLaneFrame bs with
  | none => s
  | some (m, sequence, f) => if (s.mm.mods.get m).state = .disabled then s else matchFrame m sequence f s

/-! ## Slots at a strobe issue (R2, R6) -/

/-- The frame of the slot that closes at the issue of strobe j, four strobes back (R6). -/
def closingFrame (j : Nat) (slots : List Slot) : Option LaneFrame :=
  (slots.find? fun x => x.index + 4 == j).bind Slot.frame

/-- The open slots of a module after the issue of strobe j (R2). -/
def issueSlots (j : Nat) (state : ModuleState) (slots : List Slot) : List Slot :=
  if state = .disabled then [] else (slots.filter fun x => decide (j < x.index + 4)) ++ [{ index := j, frame := none }]

/-- The entries that the issue of strobe j hands on, by module (R6). -/
def closingFrames (j : Nat) (s : State) : PerModule (Option LaneFrame) :=
  PerModule.of fun m => closingFrame j (s.lr.slots.get m)

/-! ## The monitor window (R9 to R13) -/

/-- The verdict of a window on its count (R10). -/
def verdictOf (accept reject : Nat) (fault : Bool) (count : Nat) : Verdict :=
  let deviation := ((count : Int) - 128).natAbs
  if fault then .rejected
  else if deviation ≤ min accept reject then .accepted
  else if reject < deviation then .rejected
  else .neutral

/-- A module's streaks and state after a verdict (R11, R12). -/
def ModMon.judge (goodTimes failTimes : Nat) (v : Verdict) (x : ModMon) : ModMon :=
  match x.state, v with
  | .unqualified, .accepted =>
    if max 1 goodTimes ≤ x.good + 1 then { x with state := .qualified, good := 0, bad := 0 }
    else { x with good := x.good + 1 }
  | .unqualified, .rejected => { x with good := 0 }
  | .qualified, .rejected =>
    if max 1 failTimes ≤ x.bad + 1 then { x with state := .unqualified, good := 0, bad := 0 }
    else { x with bad := x.bad + 1 }
  | .qualified, .accepted => { x with bad := 0 }
  | _, _ => x

/-- The verdict a module gets at the expiry: none for one that is ABSENT or DISABLED, or that left those states in the
window (R10). -/
def ModMon.verdict (x : ModMon) (s : State) : Verdict :=
  match x.state, x.joined with
  | .unqualified, false | .qualified, false =>
    verdictOf s.sl.settings.qualAccept s.sl.settings.qualReject x.fault (x.accepted + x.duplicate + x.stray)
  | _, _ => .none

/-- A module's monitor state after the expiry of a window: judged, its tallies kept for STATUS and cleared (R9, R10). -/
def ModMon.expire (x : ModMon) (s : State) : ModMon :=
  let v := x.verdict s
  { x.judge s.sl.settings.qualGoodTimes s.sl.settings.qualFailTimes v with
    lastAccepted := x.accepted, lastDuplicate := x.duplicate, lastStray := x.stray, lastVerdict := v
    accepted := 0, duplicate := 0, stray := 0, fault := false, joined := false }

/-- The expiry of the monitor window for one module; an entry into QUALIFIED asks for a calibration fetch (R13). -/
def expireModule (s : State) (m : Fin 4) : State :=
  let x := s.mm.mods.get m
  let y := x.expire s
  let s := s.setModule m y
  if x.state ≠ .qualified ∧ y.state = .qualified then requestFetch m false s else s

/-- The monitor window at a strobe issue: the 128th is its expiry (R9), after which the campaign may be ready (R128). The
modules are judged in ascending order, and those that enter QUALIFIED join the fetch queue in that order (R178;
notes/assumptions/52.md). -/
def monitorIssue (s : State) : State :=
  if 127 ≤ s.mm.count then
    let s := allModules.foldl expireModule (s.setMm { s.mm with count := 0 })
    readyTest s
  else s.setMm { s.mm with count := s.mm.count + 1 }

/-! ## RESTART (R17) -/

/-- A module's monitor state at a RESTART (R17). -/
def ModMon.restart (x : ModMon) : ModMon :=
  { x with
    state := if x.state = .disabled then .disabled else .unqualified
    good := 0, bad := 0, accepted := 0, duplicate := 0, stray := 0, fault := false, joined := false }

/-- The Lane Receiver's and the Module Monitor's part of a RESTART (R17): frames held are discarded, slots stay open. -/
def restartLane (s : State) : State :=
  let s := s.setLr { s.lr with slots := s.lr.slots.map fun l => l.map fun x => { x with frame := none } }
  s.setMm { count := 0, mods := s.mm.mods.map ModMon.restart }

end Sys2Proof.Machine
end

