-- ==== Sys2Proof/Machine/Time.lean ====
section
/-! DEFINITION. The Time Base (section 7.1): the advance at a strobe issue, slew, the mark age, marks and steps. -/

namespace Sys2Proof.Machine

/-! ## The strobe issue (R113, R116, R118) -/

/-- The slew applied at a second rollover: at most 50 µs, and never back across the second (R116). -/
def TB.applySlew (t : TB) : TB :=
  if 0 < t.slew then
    let a := min t.slew.toNat 102400
    { t with sub := t.sub + a, slew := t.slew - a }
  else
    let a := min (min t.slew.natAbs 102400) t.sub
    { t with sub := t.sub - a, slew := t.slew + a }

/-- Whether the next strobe issue rolls the second over (R113). -/
def TB.rollsOver (t : TB) : Bool := decide (secondTicks ≤ t.sub + strobeTicks)

/-- The strobe time at the next strobe issue, slew included (R113, R116). -/
def TB.advance (t : TB) : TB :=
  if t.rollsOver then
    TB.applySlew { t with sub := t.sub + strobeTicks - secondTicks, seconds := wrap32 (t.seconds + 1) }
  else { t with sub := t.sub + strobeTicks }

/-- The mark age at a strobe issue, and the quality that follows from it (R118). -/
def TB.grow (source : TimeSource) (t : TB) : TB :=
  match source, t.age with
  | .marked, some n =>
    let n := satSucc 4294967295 n
    { t with age := some n, quality := if t.quality = .synced ∧ 3840000 < n then .drifting else t.quality }
  | _, _ => t

/-- The Time Base's part of a strobe issue but for the report of a rollover. It comes before the other parts, so a record created
at the issue that begins DRIFTING carries DRIFTING: DEDUCED (notes/assumptions/69.md). -/
def advanceTime (s : State) : State := s.setTb ((s.tb.advance).grow s.sl.settings.timeSource)

/-! ## Marks (R115 to R117) -/

/-- The time of so many whole oscillator periods in ticks, truncated (R115). -/
def periodTicks (n : Nat) : Nat := n * 625 / 8

/-- A time in ticks as strobe time; below (0, 0) it is (0, 0) (R117). -/
def TB.setTicks (ticks : Int) (t : TB) : TB :=
  { t with seconds := wrap32 (ticks.toNat / secondTicks), sub := ticks.toNat % secondTicks }

/-- The offset of a mark from the reading at its arrival (R115). -/
def markOffset (t : TB) (seconds micros periods : Nat) : Int :=
  (seconds * secondTicks + micros * 2048 : Nat) - (t.ticks + periodTicks periods : Nat)

/-- An accepted mark steps the time (R117). -/
def stepTime (seconds micros periods : Nat) (s : State) : State :=
  let before := nowStamp s
  let target : Int := (seconds * secondTicks + micros * 2048 : Nat) - (periodTicks periods : Nat)
  let s := s.setTb { s.tb.setTicks target with slew := 0 }
  stepReport before (nowStamp s) (reportTimeStep (latch .timeStep s))

/-- A well-formed mark is accepted while TIME_SOURCE is MARKED (R115). The quality becomes SYNCED before a step makes its reports
(R117), so the INTERVAL and SETTINGS records of that event carry SYNCED: DEDUCED (notes/assumptions/69.md). -/
def acceptMark (seconds micros periods : Nat) (s : State) : State :=
  let offset := markOffset s.tb seconds micros periods
  let s := s.setTb { s.tb with quality := .synced, age := some 0 }
  if offset.natAbs ≤ s.sl.settings.stepLimitMs * 2048000 then s.setTb { s.tb with slew := offset }
  else stepTime seconds micros periods s

/-- A MARK that passed its link check arrives (R115). -/
def markArrives (payload : List Byte) (periods : Nat) (s : State) : State :=
  if payload.length ≠ 8 ∨ s.sl.settings.timeSource = .free then s
  else if 999999 < fieldNat payload 4 4 then s
  else acceptMark (fieldNat payload 0 4) (fieldNat payload 4 4) periods s

/-- A SET of TIME_SOURCE from MARKED to FREE sets the slew remainder to 0 (R115). -/
def sourceSet (old : TimeSource) (s : State) : State :=
  if old = .marked ∧ s.sl.settings.timeSource = .free then s.setTb { s.tb with slew := 0 } else s

end Sys2Proof.Machine
end

