-- ==== Sys2Proof/Machine/Campaign.lean ====
section
/-! DEFINITION. Campaign Control (R126 to R133): START, the arm timer, STOP and RESTART. -/

namespace Sys2Proof.Machine

/-- The campaign state changed. -/
def setCampaign (c : CampaignState) (s : State) : State := s.setIa { s.ia with state := c }

/-! ## START (R127) -/

/-- The body of the CAMPAIGN_START record (R127). -/
def startBody (s : State) : StartBody :=
  { nominal := s.sl.settings.nominalFreq, cycles := s.sl.settings.windowCycles, declared := s.sl.settings.declaredCounts,
    table := s.cc.table, grid := s.ed.grid, modules := s.mm.mods.map ModMon.state }

/-- The campaign number after the next START (R127). -/
def nextCampaign (n : Nat) : Nat := if n < 65535 then n + 1 else 1

/-- Whether a START is taken (R127). -/
def startAllowed (s : State) : Bool :=
  s.ia.state == .stopped && s.sr.state == .mounted && s.rq.next != .exhausted

/-- A START taken (R127). -/
def beginCampaign (s : State) : State :=
  let s := s.setIa { s.ia with number := nextCampaign s.ia.number, summary := .zero }
  let s := clearGrids s
  let s := s.setRq { s.rq with campaignLoss := 0 }
  let s := (handRecord (.campaignStart (startBody s)) s).2
  let s := settingsRecord .start 0 s
  readyTest (s.setIa { s.ia with state := .arming, armTimer := 0 })

/-- START (R127). -/
def orderStart (tag : Byte) (s : State) : State :=
  if startAllowed s then answerOk tag 5 [] (beginCampaign s) else refuse tag 5 .wrongState s

/-- The arm timer at a strobe issue (R128). -/
def armIssue (s : State) : State :=
  if s.ia.state = .arming then
    let s := s.setIa { s.ia with armTimer := s.ia.armTimer + 1 }
    if s.sl.settings.armTimeout * 12800 ≤ s.ia.armTimer then enterRunning s else s
  else s

/-! ## STOP (R130, R131) -/

/-- The body of the CAMPAIGN_END record (R133). -/
def endBody (restart : Bool) (s : State) : EndBody :=
  { restart := restart, summary := s.ia.summary, lost := s.rq.campaignLoss, dipCells := s.ed.dipCells,
    swellCells := s.ed.swellCells }

/-- The causes that a STOP or a RESTART gives to closes and to the SETTINGS record of its interval close
(notes/assumptions/40.md). -/
def endCauses (restart : Bool) : CloseCause × SettingsCause := if restart then (.restart, .restart) else (.stopped, .stop)

/-- The work of a STOP or a RESTART in ARMING or RUNNING: events, capture, window, interval, end record (steps 1 to 5 of
R130, R132). The campaign is no longer RUNNING in it. -/
def endCampaign (restart : Bool) (s : State) : HandResult × State :=
  let running := s.ia.state == .running
  let s := setCampaign .stopping s
  let s := forceClose (endCauses restart).1 s
  let s := stopCapture s
  let s := applyPendingCal (abandonWindow s)
  let s :=
    if running then applyUnlessHold (endCauses restart).2 (closeInterval (nowStamp s) true false s) else s
  handRecord (.campaignEnd (endBody restart s)) s

/-- What a STOP does with the outcome of its end record (R130, R131). -/
def awaitEnd (r : HandResult) (s : State) : State :=
  match r with
  | .entered n =>
    if s.sr.state = .faulted then enterStopped 1 s else s.setIa { s.ia with endSeq := some n }
  | .lost _ => enterStopped 2 s
  | .notCreated => enterStopped 3 s

/-- STOP (R130). -/
def orderStop (tag : Byte) (s : State) : State :=
  match s.ia.state with
  | .arming | .running =>
    let s := accept tag 6 s
    let s := s.setIa { s.ia with stopTag := some tag }
    let r := endCampaign false s
    awaitEnd r.1 r.2
  | .stopped | .stopping => refuse tag 6 .wrongState s

/-! ## RESTART (R132) -/

/-- The outcome so far of the end record of a STOP that a RESTART finds waiting (R132): UNSTORED or PENDING. -/
def endOutcome (s : State) : Nat := if s.sr.state = .faulted then 1 else 4

/-- The campaign's part of a RESTART (R132). -/
def restartCampaign (s : State) : State :=
  let s :=
    match s.ia.state with
    | .arming | .running => setCampaign .stopped (endCampaign true s).2
    | .stopping =>
      let s := s.setIa { s.ia with state := .stopped, endSeq := none }
      answerStop (endOutcome s) s
    | .stopped => s
  applyPending .restart s

/-- The measurement blocks' parts of a RESTART (R17, R33, R54, R74, R110, R184). -/
def restartBlocks (s : State) : State :=
  restartBus (restartMagnitude (restartTracker (restartConditioner (restartLane s))))

/-- RESTART (R132): answered OK after every block has taken its action (R187). -/
def orderRestart (tag : Byte) (s : State) : State := answerOk tag 7 [] (restartBlocks (restartCampaign s))

end Sys2Proof.Machine
end

