-- ==== Sys2Proof/Machine/Store.lean ====
section
/-! DEFINITION. The evidence store: sector map and map cache (R141 to R143), ring distances (R166), the ends of readbacks
(R169, R171, R172) and of store operations, the FAULTED state (R154) and the entry into UNMOUNTED (R157). -/

namespace Sys2Proof.Machine

/-! ## Geometry and the sector map -/

/-- The physical sectors, map mode and number of logical sectors that an operation reads at its start (R141). -/
def readGeometry (s : State) : State :=
  let x := s.sl.settings
  let n := match x.mapMode with
    | .direct => x.storeSectors
    | .mapped => min x.logSectors (x.storeSectors - 1)
  s.setSw { s.sw with mode := x.mapMode, sectors := x.storeSectors, logical := n, translation := none }

/-- The judgement of a map entry read: whether the sector is USABLE, its physical number, and whether MAP_DAMAGED is
latched (R142). -/
def judgeEntry (sectors : Nat) (entry : BitVec 32) : Bool × Nat × Bool :=
  let lo : Byte := entry.extractLsb' 0 8
  let hi : Byte := entry.extractLsb' 8 8
  let mark : Byte := entry.extractLsb' 16 8
  let check : Byte := entry.extractLsb' 24 8
  let physical := lo.toNat + 256 * hi.toNat
  if check ≠ mapCheck lo hi then (false, physical, true)
  else if physical = 0 ∨ sectors ≤ physical then (false, physical, true)
  else if mark = 0 then (false, physical, false)
  else if mark = 0xFF then (true, physical, false)
  else (false, physical, true)

/-- The translation that a map entry read gives (R142). -/
def entryTranslation (s : State) (logical : Nat) (entry : BitVec 32) : Translation :=
  let j := judgeEntry s.sw.sectors entry
  { logical := logical, physical := j.2.1, usable := j.1 }

/-- A translation read is placed in the cache (R143): in place when the sector is already there, else as the most
recently used, the least recently used leaving a full cache. The list runs from least to most recently used. -/
def cachePlace (t : Translation) (cache : List Translation) : List Translation :=
  if cache.any fun x => x.logical == t.logical then
    cache.map fun x => if x.logical = t.logical then t else x
  else (if 8 ≤ cache.length then cache.drop 1 else cache) ++ [t]

/-- A map entry that is read is judged, and a damaged one latches MAP_DAMAGED (R142). -/
def noteEntry (entry : BitVec 32) (s : State) : State :=
  if (judgeEntry s.sw.sectors entry).2.2 then latch .mapDamaged s else s

/-- The translation of a map entry read goes to the cache in MAPPED mode while the cache is on: in DIRECT mode the cache stays
empty (R143). The MAP_CACHE in force as the read ends decides, also after a SET that changed it while the read was in flight:
DESIGN CHOICE (notes/assumptions/75.md). -/
def placeEntry (logical : Nat) (entry : BitVec 32) (s : State) : State :=
  if s.sw.mode = .mapped ∧ s.sl.settings.mapCache = true then
    s.setCache (cachePlace (entryTranslation s logical entry) s.cache)
  else s

/-- A map entry read ends: it is judged and its translation placed (R142, R143). -/
def mapEntryRead (logical : Nat) (entry : BitVec 32) (s : State) : State := placeEntry logical entry (noteEntry entry s)

/-- A translation without a map read: DIRECT (R141), the translation in hand, or a hit of the cache, which becomes the
most recently used (R143); none when the map entry is to be read (notes/assumptions/22.md). -/
def translate (inHand : Option Translation) (logical : Nat) (s : State) : Option Translation × State :=
  if s.sw.mode = .direct then (some { logical := logical, physical := logical, usable := true }, s)
  else
    match inHand.filter fun t => t.logical == logical with
    | some t => (some t, s)
    | none =>
      if s.sl.settings.mapCache then
        match s.cache.find? fun t => t.logical == logical with
        | some t => (some t, s.setCache ((s.cache.filter fun x => x.logical != logical) ++ [t]))
        | none => (none, s)
      else (none, s)

/-- The map entry of a sector is asked for when its translation is neither in hand nor cached (R143). -/
def askEntry (inHand : Option Translation) (sector : Nat) (s : State) : Option PortOp :=
  if (translate inHand sector s).1.isNone then some (.readMap sector) else none

/-- What is asked of the store port for an operation on a sector: its map entry at a miss, and the operation once the
translation is in hand. A hit of the cache is taken first by the requester's own step, which makes it the most recently used
(R143); a RETIRED sector is never read, erased or programmed (R142). -/
def askOn (inHand : Option Translation) (sector : Nat) (op : Nat → PortOp) (s : State) : Option PortOp :=
  match (translate inHand sector s).1 with
  | none => some (.readMap sector)
  | some t => if t.usable ∧ (s.sw.mode = .direct ∨ inHand = some t) then some (op t.physical) else none

/-- The translation of a sector becomes RETIRED in place, in the cache and where it is in hand (R143, R168). -/
def retireTranslation (logical : Nat) (s : State) : State :=
  let mark := fun t : Translation => if t.logical = logical then { t with usable := false } else t
  let s := s.setCache (s.cache.map mark)
  let s := s.setSw { s.sw with translation := s.sw.translation.map mark }
  s.setSr { s.sr with
    current := s.sr.current.map fun r => { r with translation := r.translation.map mark } }

/-- The logical sector after another in ring order. -/
def nextSector (s : State) (sector : Nat) : Nat := if sector + 1 < s.sw.logical then sector + 1 else 0

/-! ## The written span (R165, R166) -/

/-- The ring distance of a page from page 0 of the tail sector, in pages (R166). -/
def ringDistance (s : State) (tail : Nat) (p : PagePos) : Nat :=
  (p.sector + s.sw.logical - tail) % s.sw.logical * 16 + p.page

/-- The number of pages in the written span: the ring distance of the head position, a full ring counting whole; 0
when there is no tail (notes/assumptions/33.md). -/
def spanLength (s : State) : Nat :=
  match s.sw.tail, s.sw.head with
  | some tail, some head =>
    let d := ringDistance s tail head
    if d = 0 then s.sw.logical * 16 else d
  | _, _ => 0

/-- The page at a ring distance from the tail. -/
def pageAt (s : State) (distance : Nat) : PagePos :=
  { sector := (s.sw.tail.getD 0 + distance / 16) % s.sw.logical, page := distance % 16 }

/-- The ring distance of the head position in the check of R166. While the head is looking for its next USABLE sector, the
ring distance 0 stands for a whole ring, since it has not come to the tail sector yet (notes/assumptions/33.md). -/
def headDistance (s : State) : Nat :=
  match s.sw.tail, s.sw.head with
  | some tail, some head =>
    let d := ringDistance s tail head
    if d = 0 ∧ s.sw.tasks.head? = some .seekHead then s.sw.logical * 16 else d
  | _, _ => 0

/-- The check of a page before its read (R166): its ring distance is less than that of the head position. -/
def passesCheck (s : State) (p : PagePos) : Bool :=
  match s.sw.tail with
  | some tail => decide (ringDistance s tail p < headDistance s)
  | none => false

/-- Whether a page lies in the written span (R165). -/
def inSpan (s : State) (p : PagePos) : Bool :=
  match s.sw.tail with
  | some tail => decide (ringDistance s tail p < spanLength s)
  | none => false

/-! ## Ends of readbacks -/

/-- The last sequence of the range of a READ RECORDS order (R165). -/
def ReadOrder.last (o : ReadOrder) : Nat := min (o.first + o.count - 1) 4294967295

/-- The body of a readback's final reply (section 12.4). -/
def readbackBody (o : ReadOrder) (n : Outcomes) : List Byte :=
  leBytes 4 o.first ++ leBytes 2 o.count ++ leBytes 2 n.served ++ leBytes 2 n.damaged ++ leBytes 2 n.gone ++
    leBytes 2 n.pending ++ leBytes 2 n.torn ++ leBytes 2 n.absent

def Outcomes.zero : Outcomes := { served := 0, damaged := 0, gone := 0, pending := 0, torn := 0, absent := 0 }

/-- A readback at its start, in LOCATING (R165). -/
def Readback.begin (o : ReadOrder) : Readback :=
  { phase := .settle, wanted := o.first, outcomes := .zero, record := none, cancel := false, waiters := [],
    translation := none }

/-- The order in front becomes the current readback (R165). -/
def startReadback (s : State) : State :=
  match s.sr.current, s.sr.queue with
  | none, o :: _ => s.setSr { s.sr with current := some (Readback.begin o) }
  | _, _ => s

/-- The reader no longer waits for its operation in flight. -/
def orphanRead (s : State) : State :=
  match s.sr.flight with
  | some f => if f.requester = some .reader then s.setSr { s.sr with flight := some { f with stale := true } } else s
  | none => s

/-- The CANCEL READ orders waiting on a readback are answered DONE (R171). -/
def answerWaiters (waiters : List Byte) (s : State) : State :=
  waiters.foldl (fun s tag => replyDone tag 17 false [] s) s

/-- The current readback ends: its final reply is sent, the CANCEL READ orders waiting on it are answered, and the next
order becomes current (R169, R171). `failed` is the case of a store fault (R172), whose reply has the cancelled flag clear, also
for a readback that carries the cancel mark: DEDUCED (notes/assumptions/66.md). -/
def endReadback (cancelled failed : Bool) (s : State) : State :=
  match s.sr.queue, s.sr.current with
  | o :: rest, some r =>
    let s := orphanRead s
    let s := s.setSr { s.sr with queue := rest, current := none }
    let s :=
      if failed then replyFailed o.tag 16 .fault (readbackBody o r.outcomes) s
      else replyDone o.tag 16 cancelled (readbackBody o r.outcomes) s
    startReadback (answerWaiters r.waiters s)
  | _, _ => s

/-- A piece of the record in progress is handed on: the bytes not yet handed on, up to 1,000 (R170). -/
def handPiece (o : ReadOrder) (sequence : Nat) (p : RecordProgress) (last : Bool) (mark : PieceMark) : Piece :=
  { tag := o.tag, sequence := sequence, index := p.handed / 1000, last := last, mark := mark,
    bytes := p.bytes.drop p.handed }

/-- An outcome counted by one. -/
def Outcomes.count (n : Outcomes) : PieceMark → Outcomes
  | .good => { n with served := n.served + 1 }
  | .damaged => { n with damaged := n.damaged + 1 }
  | .torn => { n with torn := n.torn + 1 }
  | .pending => { n with pending := n.pending + 1 }

/-- The record in progress ends with its last piece and a mark; `counted` is false for a cut copy that a later copy
replaces (R168 to R170). A record passed over, or whose header is not whole, is dropped. -/
def closeRecord (mark : PieceMark) (counted : Bool) (s : State) : State :=
  match s.sr.queue, s.sr.current with
  | o :: _, some r =>
    match r.record with
    | some p =>
      match p.known with
      | some (sequence, _, true) =>
        let r := { r with
          record := none
          outcomes := if counted then r.outcomes.count mark else r.outcomes
          wanted := if counted then sequence + 1 else r.wanted }
        s.setSr { s.sr with piece := some (handPiece o sequence p true mark), current := some r }
      | _ => s.setSr { s.sr with current := some { r with record := none } }
    | none => s
  | _, _ => s

/-- The queued readbacks behind the current one end, each answered with every count at 0 (R171, R172). -/
def endQueued (cancelled failed : Bool) (s : State) : State :=
  let rest := s.sr.queue.drop 1
  let s := s.setSr { s.sr with queue := s.sr.queue.take 1 }
  rest.foldl (fun s o =>
    if failed then replyFailed o.tag 16 .fault (readbackBody o .zero) s
    else replyDone o.tag 16 cancelled (readbackBody o .zero) s) s

/-- A piece held of the record in progress becomes its last piece, marked DAMAGED; otherwise the record in progress
ends with a last piece of its own (R170, R172). -/
def closeDamaged (s : State) : State :=
  match s.sr.piece, s.sr.current.bind Readback.record with
  | some held, some _ =>
    let t := closeRecord .damaged true s
    t.setSr { t.sr with piece := some (if held.last then held else { held with last := true, mark := .damaged }) }
  | _, _ => closeRecord .damaged true s

/-- Every readback ends as the store becomes FAULTED (R172): a record in progress ends DAMAGED. The queued ones are answered
before the current one (notes/assumptions/58.md). -/
def endReadbacksFaulted (s : State) : State :=
  match s.sr.queue with
  | [] => s
  | _ => endReadback false true (endQueued false true (closeDamaged s))

/-- Every readback ends as the link goes down (R172): the piece held is dropped, and the queued ones are answered first
(notes/assumptions/58.md). -/
def endReadbacksLinkDown (s : State) : State :=
  let s := s.setSr { s.sr with piece := none }
  match s.sr.queue with
  | [] => s
  | _ => endReadback true false (endQueued true false s)

/-! ## Store operations -/

/-- The kind code of a long store order (section 12.4). -/
def LongOrder.code : LongOrder → Nat
  | .mount => 11
  | .format => 12
  | .mapLoad => 13
  | .unmount => 14

/-- A long store order is taken: ACCEPTED, and in flight until its final reply (R187). -/
def takeStoreOrder (o : LongOrder) (tag : Byte) (s : State) : State :=
  let s := accept tag o.code s
  s.setSl { s.sl with storeOrder := some (o, tag) }

/-- The long store order in flight is answered DONE. -/
def storeOrderDone (body : List Byte) (s : State) : State :=
  match s.sl.storeOrder with
  | none => s
  | some (o, tag) => replyDone tag o.code false body (s.setSl { s.sl with storeOrder := none })

/-- The long store order in flight is answered FAILED with the reason FAULT; MAP LOAD gives the count programmed (R156,
R154). -/
def storeOrderFailed (s : State) : State :=
  match s.sl.storeOrder with
  | none => s
  | some (o, tag) =>
    let body := match s.sr.job with
      | .mapLoad _ _ _ done => leBytes 1 done
      | _ => []
    replyFailed tag o.code .fault body (s.setSl { s.sl with storeOrder := none })

/-- The page buffer empties, its bookkeeping starting afresh (R146). -/
def SW.clearBuffer (w : SW) : SW :=
  { w with buffer := [], seqRef := 0, starts := 0, firstOffset := 240, flushDue := false }

/-- The store becomes FAULTED (R154): the first cause stands (notes/assumptions/30.md). A mount scan ends the same way: the
queue's entries take the stored mark (notes/assumptions/49.md). The replies formed in the one event stand in the order: the
long store order, the readbacks, the waiting STOP; R154 gives none (notes/assumptions/61.md). -/
def storeFault (cause : FaultCause) (s : State) : State :=
  if s.sr.state = .faulted then s
  else
    let s := storeOrderFailed s
    let s := s.setSr { s.sr with state := .faulted, cause := some cause, job := .none, jobTranslation := none }
    let s := s.setSw { s.sw.clearBuffer with tasks := [] }
    let s := endReadbacksFaulted (markAllStored s)
    let s := s.setSr { s.sr with flight := s.sr.flight.map fun f => { f with stale := true } }
    endRecordSettled 1 s

/-- The store enters UNMOUNTED: the cache is emptied, the flags end, the stop mark is cleared and the UNMOUNT is answered
DONE (R157; notes/assumptions/36.md). -/
def enterUnmounted (s : State) : State :=
  let s := s.setCache []
  let s := s.setSw { s.sw.clearBuffer with stopMark := none, tasks := [] }
  let s := s.setSr { s.sr with state := .unmounted, cause := none }
  storeOrderDone [] s

end Sys2Proof.Machine
end

