-- ==== Sys2Proof/Machine/Writer.lean ====
section
/-! DEFINITION. The Store Writer (R144 to R153): appending, the flush, the tasks in hand, its requests to the store port
and what each end of an operation does. -/

namespace Sys2Proof.Machine

/-! ## Appending (R145) -/

/-- The next bytes of an entry move into the page buffer, as many as it has room for, and the page bookkeeping follows
(R145). The last byte of a CAMPAIGN_END record makes a flush due (R147). An entry that already has its stored mark is
not written. -/
def appendEntry (points : List Point) (strobe : Nat) (w : SW) (e : Entry) : SW × Entry :=
  if e.stored ∨ 240 ≤ w.buffer.length ∨ e.size points ≤ e.appended then (w, e)
  else
    let moved := ((e.record.bytes points).drop e.appended).take (240 - w.buffer.length)
    let starting := e.appended == 0
    ({ w with
        buffer := w.buffer ++ moved
        oldest := if w.buffer = [] then strobe else w.oldest
        seqRef := if w.starts = 0 then e.record.sequence else w.seqRef
        firstOffset := if starting && w.starts == 0 then w.buffer.length else w.firstOffset
        starts := if starting then w.starts + 1 else w.starts
        flushDue := w.flushDue || (e.record.body.isEnd && e.appended + moved.length == e.size points) },
      { e with appended := e.appended + moved.length })

/-- Appending over the entries, oldest first (R145). -/
def appendEntries (points : List Point) (strobe : Nat) : SW → List Entry → SW × List Entry
  | w, [] => (w, [])
  | w, e :: t =>
    let (w1, e1) := appendEntry points strobe w e
    let (w2, t2) := appendEntries points strobe w1 t
    (w2, e1 :: t2)

/-- Whether a page program is in flight. -/
def programInFlight (s : State) : Bool :=
  match s.sr.flight with
  | some f =>
    match f.op with
    | .program _ _ _ => true
    | _ => false
  | none => false

/-- The writer appends while the store is MOUNTED (R145), under the stop mark until the buffer is full (R149;
notes/assumptions/10.md); the bytes being programmed stand until the program ends (notes/assumptions/21.md). -/
def writerAppend (s : State) : State :=
  if s.sr.state = .mounted ∧ programInFlight s = false then
    let r := appendEntries (capturePoints s) s.lr.strobe s.sw s.rq.entries
    (s.setSw r.1).setRq { s.rq with entries := r.2 }
  else s

/-! ## The head, the tail and the erase-ahead -/

/-- The readback in LOCATING starts again from the new tail (R167; notes/assumptions/23.md). -/
def restartLocating (s : State) : State :=
  match s.sr.current with
  | none => s
  | some r =>
    match r.phase with
    | .walk _ | .parse _ _ _ => s
    | _ => orphanRead (s.setSr { s.sr with current := some { r with phase := .settle } })

/-- The tail moves (notes/assumptions/38.md). -/
def setTail (tail : Option Nat) (s : State) : State := restartLocating (s.setSw { s.sw with tail := tail })

/-- The head moves to page 0 of the next sector in ring order; whether that sector is USABLE is settled by the task
`seekHead` (R146, R152, R157; notes/assumptions/37.md, 38.md). -/
def headOn (s : State) : State :=
  match s.sw.head with
  | none => s
  | some h =>
    s.setSw { s.sw with
      head := some { sector := nextSector s h.sector, page := 0 }
      headErased := false
      tasks := [.seekHead] }

/-- The OVERWRITE case of R148: the tail moves to the next USABLE sector, its page 0 header is read, then the head
sector is erased. -/
def overwriteTail (s : State) : State :=
  match s.sw.head with
  | none => s
  | some h =>
    setTail (some (nextSector s h.sector)) (s.setSw { s.sw with tasks := [.seekTail, .readTail, .erase] })

/-- The head is in a USABLE sector whose first page is to come: the ring-full test and the erase-ahead (R148, R149). In HALT
the test waits for the header of page 15, so also after a MOUNT, whose completing event starts no STORE_FULL of itself although
R164 says it may: DEDUCED (notes/assumptions/64.md). -/
def enterHead (s : State) : State :=
  match s.sw.head with
  | none => s
  | some h =>
    let s := s.setSw { s.sw with headErased := false }
    if s.sw.tail = some h.sector then
      match s.sl.settings.storeWrap with
      | .overwrite => overwriteTail s
      | .halt => s.setSw { s.sw with tasks := [.readLast] }
    else s.setSw { s.sw with tasks := [.erase] }

/-- The head stands in a sector found USABLE: a MOUNTED store enters it; an UNMOUNTING one starts no further erase
(R157). -/
def settleHead (s : State) : State :=
  if s.sr.state = .mounted then enterHead s else s.setSw { s.sw with tasks := [] }

/-- The stop mark is cleared and the erase proceeds as in the OVERWRITE case (R148 to R150). In UNMOUNTING and FAULTED the
mark alone is cleared: no erase follows and the tail stays (notes/assumptions/36.md). -/
def clearStop (s : State) : State :=
  if s.sw.stopMark.isSome then
    let s := s.setSw { s.sw with stopMark := none }
    if s.sr.state = .mounted then overwriteTail s else s
  else s

/-- The last sequence of a sector is known (R149): below or at the watermark the tail gives way, else the stop mark is
set (notes/assumptions/35.md). -/
def judgeLast (last : Nat) (s : State) : State :=
  if last ≤ s.sw.watermark then overwriteTail s
  else s.setSw { s.sw with stopMark := some last, tasks := [] }

/-! ## Retirement (R151 to R153) -/

/-- Whether an entry has bytes in the page buffer: appended, not programmed, and not given up at a FAULT (R139). -/
def Entry.inBuffer (e : Entry) : Bool := !e.stored && decide (e.programmed < e.appended)

/-- Whether a retirement of a sector sets an entry back (R152). -/
def Entry.heldBy (sector : Nat) (e : Entry) : Bool :=
  e.firstSector == some sector || e.lastSector == some sector || decide (e.programmed < e.appended)

/-- The losses, the discarded buffer and the entries set back of a retirement at a failed program: steps 1 to 3 of
R152. -/
def rewriteEntries (sector : Nat) (s : State) : State :=
  let s := countLost s.sw.headDepartures s
  let s := s.setSw s.sw.clearBuffer
  s.setRq { s.rq with entries := s.rq.entries.map fun e => if e.heldBy sector then e.setBack else e }

/-- The map program of a retirement succeeds: steps 1 to 7 of R151, with R152 after a failed program and R153 after a
failed erase. A retired tail is the sector the head stands in, so no sector after it holds written pages. -/
def sectorRetired (sector : Nat) (programFailed : Bool) (s : State) : State :=
  let s := retireTranslation sector (latch .sectorRetired s)
  let s := s.setSw { s.sw with usable := s.sw.usable - 1, streak := s.sw.streak + 1, tasks := s.sw.tasks.drop 1 }
  let s := if s.sw.tail = some sector then setTail none s else s
  if 3 ≤ s.sw.streak ∨ s.sw.usable < 2 then storeFault .retirement s
  else
    let s := if programFailed then rewriteEntries sector s else s
    if programFailed ∧ s.sr.state ≠ .mounted then s.setSw { s.sw with headErased := false } else headOn s

/-! ## Immediate work of the writer -/

/-- Whether a page program is due and may be made (R146, R147). -/
def programDue (s : State) : Bool :=
  s.sw.tasks.isEmpty && s.sw.headErased && s.sw.stopMark.isNone && s.sw.head.isSome && !programInFlight s &&
    (s.sw.buffer.length == 240 || (s.sw.flushDue && !s.sw.buffer.isEmpty))

/-- A program due at a head sector whose translation is at hand: a RETIRED sector is passed over
(notes/assumptions/11.md). -/
def programStep (s : State) : State :=
  if programDue s then
    match s.sw.head with
    | none => s
    | some h =>
      match translate s.sw.translation h.sector s with
      | (some t, s) => if t.usable then s.setSw { s.sw with translation := some t } else headOn s
      | (none, s) => s
  else s

/-- One piece of work that takes no port time: a sector whose translation is at hand is entered or passed over. A sector
in use that reads RETIRED when its map entry is read again is passed over too, and a tail so found before its page 15 is
read has the last sequence 0xFFFFFFFF (notes/assumptions/11.md). With no task the translation of a program due is taken. -/
def writerStep (s : State) : State :=
  match s.sw.tasks, s.sw.head, s.sw.tail with
  | .seekHead :: _, some h, _ =>
    match translate s.sw.translation h.sector s with
    | (some t, s) => if t.usable then settleHead (s.setSw { s.sw with translation := some t }) else headOn s
    | (none, s) => s
  | .seekTail :: rest, _, some tail =>
    match translate s.sw.translation tail s with
    | (some t, s) =>
      if t.usable then s.setSw { s.sw with translation := some t, tasks := rest }
      else setTail (some (nextSector s tail)) s
    | (none, s) => s
  | .readTail :: rest, _, some tail =>
    match translate s.sw.translation tail s with
    | (some t, s) =>
      if t.usable then s.setSw { s.sw with translation := some t }
      else setTail (some (nextSector s tail)) (s.setSw { s.sw with tasks := .seekTail :: .readTail :: rest })
    | (none, s) => s
  | .readLast :: _, some h, _ =>
    match translate s.sw.translation h.sector s with
    | (some t, s) =>
      if t.usable then s.setSw { s.sw with translation := some t } else judgeLast 4294967295 s
    | (none, s) => s
  | .erase :: _, some h, _ =>
    match translate s.sw.translation h.sector s with
    | (some t, s) => if t.usable then s.setSw { s.sw with translation := some t } else headOn s
    | (none, s) => s
  | _, _, _ => programStep s

/-- A step repeated (notes/assumptions/43.md). -/
def repeatStep (f : State → State) : Nat → State → State
  | 0, s => s
  | n + 1, s => repeatStep f n (f s)

/-- Whether the writer works: the store is MOUNTED or UNMOUNTING. -/
def writerWorks (s : State) : Bool := s.sr.state == .mounted || s.sr.state == .unmounting

/-- Whether the writer's operation is in flight. -/
def writerBusy (s : State) : Bool :=
  match s.sr.flight with
  | some f => f.requester == some .writer
  | none => false

/-- The writer's work that takes no port time, and the SERIAL fault when a program is due with the serials exhausted
(R146). -/
def writerAdvance (s : State) : State :=
  if writerWorks s && !writerBusy s then
    let s := repeatStep writerStep 24 (writerAppend s)
    if programDue s && s.sw.serial == .exhausted then storeFault .serial s else s
  else writerAppend s

/-! ## Requests -/

/-- Whether the last record with bytes in the page buffer has bytes still to come (R144). -/
def tailOpen (s : State) : Bool :=
  s.rq.entries.any fun e =>
    decide (0 < e.appended) && decide (e.appended < e.size (capturePoints s)) && !e.stored

/-- The page the writer would program now (R144, R147). -/
def formPage (s : State) : List Byte :=
  let header : PageHeader :=
    { tailOpen := tailOpen s
      serial := match s.sw.serial with
        | .number n => n
        | .exhausted => 0
      seqRef := s.sw.seqRef, starts := s.sw.starts, firstOffset := s.sw.firstOffset }
  header.bytes ++ s.sw.buffer ++ List.replicate (240 - s.sw.buffer.length) 0xFF

/-- What the writer asks for on a sector. -/
def onSector (s : State) (sector : Nat) (op : Nat → PortOp) : Option PortOp := askOn s.sw.translation sector op s

/-- The operation the writer asks the store port for, if any. -/
def writerRequest (s : State) : Option PortOp :=
  if writerWorks s && !writerBusy s then
    match s.sw.tasks, s.sw.head, s.sw.tail with
    | .seekHead :: _, some h, _ => askEntry s.sw.translation h.sector s
    | .seekTail :: _, _, some tail => askEntry s.sw.translation tail s
    | .readTail :: _, _, some tail => onSector s tail fun p => .readHeader p 0
    | .readLast :: _, some h, _ => onSector s h.sector fun p => .readHeader p 15
    | .erase :: _, some h, _ => onSector s h.sector .erase
    | .retire sector _ :: _, _, _ => some (.retireMap sector)
    | [], some h, _ =>
      if programDue s then onSector s h.sector fun p => .program p h.page (formPage s) else none
    | _, _, _ => none
  else none

/-! ## Ends of the writer's operations -/

/-- A map entry read of the writer ends (R143). -/
def writerMapRead (logical : Nat) (entry : BitVec 32) (s : State) : State :=
  let s := mapEntryRead logical entry s
  s.setSw { s.sw with translation := some (entryTranslation s logical entry) }

/-- The header of page 0 of the tail sector has been read: its seq_ref is the tail sequence, when it is valid (R148). -/
def tailHeaderRead (header : Option PageHeader) (s : State) : State :=
  let s := s.setSw { s.sw with tasks := s.sw.tasks.drop 1 }
  match header with
  | some h => restartLocating (s.setSw { s.sw with tailSeq := h.seqRef })
  | none => s

/-- A header read of the writer ends (R148, R149). -/
def writerHeaderRead (bytes : List Byte) (s : State) : State :=
  let h := readHeader bytes
  match s.sw.tasks with
  | .readTail :: _ => tailHeaderRead h s
  | .readLast :: _ => judgeLast ((h.map PageHeader.lastSequence).getD 4294967295) s
  | _ => s

/-- The entries after a page program of the head sector (step 2 of R146); one whose last byte was in the page takes the
stored mark. -/
def Entry.programmedIn (points : List Point) (sector : Nat) (e : Entry) : Entry :=
  if e.inBuffer then
    { e with
      programmed := e.appended
      firstSector := some (e.firstSector.getD sector)
      lastSector := some sector
      stored := e.appended == e.size points }
  else e

/-- The serial after a page program (step 1 of R146). -/
def Serial.next : Serial → Serial
  | .number n => if n < 4294967295 then .number (n + 1) else .exhausted
  | .exhausted => .exhausted

/-- A page program succeeds (R146). -/
def pageProgrammed (s : State) : State :=
  match s.sw.head with
  | none => s
  | some h =>
    let points := capturePoints s
    let finished := s.rq.entries.any fun e =>
      s.ia.endSeq == some e.record.sequence && e.inBuffer && e.appended == e.size points
    let seqRef := s.sw.seqRef
    let s := s.setSw { s.sw with serial := s.sw.serial.next }
    let s := sweep (s.setRq { s.rq with entries := s.rq.entries.map (Entry.programmedIn points h.sector) })
    let s := if finished then endRecordSettled 0 s else s
    let s := s.setSw { s.sw with streak := 0 }
    let s :=
      if s.sw.tail = none then
        setTail (some h.sector) (s.setSw { s.sw with tailSeq := if h.page = 0 then seqRef else s.sw.tailSeq })
      else s
    let s := s.setSw s.sw.clearBuffer
    if h.page < 15 then s.setSw { s.sw with head := some { h with page := h.page + 1 } } else headOn s

/-- A page program fails (R151). -/
def pageFailed (s : State) : State :=
  match s.sw.mode, s.sw.head with
  | .mapped, some h => s.setSw { s.sw with tasks := [.retire h.sector true] }
  | _, _ => storeFault .program s

/-- A sector erase of the writer succeeds (R148). -/
def headErasedNow (s : State) : State :=
  s.setSw { s.sw with headErased := true, headDepartures := 0, tasks := s.sw.tasks.drop 1 }

/-- A sector erase of the writer fails (R153). -/
def headEraseFailed (s : State) : State :=
  match s.sw.mode, s.sw.head with
  | .mapped, some h => s.setSw { s.sw with tasks := [.retire h.sector false] }
  | _, _ => storeFault .erase s

/-- The map program of a retirement ends (R151, R153). -/
def retireEnded (ok : Bool) (s : State) : State :=
  match s.sw.tasks with
  | .retire sector programFailed :: _ => if ok then sectorRetired sector programFailed s else storeFault .map s
  | _ => s

/-! ## Orders of the writer -/

/-- The store states in which a store order finds another operation (section 8.8). -/
def storeBusy (s : State) : Bool :=
  s.sr.state == .formatting || s.sr.state == .mounting || s.sr.state == .unmounting

/-- RELEASE (R150). -/
def orderRelease (tag : Byte) (w : Nat) (s : State) : State :=
  match s.sr.state with
  | .mounted =>
    if w < s.sw.watermark then refuse tag 15 .invalid s
    else
      let s := s.setSw { s.sw with watermark := w }
      let s := match s.sw.stopMark with
        | some kept => if kept ≤ w then clearStop s else s
        | none => s
      answerOk tag 15 [] s
  | .faulted => refuse tag 15 .fault s
  | _ => refuse tag 15 .notMounted s

/-- What the writer keeps of its work as an UNMOUNT is taken: an erase in flight, a retirement begun, or the search for the
USABLE sector that the head or the tail moves to (R157; notes/assumptions/37.md). A header read of the ring-full test is
given up, in flight or still to come (notes/assumptions/54.md). -/
def unmountTasks (s : State) : List WriterTask :=
  match s.sw.tasks with
  | .erase :: _ =>
    match s.sr.flight with
    | some f =>
      match f.op, f.requester with
      | .erase _, some .writer => [.erase]
      | _, _ => []
    | none => []
  | .retire sector p :: _ => [.retire sector p]
  | .seekHead :: _ => [.seekHead]
  | .seekTail :: _ => [.seekTail]
  | _ => []

/-- The writer's part of an UNMOUNT taken from MOUNTED: the flush, or the buffer discarded when the stop mark is set or
the head is not erased (R157). -/
def unmountWriter (s : State) : State :=
  let w := { s.sw with tasks := unmountTasks s }
  if s.sw.stopMark.isSome || !s.sw.headErased then s.setSw w.clearBuffer
  else s.setSw { w with flushDue := true }

/-- Whether nothing holds an UNMOUNT back any more (R157). -/
def unmountReady (s : State) : Bool :=
  s.sr.state == .unmounting && s.sw.tasks.isEmpty && !programDue s && s.sr.flight.isNone && s.sr.queue.isEmpty

/-- The store becomes UNMOUNTED as soon as nothing holds the UNMOUNT back (R157). -/
def finishUnmount (s : State) : State := if unmountReady s then enterUnmounted s else s

end Sys2Proof.Machine
end

