-- ==== Sys2Proof/Machine/Reader.lean ====
section
/-! DEFINITION. The Store Reader's readbacks (R165 to R171): settling, locating, the walk and the parse of records, its
requests to the store port, and the orders READ RECORDS and CANCEL READ. -/

namespace Sys2Proof.Machine

/-! ## Ends of an order -/

/-- Whether a sequence not served at the end of the written span is PENDING (R169). -/
def isPending (s : State) (n : Nat) : Bool :=
  decide (s.rq.next.toNat ≤ n) || s.rq.entries.any fun e => e.record.sequence == n

/-- The sequences of the range from the next wanted one on, which the end of the order counts. A cancelled order counts
those it has not reached in no outcome (R171). -/
def remaining (o : ReadOrder) (r : Readback) : List Nat :=
  if r.cancel then [] else (List.range (o.last + 1 - r.wanted)).map (r.wanted + ·)

/-- The walk reaches the end of the written span (R169), or the order ends there cancelled (R171). -/
def endServing (s : State) : State :=
  match s.sr.queue, s.sr.current with
  | o :: _, some r =>
    let (p, a) := (remaining o r).partition (isPending s)
    let n := { r.outcomes with pending := r.outcomes.pending + p.length, absent := r.outcomes.absent + a.length }
    endReadback r.cancel false (s.setSr { s.sr with current := some { r with outcomes := n, record := none } })
  | _, _ => s

/-- Whether a readback has a record in progress: one being sent (R171). A record met whose header is not yet classified, its
first 12 bytes being collected over a page end, and one that is passed over count as none: DESIGN CHOICE
(notes/assumptions/71.md). -/
def inProgress (r : Readback) : Bool :=
  match r.record.bind RecordProgress.known with
  | some (_, _, served) => served
  | none => false

/-- A page fails the check of R166: the rest of the range is GONE, a record in progress with it. A readback with the cancel
mark counts the record in progress alone (R171; notes/assumptions/9.md). -/
def endGone (s : State) : State :=
  match s.sr.queue, s.sr.current with
  | o :: _, some r =>
    let lost := if r.cancel then (if inProgress r then 1 else 0) else o.last + 1 - r.wanted
    let n := { r.outcomes with gone := r.outcomes.gone + lost }
    endReadback r.cancel false (s.setSr { s.sr with current := some { r with outcomes := n, record := none } })
  | _, _ => s

/-- A record met lies beyond the range: the rest of the range is ABSENT and the order ends (R168). -/
def endBeyond (s : State) : State :=
  match s.sr.queue, s.sr.current with
  | o :: _, some r =>
    let n := { r.outcomes with absent := r.outcomes.absent + (remaining o r).length }
    endReadback r.cancel false (s.setSr { s.sr with current := some { r with outcomes := n, record := none } })
  | _, _ => s

/-! ## The walk (R168, R169) -/

/-- The current readback changed. -/
def withReadback (f : Readback → Readback) (s : State) : State :=
  s.setSr { s.sr with current := s.sr.current.map f }

/-- The phase of the current readback changed. -/
def setPhase (p : ReadPhase) (s : State) : State := withReadback (fun r => { r with phase := p }) s

/-- The sequence of a record met: the one in its header, or of one whose header is not whole the last that the header of
the page it began in names. -/
def RecordProgress.sequence (p : RecordProgress) : Nat :=
  match p.known with
  | some (sequence, _, _) => sequence
  | none => p.guess

/-- A readback whose record in progress is cut: one cut before its header is whole is judged by the table of R168 on the
sequence that the page it began in names, a record beyond the range being dropped (R169; notes/assumptions/24.md). -/
def Readback.cut (o : ReadOrder) (r : Readback) : Readback :=
  match r.record with
  | some p =>
    match p.known with
    | some _ => r
    | none =>
      if r.wanted ≤ p.guess ∧ p.guess ≤ o.last then
        { r with
          record := some { p with known := some (p.guess, p.got, true) }
          wanted := p.guess
          outcomes := { r.outcomes with absent := r.outcomes.absent + (p.guess - r.wanted) } }
      else r
  | none => r

/-- The record in progress is found cut: it ends with a mark, counted in that outcome or, when a copy of it follows, in
none (R169). -/
def cutRecord (mark : PieceMark) (counted : Bool) (s : State) : State :=
  match s.sr.queue with
  | o :: _ => closeRecord mark counted (withReadback (Readback.cut o) s)
  | [] => s

/-- A record cut at the end of the written span: PENDING when the queue holds an entry of it, else TORN (R169). -/
def cutAtEnd (s : State) : State :=
  match s.sr.current.bind Readback.record with
  | some p => cutRecord (if s.rq.entries.any fun e => e.record.sequence == p.sequence then .pending else .torn) true s
  | none => s

/-- The walk moves on to a page, unless the written span ends there (R168, R169): at the head position, the order ends
when the page it comes from still lies in the span, and was overtaken otherwise (R166). -/
def walkTo (origin target : PagePos) (s : State) : State :=
  if s.sw.head = some target then
    if inSpan s origin then endServing (cutAtEnd s) else endGone s
  else setPhase (.walk target) s

/-- The page after another in ring order. -/
def nextPage (s : State) (p : PagePos) : PagePos :=
  if p.page < 15 then { p with page := p.page + 1 } else { sector := nextSector s p.sector, page := 0 }

/-- The walk moves to the next page. -/
def moveOn (p : PagePos) (s : State) : State := walkTo p (nextPage s p) s

/-- The walk passes over a RETIRED sector. -/
def moveOver (p : PagePos) (s : State) : State := walkTo p { sector := nextSector s p.sector, page := 0 } s

/-- The header of a record met is classified once its kind, length and sequence are known (the table of R168)
(notes/assumptions/24.md). With a total length out of range the walk leaves the page in hand, also when the header began on
the page before (notes/assumptions/56.md). -/
def classify (at_ : PagePos) (last : Nat) (rest : List Byte) (p : RecordProgress) (o : ReadOrder) (r : Readback)
    (s : State) : State :=
  let total := fieldNat p.bytes 4 4
  let sequence := fieldNat p.bytes 8 4
  let put (r : Readback) := s.setSr { s.sr with current := some { r with phase := .parse at_ last rest } }
  if total < 24 ∨ 100000 < total then moveOn at_ (put { r with record := none })
  else if sequence < r.wanted then put { r with record := some { p with known := some (sequence, total, false) } }
  else if sequence ≤ o.last then
    put { r with
      record := some { p with known := some (sequence, total, true) }
      wanted := sequence
      outcomes := { r.outcomes with absent := r.outcomes.absent + (sequence - r.wanted) } }
  else endBeyond (put { r with record := none })

/-- One step of the parse of a page's payload (R168, R170). -/
def parseStep (at_ : PagePos) (last : Nat) (rest : List Byte) (o : ReadOrder) (r : Readback) (s : State) : State :=
  let put (r : Readback) := s.setSr { s.sr with current := some r }
  match rest, r.record with
  | [], _ => moveOn at_ s
  | b :: _, none =>
    if 1 ≤ b.toNat ∧ b.toNat ≤ 6 then
      put { r with record := some { guess := last, bytes := [], got := 0, known := none, handed := 0 } }
    else moveOn at_ s
  | _, some p =>
    match p.known with
    | none =>
      let n := min rest.length (12 - p.got)
      let p := { p with bytes := p.bytes ++ rest.take n, got := p.got + n }
      if p.got < 12 then put { r with phase := .parse at_ last (rest.drop n), record := some p }
      else classify at_ last (rest.drop n) p o r s
    | some (_, total, false) =>
      let n := min rest.length (total - p.got)
      let p := { p with bytes := [], got := p.got + n }
      put { r with
        phase := .parse at_ last (rest.drop n)
        record := if p.got < total then some p else none }
    | some (sequence, total, true) =>
      let n := min rest.length (min (total - p.got) (1000 - (p.got - p.handed)))
      let p := { p with bytes := p.bytes ++ rest.take n, got := p.got + n }
      let s := put { r with phase := .parse at_ last (rest.drop n), record := some p }
      if total ≤ p.got then closeRecord (if recordChecks p.bytes then .good else .damaged) true s
      else if p.got - p.handed = 1000 then
        s.setSr { s.sr with
          piece := some (handPiece o sequence p false .good)
          current := some
            { r with phase := .parse at_ last (rest.drop n), record := some { p with handed := p.handed + 1000 } } }
      else s

/-- A whole page of the walk has been read (R168, R169). -/
def walkPageRead (at_ : PagePos) (bytes : List Byte) (r : Readback) (s : State) : State :=
  let payload := pagePayload bytes
  match readHeader bytes, r.record with
  | none, none => moveOn at_ s
  | none, some _ => moveOn at_ (cutRecord .torn true s)
  | some h, none => setPhase (.parse at_ h.lastSequence (payload.drop h.firstOffset)) s
  | some h, some p =>
    if 0 < h.firstOffset then setPhase (.parse at_ h.lastSequence payload) s
    else setPhase (.parse at_ h.lastSequence payload) (cutRecord .torn (h.seqRef != p.sequence) s)

/-! ## Locating (R165, R167) -/

/-- The start of LOCATING: what needs no page read (R165; notes/assumptions/29.md). The search for the sector of the span's
last page begins at the sector that stands just before the head position. -/
def settleRange (o : ReadOrder) (r : Readback) (s : State) : State :=
  if spanLength s = 0 then endServing s
  else
    let w := max r.wanted (min s.sw.tailSeq (o.last + 1))
    s.setSr { s.sr with current := some { r with
      wanted := w
      outcomes := { r.outcomes with gone := r.outcomes.gone + (w - r.wanted) }
      phase := .lastSector ((spanLength s - 1) / 16) ((spanLength s - 1) / 16) } }

/-- The pages of the found sector that lie in the written span (R167). -/
def pagesOfSector (s : State) (distance : Nat) : Nat := min 16 (spanLength s - distance * 16)

/-- Keeps a translation in hand for the reader. -/
def keepTranslation (t : Translation) (s : State) : State := withReadback (fun r => { r with translation := some t }) s

/-- One step, without port time, of the search for D, the distance of the sector that holds the last page of the written span
(R167): the head's own sector when it has a page there, else the nearest before the head that is not RETIRED, since ring order
passes over RETIRED sectors. A head that has moved to another sector meanwhile begins the search again (notes/assumptions/72.md). -/
def lastSectorStep (top distance : Nat) (r : Readback) (s : State) : State :=
  let now := (spanLength s - 1) / 16
  if now ≠ top then setPhase (.lastSector now now) s
  else if distance = 0 ∨ spanLength s % 16 ≠ 0 then setPhase (.sectors 0 (distance + 1) none none) s
  else
    match translate r.translation (pageAt s (distance * 16)).sector s with
    | (some t, s) =>
      if t.usable then setPhase (.sectors 0 (distance + 1) none none) (keepTranslation t s)
      else setPhase (.lastSector top (distance - 1)) s
    | (none, s) => s

/-- One step of the sector stage that takes no port time (R167). -/
def sectorStep (lo hi : Nat) (starts : Option Nat) (probe : Option (Nat × Nat)) (r : Readback) (s : State) : State :=
  if hi ≤ lo + 1 then setPhase (.pages (pageAt s (lo * 16)).sector 0 (pagesOfSector s lo) starts) s
  else
    match probe with
    | none => setPhase (.sectors lo hi starts (some ((lo + hi) / 2, (lo + hi) / 2))) s
    | some (d, m) =>
      match translate r.translation (pageAt s (d * 16)).sector s with
      | (some t, s) =>
        if t.usable then keepTranslation t s
        else if d + 1 < hi then setPhase (.sectors lo hi starts (some (d + 1, m))) s
        else setPhase (.sectors lo m starts none) s
      | (none, s) => s

/-- One step of the page stage that takes no port time (R167). A found sector that has become RETIRED by now has no page read
there, and each page probed counts as one with a key above the wanted sequence: DEDUCED (notes/assumptions/65.md). -/
def pageStep (sector lo hi : Nat) (starts : Option Nat) (r : Readback) (s : State) : State :=
  let distance := match s.sw.tail with
    | some tail => ringDistance s tail { sector := sector, page := lo }
    | none => 0
  if hi ≤ lo + 1 then
    if distance = 0 then setPhase (.walk { sector := sector, page := lo }) s
    else
      match starts with
      | none => setPhase (.stepBack distance) s
      | some 0 => setPhase (.stepBack (distance - 1)) s
      | some _ => setPhase (.walk { sector := sector, page := lo }) s
  else
    match translate r.translation sector s with
    | (some t, s) =>
      if t.usable then keepTranslation t s else setPhase (.pages sector lo ((lo + hi) / 2) starts) s
    | (none, s) => s

/-- One step back that takes no port time: RETIRED sectors are passed over (R167). -/
def backStep (distance : Nat) (r : Readback) (s : State) : State :=
  if distance = 0 then setPhase (.walk (pageAt s 0)) s
  else
    match translate r.translation (pageAt s distance).sector s with
    | (some t, s) =>
      if t.usable then keepTranslation t s else setPhase (.stepBack (distance / 16 * 16 - 1)) s
    | (none, s) => s

/-- One piece of the reader's work that takes no port time. While it holds a piece it goes no further (R170). With the
cancel mark it ends as soon as no record is in progress, also when a copy of one found cut follows (R171;
notes/assumptions/57.md). -/
def readerStep (s : State) : State :=
  match s.sr.queue, s.sr.current with
  | o :: _, some r =>
    if r.record = none ∧ r.cancel = true then endReadback true false s
    else if r.record = none ∧ o.last < r.wanted then endReadback false false s
    else
      match r.phase with
      | .settle => settleRange o r s
      | .lastSector top distance => lastSectorStep top distance r s
      | .sectors lo hi starts probe => sectorStep lo hi starts probe r s
      | .pages sector lo hi starts => pageStep sector lo hi starts r s
      | .stepBack distance => backStep distance r s
      | .walk p =>
        match translate r.translation p.sector s with
        | (some t, s) => if t.usable then keepTranslation t s else moveOver p s
        | (none, s) => s
      | .parse p last rest => if s.sr.piece.isSome then s else parseStep p last rest o r s
  | _, _ => s

/-- Whether the reader's operation is in flight and awaited. -/
def readerBusy (s : State) : Bool :=
  match s.sr.flight with
  | some f => f.requester == some .reader && !f.stale
  | none => false

/-- The reader's work that takes no port time. -/
def readerAdvance (s : State) : State := if readerBusy s then s else repeatStep readerStep 96 s

/-! ## Requests -/

/-- The page whose header or whole a readback would read next, if it is at a page read; a page stepped back to is read
whole, since the walk begins at it when it has a record start (R167, section 9.9). -/
def readerPage (s : State) : Option (PagePos × Bool) :=
  match s.sr.current with
  | none => none
  | some r =>
    match r.phase with
    | .sectors _ _ _ (some (d, _)) => some ({ pageAt s (d * 16) with page := 0 }, false)
    | .pages sector lo hi _ => some ({ sector := sector, page := (lo + hi) / 2 }, false)
    | .stepBack distance => some (pageAt s distance, true)
    | .walk p => some (p, true)
    | _ => none

/-- The operation the reader asks the store port for, if any. It asks for none while it holds a piece, be it a last piece
of fewer than 1,000 bytes or one of the readback before, nor for a map entry (R170; notes/assumptions/51.md). -/
def readerRequest (s : State) : Option PortOp :=
  match s.sr.current with
  | none => none
  | some r =>
    if s.sr.piece.isSome || !writerWorks s then none
    else
      match r.phase, readerPage s with
      | .lastSector _ distance, _ => askEntry r.translation (pageAt s (distance * 16)).sector s
      | _, some (p, whole) =>
        askOn r.translation p.sector (fun n => if whole then .readPage n p.page else .readHeader n p.page) s
      | _, none => none

/-- The check of R166 as a page read begins. -/
def readPasses (s : State) (op : PortOp) : Bool :=
  match op, readerPage s with
  | .readHeader _ _, some (p, _) => passesCheck s p
  | .readPage _ _, some (p, _) => passesCheck s p
  | _, _ => true

/-! ## Ends of the reader's operations -/

/-- A map entry read of the reader ends (R143). -/
def readerMapRead (logical : Nat) (entry : BitVec 32) (s : State) : State :=
  let s := mapEntryRead logical entry s
  keepTranslation (entryTranslation s logical entry) s

/-- A page or header read of the reader ends (R167, R168). -/
def readerPageRead (bytes : List Byte) (s : State) : State :=
  match s.sr.current with
  | none => s
  | some r =>
    let header := readHeader bytes
    let below := match header with
      | some h => decide (h.seqRef ≤ r.wanted)
      | none => false
    let starts := header.map PageHeader.starts
    match r.phase with
    | .sectors lo hi old (some (d, _)) =>
      if below then setPhase (.sectors d hi starts none) s else setPhase (.sectors lo d old none) s
    | .pages sector lo hi old =>
      let m := (lo + hi) / 2
      if below then setPhase (.pages sector m hi starts) s else setPhase (.pages sector lo m old) s
    | .stepBack distance =>
      if 0 < starts.getD 0 then walkPageRead (pageAt s distance) bytes r s else setPhase (.stepBack (distance - 1)) s
    | .walk p => walkPageRead p bytes r s
    | _ => s

/-! ## Orders -/

/-- READ RECORDS (R165), INVALID before FULL: DESIGN CHOICE (notes/assumptions/77.md). -/
def orderReadRecords (tag : Byte) (first count : Nat) (s : State) : State :=
  match s.sr.state with
  | .mounted =>
    if count = 0 ∨ 256 < count then refuse tag 16 .invalid s
    else if 4 ≤ s.sr.queue.length then refuse tag 16 .full s
    else
      let s := accept tag 16 s
      startReadback (s.setSr { s.sr with queue := s.sr.queue ++ [{ tag := tag, first := first, count := count }] })
  | .faulted => refuse tag 16 .fault s
  | _ => refuse tag 16 .notMounted s

/-- Whether the current readback has a record in progress (R171; notes/assumptions/71.md). -/
def recordInProgress (s : State) : Bool := s.sr.current.any inProgress

/-- The orders behind the front that carry a tag are removed, each answered DONE with every count at 0 and the cancelled
flag (R171). -/
def cancelQueued (tag : Byte) (s : State) : State :=
  let gone := (s.sr.queue.drop 1).filter fun o => o.tag == tag
  let s := s.setSr { s.sr with
    queue := s.sr.queue.take 1 ++ (s.sr.queue.drop 1).filter fun o => o.tag != tag }
  gone.foldl (fun s o => replyDone o.tag 16 true (readbackBody o .zero) s) s

/-- The current readback is cancelled: at once, or with the cancel mark while a record is in progress (R171). -/
def cancelCurrent (waiters : List Byte) (s : State) : State :=
  let s := withReadback (fun r => { r with waiters := r.waiters ++ waiters }) s
  if recordInProgress s then withReadback (fun r => { r with cancel := true }) s else endReadback true false s

/-- CANCEL READ (R171), the store state before INVALID: DESIGN CHOICE (notes/assumptions/77.md). -/
def orderCancelRead (tag target : Byte) (s : State) : State :=
  match s.sr.state with
  | .mounted =>
    if s.sr.queue.any fun o => o.tag == target then
      let current := (s.sr.queue.head?.map fun o => o.tag == target).getD false
      let s := cancelQueued target (accept tag 17 s)
      if current then cancelCurrent [tag] s else replyDone tag 17 false [] s
    else refuse tag 17 .invalid s
  | .faulted => refuse tag 17 .fault s
  | _ => refuse tag 17 .notMounted s

/-- Every readback is cancelled as an UNMOUNT is taken (R172), the queued ones answered first (notes/assumptions/58.md). -/
def cancelAll (s : State) : State :=
  match s.sr.queue with
  | [] => s
  | _ => cancelCurrent [] (endQueued true false s)

end Sys2Proof.Machine
end

