-- ==== Sys2Proof/Machine/StoreJobs.lean ====
section
/-! DEFINITION. The long store orders (R155 to R157, R160 to R164): the mount scan, FORMAT and MAP LOAD as a series of
operations that own the store port, and UNMOUNT. -/

namespace Sys2Proof.Machine

/-! ## The mount scan (R161 to R164) -/

/-- A mount scan at its start. -/
def MountJob.start : MountJob :=
  { next := 0, retired := 0, empty := 0, valid := 0, damaged := 0, low := none, high := none, firstUsable := none,
    afterHead := none, walking := false, page := 0, headPage := 0,
    headHeader := { tailOpen := false, serial := 0, seqRef := 0, starts := 0, firstOffset := 0 } }

/-- What the scan found (R163): head position with its erased mark, tail with its sequence, next sequence, next serial,
watermark and torn sequence. -/
structure MountResult where
  head : PagePos
  erased : Bool
  tail : Option Nat
  tailSeq : Nat
  found : NextSeq
  serial : Serial
  watermark : Nat
  torn : Option Nat
  deriving DecidableEq, Repr

/-- The next USABLE sector after the head sector in ring order, from what the scan met. -/
def MountJob.sectorAfterHead (j : MountJob) : Nat := (j.afterHead.orElse fun _ => j.firstUsable).getD 0

/-- The results of the scan (R163); `emptyStop` when it stopped at an EMPTY page. -/
def MountJob.result (j : MountJob) (emptyStop : Bool) : MountResult :=
  match j.low, j.high with
  | some (tail, first), some (sector, _) =>
    let last := j.headHeader.lastSequence
    { head :=
        if emptyStop then { sector := sector, page := j.headPage + 1 } else { sector := j.sectorAfterHead, page := 0 }
      erased := emptyStop
      tail := some tail
      tailSeq := first.seqRef
      found := nextAfter last
      serial := Serial.next (.number j.headHeader.serial)
      watermark := first.seqRef - 1
      torn := if j.headHeader.tailOpen then some last else none }
  | _, _ =>
    { head := { sector := j.firstUsable.getD 0, page := 0 }, erased := false, tail := none, tailSeq := 0,
      found := .number 0, serial := .number 0, watermark := 0, torn := none }

/-- A next sequence or serial as a field: 0 beside its presence bit when EXHAUSTED (R199). -/
def NextSeq.field : NextSeq → Nat
  | .number n => n
  | .undefined | .exhausted => 0

def Serial.field : Serial → Nat
  | .number n => n
  | .exhausted => 0

/-- The body of the DONE reply to a MOUNT (section 12.4). -/
def mountBody (s : State) (j : MountJob) (r : MountResult) : List Byte :=
  leBytes 2 s.sw.logical ++ leBytes 2 s.sw.usable ++ leBytes 2 j.retired ++ leBytes 2 j.empty ++ leBytes 2 j.valid ++
    leBytes 2 j.damaged ++ leBytes 2 r.head.sector ++ leBytes 1 r.head.page ++ leBytes 2 (r.tail.getD 0) ++
    leBytes 1 (bits [r.tail.isNone, r.found == .exhausted, r.serial == .exhausted, r.torn.isSome]) ++
    leBytes 4 r.found.field ++ leBytes 4 r.serial.field ++ leBytes 4 (r.torn.getD 0)

/-- The completing event of a mount (R164; notes/assumptions/28.md). -/
def mountComplete (j : MountJob) (r : MountResult) (s : State) : State :=
  let s := takeSequence r.found s
  let s := s.setSw { s.sw.clearBuffer with
    head := some r.head, headErased := r.erased, tail := r.tail, tailSeq := r.tailSeq, serial := r.serial,
    watermark := r.watermark, streak := 0, headDepartures := 0, stopMark := none, tasks := [] }
  let s := s.setSr { s.sr with state := .mounted, job := .none, jobTranslation := none }
  let s := storeOrderDone (mountBody s j r) s
  if r.erased then s else enterHead s

/-- The scan is over: fewer than 2 USABLE sectors make the store FAULTED (R161), else it completes. -/
def mountEnd (j : MountJob) (emptyStop : Bool) (s : State) : State :=
  if s.sw.usable < 2 then storeFault .retirement s else mountComplete j (j.result emptyStop) s

/-- A mount scan after page 0 of a USABLE sector has been read: EMPTY, VALID or DAMAGED (R161), and the ends of the ring
so far (R162). -/
def MountJob.classify (j : MountJob) (bytes : List Byte) : MountJob :=
  let j := { j with
    next := j.next + 1
    firstUsable := some (j.firstUsable.getD j.next)
    afterHead := if j.high.isSome then some (j.afterHead.getD j.next) else none }
  let sector := j.next - 1
  if pageEmpty bytes then { j with empty := j.empty + 1 }
  else
    match readHeader bytes with
    | none => { j with damaged := j.damaged + 1 }
    | some h =>
      let newLow := match j.low with
        | some (_, l) => decide (h.serial < l.serial)
        | none => true
      let newHigh := match j.high with
        | some (_, x) => decide (x.serial ≤ h.serial)
        | none => true
      { j with
        valid := j.valid + 1
        low := if newLow then some (sector, h) else j.low
        high := if newHigh then some (sector, h) else j.high
        afterHead := if newHigh then none else j.afterHead }

/-- A mount scan put back. -/
def setMount (j : MountJob) (s : State) : State := s.setSr { s.sr with job := .mount j }

/-- Every sector is classified: the walk of the head sector begins, if there is one (R161, R162). -/
def mountClassified (j : MountJob) (s : State) : State :=
  if s.sw.usable < 2 then storeFault .retirement s
  else
    match j.high with
    | none => mountEnd j false s
    | some (_, h) => setMount { j with walking := true, page := 1, headPage := 0, headHeader := h } s

/-- A page of the head sector has been read in the walk (R162). -/
def mountWalkRead (j : MountJob) (bytes : List Byte) (s : State) : State :=
  match readHeader bytes with
  | none => mountEnd j (pageEmpty bytes) s
  | some h =>
    if h.serial ≤ j.headHeader.serial then mountEnd j false s
    else
      let j := { j with headPage := j.page, headHeader := h, page := j.page + 1 }
      if j.headPage = 15 then mountEnd j false s else setMount j s

/-- A page read of the mount scan ends. -/
def mountPageRead (bytes : List Byte) (s : State) : State :=
  match s.sr.job with
  | .mount j => if j.walking then mountWalkRead j bytes s else setMount (j.classify bytes) s
  | _ => s

/-! ## FORMAT (R155) -/

/-- The completing event of a FORMAT (R155). -/
def formatComplete (first : Nat) (s : State) : State :=
  let s := discardEntries s
  let s := s.setRq { s.rq with next := .number 0 }
  let s := s.setSw { s.sw.clearBuffer with
    serial := .number 0, head := some { sector := first, page := 0 }, headErased := true, tail := none, watermark := 0,
    streak := 0, headDepartures := 0, stopMark := none, tasks := [] }
  let s := s.setSr { s.sr with state := .mounted, job := .none, jobTranslation := none }
  storeOrderDone (leBytes 2 s.sw.logical ++ leBytes 2 s.sw.usable) s

/-- A sector erase of FORMAT ends (R155). -/
def formatErased (sector : Nat) (first : Option Nat) (ok : Bool) (s : State) : State :=
  if ok then s.setSr { s.sr with job := .format (sector + 1) false (some (first.getD sector)) }
  else
    match s.sw.mode with
    | .mapped => s.setSr { s.sr with job := .format sector true first }
    | .direct => storeFault .erase s

/-- The map program of a retirement during FORMAT ends (R155): the streak is not raised. -/
def formatRetired (sector : Nat) (first : Option Nat) (ok : Bool) (s : State) : State :=
  if ok then
    let s := retireTranslation sector (latch .sectorRetired s)
    let s := s.setSw { s.sw with usable := s.sw.usable - 1 }
    s.setSr { s.sr with job := .format (sector + 1) false first }
  else storeFault .map s

/-! ## MAP LOAD (R156) -/

/-- The erase of the map sector ends (R156; notes/assumptions/39.md). -/
def mapErased (start : Nat) (left : List Nat) (ok : Bool) (s : State) : State :=
  if ok then
    (s.setSw { s.sw with mapFill := some (0, []) }).setSr { s.sr with job := .mapLoad start false left 0 }
  else storeFault .map s

/-- A map entry has been programmed (R156). -/
def mapLoaded (start : Nat) (left : List Nat) (done : Nat) (ok : Bool) (s : State) : State :=
  match left, ok with
  | p :: rest, true =>
    let fill := match s.sw.mapFill with
      | some (n, members) => some (n + 1, members ++ [p])
      | none => none
    (s.setSw { s.sw with mapFill := fill }).setSr { s.sr with job := .mapLoad start false rest (done + 1) }
  | _, _ => storeFault .map s

/-! ## Immediate work and requests -/

/-- A translation the job has in hand or gets without a map read; a DIRECT sector met for the first time counts USABLE
(R141). -/
def jobTranslate (sector : Nat) (first : Bool) (s : State) : Option Translation × State :=
  match translate s.sr.jobTranslation sector s with
  | (some t, s) =>
    if s.sr.jobTranslation = some t then (some t, s)
    else
      let s := s.setSr { s.sr with jobTranslation := some t }
      (some t, if first && t.usable then s.setSw { s.sw with usable := s.sw.usable + 1 } else s)
  | (none, s) => (none, s)

/-- One piece of a job's work that takes no port time. A head sector whose map entry reads RETIRED in the walk ends the scan
there, with the head in the next sector (notes/assumptions/50.md). -/
def jobStep (s : State) : State :=
  match s.sr.job with
  | .none => s
  | .mount j =>
    if j.walking then
      match jobTranslate ((j.high.map Prod.fst).getD 0) false s with
      | (some t, s) => if t.usable then s else mountEnd j false s
      | (none, s) => s
    else if s.sw.logical ≤ j.next then mountClassified j s
    else
      match jobTranslate j.next true s with
      | (some t, s) => if t.usable then s else setMount { j with next := j.next + 1, retired := j.retired + 1 } s
      | (none, s) => s
  | .format sector retiring first =>
    if retiring then s
    else if s.sw.logical ≤ sector then
      match first with
      | some f => if s.sw.usable < 2 then storeFault .retirement s else formatComplete f s
      | none => storeFault .retirement s
    else
      match jobTranslate sector true s with
      | (some t, s) => if t.usable then s else s.setSr { s.sr with job := .format (sector + 1) false first }
      | (none, s) => s
  | .mapLoad _ erase left done =>
    if !erase && left.isEmpty then
      let s := s.setSr { s.sr with job := .none }
      storeOrderDone (leBytes 1 done) s
    else s

/-- A job's work that takes no port time, while no operation is in flight. -/
def jobAdvance (s : State) : State := if s.sr.flight.isNone then repeatStep jobStep 16 s else s

/-- What a job asks for on a sector. -/
def jobOnSector (s : State) (sector : Nat) (op : Nat → PortOp) : Option PortOp := askOn s.sr.jobTranslation sector op s

/-- The operation a job starts next, if any (R155, R156, R161, R162). -/
def jobRequest (s : State) : Option PortOp :=
  match s.sr.job with
  | .none => none
  | .mount j =>
    if j.walking then jobOnSector s ((j.high.map Prod.fst).getD 0) fun p => .readPage p j.page
    else jobOnSector s j.next fun p => .readPage p 0
  | .format sector retiring _ =>
    if retiring then some (.retireMap sector) else jobOnSector s sector .erase
  | .mapLoad start erase left done =>
    if erase then some .eraseMap else left.head?.map fun p => .loadMap (start + done) (mapEntryBytes p)

/-- A map entry read of a job ends; a USABLE sector first translated counts (R141, R143). -/
def jobMapRead (logical : Nat) (entry : BitVec 32) (s : State) : State :=
  let s := mapEntryRead logical entry s
  let t := entryTranslation s logical entry
  let s := s.setSr { s.sr with jobTranslation := some t }
  let first := match s.sr.job with
    | .mount j => !j.walking
    | _ => true
  if first && t.usable then s.setSw { s.sw with usable := s.sw.usable + 1 } else s

/-! ## Orders -/

/-- MOUNT (R160). -/
def orderMount (tag : Byte) (s : State) : State :=
  match s.sr.state with
  | .unmounted =>
    let s := (readGeometry (takeStoreOrder .mount tag s)).setCache []
    let s := s.setSw { s.sw with usable := 0 }
    s.setSr { s.sr with state := .mounting, job := .mount .start, jobTranslation := none }
  | .mounted | .faulted => refuse tag 11 .wrongState s
  | .formatting | .mounting | .unmounting => refuse tag 11 .busy s

/-- FORMAT (R155). -/
def orderFormat (tag : Byte) (s : State) : State :=
  match s.sr.state with
  | .unmounted =>
    let s := (readGeometry (takeStoreOrder .format tag s)).setCache []
    let s := s.setSw { s.sw with usable := 0 }
    s.setSr { s.sr with state := .formatting, job := .format 0 false none, jobTranslation := none }
  | .mounted | .faulted => refuse tag 12 .wrongState s
  | .formatting | .mounting | .unmounting => refuse tag 12 .busy s

/-- Whether a MAP LOAD is acceptable (R156). -/
def mapLoadValid (s : State) (start : Nat) (sectors : List Nat) : Bool :=
  (start == 0 || match s.sw.mapFill with
    | some (n, members) => start == n && sectors.all fun p => !members.contains p
    | none => false) &&
  decide (start + sectors.length ≤ 1024) &&
  sectors.all (fun p => p != 0 && decide (p < s.sl.settings.storeSectors)) && decide sectors.Nodup

/-- MAP LOAD (R156), the store state and DIRECT before INVALID: DESIGN CHOICE (notes/assumptions/77.md). -/
def orderMapLoad (tag : Byte) (start : Nat) (sectors : List Nat) (s : State) : State :=
  match s.sr.state with
  | .unmounted =>
    if s.sl.settings.mapMode = .direct then refuse tag 13 .wrongState s
    else if !mapLoadValid s start sectors then refuse tag 13 .invalid s
    else
      let s := (readGeometry (takeStoreOrder .mapLoad tag s)).setCache []
      s.setSr { s.sr with job := .mapLoad start (start == 0) sectors 0, jobTranslation := none }
  | .mounted | .faulted => refuse tag 13 .wrongState s
  | .formatting | .mounting | .unmounting => refuse tag 13 .busy s

/-- UNMOUNT (R157). The store states in which it finds nothing mounted come first; the campaign is STOPPED in them. -/
def orderUnmount (tag : Byte) (s : State) : State :=
  match s.sr.state with
  | .unmounted => refuse tag 14 .notMounted s
  | .formatting | .mounting | .unmounting => refuse tag 14 .busy s
  | .faulted =>
    if s.ia.state ≠ .stopped then refuse tag 14 .wrongState s
    else enterUnmounted (takeStoreOrder .unmount tag s)
  | .mounted =>
    if s.ia.state ≠ .stopped then refuse tag 14 .wrongState s
    else
      let s := takeStoreOrder .unmount tag s
      let s := s.setSr { s.sr with state := .unmounting }
      cancelAll (unmountWriter s)

end Sys2Proof.Machine
end

