-- ==== Sys2Proof/Machine/Port.lean ====
section
/-! DEFINITION. The store port (R173 to R175): the arbiter, what settles in the store after an event, and what the end
of each kind of operation does. -/

namespace Sys2Proof.Machine

/-! ## The arbiter (R173) -/

/-- An operation starts on the port. -/
def startOp (requester : Option Requester) (op : PortOp) (s : State) : State :=
  s.setSr { s.sr with flight := some { op := op, requester := requester, elapsed := 0, stale := false } }

/-- A grant: the holder, with its tenure count one up when it held the port, else 1; it saturates at 16. -/
def grantTo (r : Requester) (s : State) : State :=
  s.setSr { s.sr with
    holder := some r
    tenure := if s.sr.holder = some r then satSucc 16 s.sr.tenure else 1 }

/-- The choice between two requesters that both wait at the end of an operation (the table of R173). -/
def chooseBoth (holder : Requester) (tenure writerBurst readerBurst : Nat) (urgent : Bool) : Requester :=
  if urgent then .writer
  else
    match holder with
    | .writer => if tenure < writerBurst then .writer else .reader
    | .reader => if tenure < readerBurst then .reader else .writer

/-- Whether the queue occupancy is at or above URGENT_LEVEL. -/
def urgent (s : State) : Bool := decide (s.sl.settings.urgentLevel ≤ s.rq.entries.length)

/-- The requester to be granted, both waiting; at a free port either may be first (R173, notes/assumptions/2.md). -/
def chooseWaiting (s : State) : Requester × State :=
  match s.sr.holder with
  | some h =>
    (chooseBoth h s.sr.tenure s.sl.settings.writerBurst s.sl.settings.readerBurst (urgent s), s)
  | none =>
    let (n, s) := draw s
    (if Config.pick n % 2 = 0 then .writer else .reader, s)

/-- The writer is granted its operation. -/
def grantWriter (op : PortOp) (s : State) : State := startOp (some .writer) op (grantTo .writer s)

/-- The reader is granted its operation, if its page passes the check of R166; otherwise no read is made, the order ends, and
the choice of R173 is made again from the holder and the tenure count as they were: DEDUCED (notes/assumptions/67.md). -/
def grantReader (op : PortOp) (s : State) : State :=
  if readPasses s op then startOp (some .reader) op (grantTo .reader s) else readerAdvance (endGone s)

/-- The port is free: no holder. -/
def portFree (s : State) : State := s.setSr { s.sr with holder := none, tenure := 0 }

/-- One grant, when no operation is in flight. The operations of a job are not arbitrated. -/
def grantStep (s : State) : State :=
  if s.sr.flight.isSome then s
  else
    match jobRequest s, writerRequest s, readerRequest s with
    | some op, _, _ => startOp none op (portFree s)
    | none, none, none => portFree s
    | none, some op, none => grantWriter op s
    | none, none, some op => grantReader op s
    | none, some w, some r =>
      match chooseWaiting s with
      | (.writer, s) => grantWriter w s
      | (.reader, s) => grantReader r s

/-- One pass over the store: the work that takes no port time, a job's before the writer's since a mount that ends hands it
the head (R164), the end of an UNMOUNT and the grants. -/
def storePass (s : State) : State :=
  repeatStep grantStep 6 (finishUnmount (readerAdvance (writerAdvance (jobAdvance s))))

/-- What settles in the store after an event. -/
def storeSettle (s : State) : State := repeatStep storePass 2 s

/-! ## Ends of operations -/

/-- The bytes of a page or header that the flash delivered, byte 0 in the low bits. -/
def bytesOf {w : Nat} (n : Nat) (x : BitVec w) : List Byte := (List.range n).map fun i => x.extractLsb' (8 * i) 8

/-- The operation in flight ends and the port awaits its next choice (R173). -/
def endOp (s : State) : State := s.setSr { s.sr with flight := none }

/-- The end of an operation that its requester no longer awaits has no other effect (R175)
(notes/assumptions/18.md). -/
def awaited (f : InFlight) (act : State → State) (s : State) : State := if f.stale then endOp s else act (endOp s)

/-- The flash reports the page program in flight successful (R146). -/
def endProgramDone (s : State) : State :=
  match s.sr.flight with
  | some f =>
    match f.op with
    | .program _ _ _ => awaited f pageProgrammed s
    | _ => s
  | none => s

/-- The flash reports the page program in flight failed (R151). -/
def endProgramFailed (s : State) : State :=
  match s.sr.flight with
  | some f =>
    match f.op with
    | .program _ _ _ => awaited f pageFailed s
    | _ => s
  | none => s

/-- A map program ends: a retirement's (R151, R153, R155) or a MAP LOAD's (R156). -/
def endMapProgram (ok : Bool) (s : State) : State :=
  match s.sr.flight with
  | some f =>
    match f.op, f.requester, s.sr.job with
    | .retireMap _, some _, _ => awaited f (retireEnded ok) s
    | .retireMap _, none, .format sector _ first => awaited f (formatRetired sector first ok) s
    | .loadMap _ _, none, .mapLoad start _ left done => awaited f (mapLoaded start left done ok) s
    | .retireMap _, none, _ => endOp s
    | .loadMap _ _, _, _ => endOp s
    | _, _, _ => s
  | none => s

/-- A sector erase ends: the writer's (R148, R153), FORMAT's (R155) or MAP LOAD's (R156). -/
def endErase (ok : Bool) (s : State) : State :=
  match s.sr.flight with
  | some f =>
    match f.op, f.requester, s.sr.job with
    | .erase _, some _, _ => awaited f (if ok then headErasedNow else headEraseFailed) s
    | .erase _, none, .format sector _ first => awaited f (formatErased sector first ok) s
    | .eraseMap, none, .mapLoad start _ left _ => awaited f (mapErased start left ok) s
    | .erase _, none, _ => endOp s
    | .eraseMap, _, _ => endOp s
    | _, _, _ => s
  | none => s

/-- A header read of the writer ends (R148, R149). -/
def endHeaderRead (header : BitVec 128) (s : State) : State :=
  match s.sr.flight with
  | some f =>
    match f.op, f.requester with
    | .readHeader _ _, some .writer => awaited f (writerHeaderRead (bytesOf 16 header)) s
    | _, _ => s
  | none => s

/-- Whether an UNMOUNT has completed since a map entry read that nobody awaits was asked for: the store is UNMOUNTED, or the
next MOUNT, FORMAT or MAP LOAD waits for the port. Only from FAULTED does an UNMOUNT leave an operation in flight (R157), and a
read of the operation in progress is awaited in these states. -/
def outlivedUnmount (s : State) : Bool :=
  match s.sr.state with
  | .unmounted | .formatting | .mounting => true
  | .mounted | .unmounting | .faulted => false

/-- A map entry read that its requester no longer awaits ends: it is judged, and its translation placed as long as the store is
the one it was asked for. One that outlived an UNMOUNT places nothing, so that the cache stays as the UNMOUNT or the next MOUNT,
FORMAT or MAP LOAD left it, empty (R143): DEDUCED (notes/assumptions/76.md). -/
def strayMapRead (logical : Nat) (entry : BitVec 32) (s : State) : State :=
  if outlivedUnmount s then noteEntry entry s else mapEntryRead logical entry s

/-- A map entry read ends (R143), for the writer, the reader, a job or nobody any more. -/
def endMapRead (entry : BitVec 32) (s : State) : State :=
  match s.sr.flight with
  | some f =>
    match f.op with
    | .readMap logical =>
      if f.stale then strayMapRead logical entry (endOp s)
      else
        match f.requester with
        | some .writer => writerMapRead logical entry (endOp s)
        | some .reader => readerMapRead logical entry (endOp s)
        | none => jobMapRead logical entry (endOp s)
    | _ => s
  | none => s

/-- A page read of the mount scan ends (R161, R162). -/
def endMountRead (page : BitVec 2048) (s : State) : State :=
  match s.sr.flight with
  | some f =>
    match f.op, f.requester with
    | .readPage _ _, none => awaited f (mountPageRead (bytesOf 256 page)) s
    | _, _ => s
  | none => s

/-- A page or header read of the reader ends (R167, R168). -/
def endPageRead (page : BitVec 2048) (s : State) : State :=
  match s.sr.flight with
  | some f =>
    match f.op, f.requester with
    | .readPage _ _, some .reader => awaited f (readerPageRead (bytesOf 256 page)) s
    | .readHeader _ _, some .reader => awaited f (readerPageRead (bytesOf 16 page)) s
    | _, _ => s
  | none => s

/-- The operation in flight reaches its limit (R175; notes/assumptions/19.md). -/
def endTimeout (s : State) : State :=
  match s.sr.flight with
  | some _ => storeFault .timeout (portFree (endOp s))
  | none => s

end Sys2Proof.Machine
end

