-- ==== Sys2Proof/Machine/Settings.lean ====
section
/-! DEFINITION. The settings catalogue (section 11.5): names, classes, ranges and value codes, and the orders SET (R192) and
GET (R194). -/

namespace Sys2Proof.Machine

/-! ## The catalogue -/

/-- The settings in catalogue order; their codes are 1 to 40 (section 12.1). -/
inductive Setting where
  | nominalFreq | windowCycles | declaredCounts | intervalSeconds | activeProfile | attribThreshold
  | attribFloor | refMode | refManual | refPriority | revertive | trackFloor | holdoverLimit | qualAccept
  | qualReject | qualGoodTimes | qualFailTimes | armTimeout | capturePre | capturePost | captureDecim
  | captureChannels | captureTriggers | captureExtend | captureHoldoff | timeSource | stepLimitMs | liveRecords
  | storeWrap | flushAge | storeSectors | mapMode | logSectors | mapCache | writerBurst | readerBurst
  | urgentLevel | modbusOwner | hold | attnEnable
  deriving DecidableEq, Repr

/-- The settings in the order of their codes. -/
def allSettings : List Setting :=
  [.nominalFreq, .windowCycles, .declaredCounts, .intervalSeconds, .activeProfile, .attribThreshold,
   .attribFloor, .refMode, .refManual, .refPriority, .revertive, .trackFloor, .holdoverLimit, .qualAccept,
   .qualReject, .qualGoodTimes, .qualFailTimes, .armTimeout, .capturePre, .capturePost, .captureDecim,
   .captureChannels, .captureTriggers, .captureExtend, .captureHoldoff, .timeSource, .stepLimitMs,
   .liveRecords, .storeWrap, .flushAge, .storeSectors, .mapMode, .logSectors, .mapCache, .writerBurst,
   .readerBurst, .urgentLevel, .modbusOwner, .hold, .attnEnable]

/-- The setting of a code. -/
def Setting.ofCode (n : Nat) : Option Setting := if n = 0 then none else allSettings[n - 1]?

/-- The classes of settings (section 11.5). -/
inductive SettingClass where
  | immediate | boundary | stopped | unmounted
  deriving DecidableEq, Repr

/-- The class of a setting. -/
def Setting.cls : Setting → SettingClass
  | .intervalSeconds | .activeProfile | .attribThreshold | .attribFloor => .boundary
  | .nominalFreq | .windowCycles | .declaredCounts => .stopped
  | .storeSectors | .mapMode | .logSectors => .unmounted
  | .refMode | .refManual | .refPriority | .revertive | .trackFloor | .holdoverLimit | .qualAccept
  | .qualReject | .qualGoodTimes | .qualFailTimes | .armTimeout | .capturePre | .capturePost | .captureDecim
  | .captureChannels | .captureTriggers | .captureExtend | .captureHoldoff | .timeSource | .stepLimitMs
  | .liveRecords | .storeWrap | .flushAge | .mapCache | .writerBurst | .readerBurst | .urgentLevel
  | .modbusOwner | .hold | .attnEnable => .immediate

/-- What values a setting takes: a range that values are clamped into, a list of numbers, so many enumeration codes from
0, a set of so many members that may have to be non-empty, or an ordering of V1, V2, V3. -/
inductive SettingShape where
  | range (lo hi : Nat)
  | oneOf (values : List Nat)
  | code (count : Nat)
  | members (count : Nat) (nonEmpty : Bool)
  | ordering
  deriving DecidableEq, Repr

/-- The range or list of a setting (section 11.5). -/
def Setting.shape : Setting → SettingShape
  | .nominalFreq => .oneOf [50, 60]
  | .windowCycles => .range 8 16
  | .declaredCounts => .range 1 8388606
  | .intervalSeconds => .oneOf [60, 120, 180, 300, 600, 900, 1200, 1800, 3600, 7200]
  | .activeProfile => .oneOf [0, 1, 2, 3]
  | .attribThreshold => .range 0 65535
  | .attribFloor => .range 1 8388606
  | .refMode => .code 2
  | .refManual => .code 3
  | .refPriority => .ordering
  | .revertive => .code 2
  | .trackFloor => .range 0 10000
  | .holdoverLimit => .range 1 3600
  | .qualAccept => .range 0 127
  | .qualReject => .range 0 127
  | .qualGoodTimes => .range 0 15
  | .qualFailTimes => .range 0 15
  | .armTimeout => .range 1 600
  | .capturePre => .range 0 4
  | .capturePost => .range 1 20
  | .captureDecim => .oneOf [1, 2, 4]
  | .captureChannels => .members 8 true
  | .captureTriggers => .members 3 false
  | .captureExtend => .code 2
  | .captureHoldoff => .range 0 255
  | .timeSource => .code 2
  | .stepLimitMs => .range 1 1000
  | .liveRecords => .code 2
  | .storeWrap => .code 2
  | .flushAge => .range 1 60
  | .storeSectors => .range 5 65535
  | .mapMode => .code 2
  | .logSectors => .range 4 1024
  | .mapCache => .code 2
  | .writerBurst => .range 1 16
  | .readerBurst => .range 1 16
  | .urgentLevel => .range 1 16
  | .modbusOwner => .code 2
  | .hold => .code 2
  | .attnEnable => .members 21 false

/-- The three role codes in bytes 0 to 2 of a value (section 12.4). -/
def phaseCodes (v : Nat) : List Nat := [v % 256, v / 256 % 256, v / 65536 % 256]

/-- The phases a REF_PRIORITY value lists. -/
def phasesOf (v : Nat) : List Phase := (phaseCodes v).filterMap Phase.ofCode

/-- The value of a setting in force, as GET gives it (section 12.4). -/
def Setting.read (x : Settings) : Setting → Nat
  | .nominalFreq => x.nominalFreq
  | .windowCycles => x.windowCycles
  | .declaredCounts => x.declaredCounts
  | .intervalSeconds => x.intervalSeconds
  | .activeProfile => x.activeProfile
  | .attribThreshold => x.attribThreshold
  | .attribFloor => x.attribFloor
  | .refMode => x.refMode.code
  | .refManual => x.refManual.code
  | .refPriority => leNat (x.refPriority.map fun p => byteOf p.code)
  | .revertive => if x.revertive then 1 else 0
  | .trackFloor => x.trackFloor
  | .holdoverLimit => x.holdoverLimit
  | .qualAccept => x.qualAccept
  | .qualReject => x.qualReject
  | .qualGoodTimes => x.qualGoodTimes
  | .qualFailTimes => x.qualFailTimes
  | .armTimeout => x.armTimeout
  | .capturePre => x.capturePre
  | .capturePost => x.capturePost
  | .captureDecim => x.captureDecim
  | .captureChannels => x.captureChannels.toNat
  | .captureTriggers => x.captureTriggers.toNat
  | .captureExtend => if x.captureExtend then 1 else 0
  | .captureHoldoff => x.captureHoldoff
  | .timeSource => x.timeSource.code
  | .stepLimitMs => x.stepLimitMs
  | .liveRecords => if x.liveRecords then 1 else 0
  | .storeWrap => x.storeWrap.code
  | .flushAge => x.flushAge
  | .storeSectors => x.storeSectors
  | .mapMode => x.mapMode.code
  | .logSectors => x.logSectors
  | .mapCache => if x.mapCache then 1 else 0
  | .writerBurst => x.writerBurst
  | .readerBurst => x.readerBurst
  | .urgentLevel => x.urgentLevel
  | .modbusOwner => x.modbusOwner.code
  | .hold => if x.hold then 1 else 0
  | .attnEnable => x.attnEnable.toNat

/-- The settings with one value replaced. -/
def Setting.write (x : Settings) (v : Nat) : Setting → Settings
  | .nominalFreq => { x with nominalFreq := v }
  | .windowCycles => { x with windowCycles := v }
  | .declaredCounts => { x with declaredCounts := v }
  | .intervalSeconds => { x with intervalSeconds := v }
  | .activeProfile => { x with activeProfile := v }
  | .attribThreshold => { x with attribThreshold := v }
  | .attribFloor => { x with attribFloor := v }
  | .refMode => { x with refMode := if v = 0 then .auto else .manual }
  | .refManual => { x with refManual := (Phase.ofCode v).getD .p1 }
  | .refPriority => { x with refPriority := phasesOf v }
  | .revertive => { x with revertive := v == 1 }
  | .trackFloor => { x with trackFloor := v }
  | .holdoverLimit => { x with holdoverLimit := v }
  | .qualAccept => { x with qualAccept := v }
  | .qualReject => { x with qualReject := v }
  | .qualGoodTimes => { x with qualGoodTimes := v }
  | .qualFailTimes => { x with qualFailTimes := v }
  | .armTimeout => { x with armTimeout := v }
  | .capturePre => { x with capturePre := v }
  | .capturePost => { x with capturePost := v }
  | .captureDecim => { x with captureDecim := v }
  | .captureChannels => { x with captureChannels := BitVec.ofNat 8 v }
  | .captureTriggers => { x with captureTriggers := BitVec.ofNat 3 v }
  | .captureExtend => { x with captureExtend := v == 1 }
  | .captureHoldoff => { x with captureHoldoff := v }
  | .timeSource => { x with timeSource := if v = 0 then .marked else .free }
  | .stepLimitMs => { x with stepLimitMs := v }
  | .liveRecords => { x with liveRecords := v == 1 }
  | .storeWrap => { x with storeWrap := if v = 0 then .overwrite else .halt }
  | .flushAge => { x with flushAge := v }
  | .storeSectors => { x with storeSectors := v }
  | .mapMode => { x with mapMode := if v = 0 then .direct else .mapped }
  | .logSectors => { x with logSectors := v }
  | .mapCache => { x with mapCache := v == 1 }
  | .writerBurst => { x with writerBurst := v }
  | .readerBurst => { x with readerBurst := v }
  | .urgentLevel => { x with urgentLevel := v }
  | .modbusOwner => { x with modbusOwner := if v = 0 then .auto else .station }
  | .hold => { x with hold := v == 1 }
  | .attnEnable => { x with attnEnable := BitVec.ofNat 21 v }

/-! ## Judging an item (R192) -/

/-- Whether a value is acceptable before any clamping: step 2 of R192, with the encodings of section 12.4. -/
def SettingShape.accepts (v : Nat) : SettingShape → Bool
  | .range _ _ => true
  | .oneOf values => values.contains v
  | .code count => decide (v < count)
  | .members count nonEmpty => decide (v < 2 ^ count) && (!nonEmpty || v != 0)
  | .ordering => decide (v < 16777216) && decide (List.Perm (phaseCodes v) [0, 1, 2])

/-- Whether the class lets an item be taken now: step 3 of R192. -/
def SettingClass.admits (s : State) : SettingClass → Bool
  | .immediate | .boundary => true
  | .stopped => s.ia.state == .stopped
  | .unmounted => s.sr.state == .unmounted

/-- The value an item is brought to: its range, QUAL_ACCEPT at most QUAL_REJECT (R10), LOG_SECTORS at most STORE_SECTORS
minus 1 (R141). Step 4 of R192. -/
def Setting.clamp (x : Settings) (k : Setting) (v : Nat) : Nat :=
  let r := match k.shape with
    | .range lo hi => clampTo lo hi v
    | _ => v
  match k with
  | .qualAccept => min r x.qualReject
  | .logSectors => min r (x.storeSectors - 1)
  | _ => r

/-- The memory rule of the capture settings (R100). -/
def memoryRule (x : Settings) : Settings :=
  let most := maxBlocks x.captureChannels x.captureDecim
  if most ≤ x.capturePre then { x with capturePre := most - 1, capturePost := 1 }
  else if most < x.capturePre + x.capturePost then { x with capturePost := most - x.capturePre }
  else x

/-- Whether a setting is one of the four whose SET applies the memory rule (R100). -/
def Setting.isCapture : Setting → Bool
  | .capturePre | .capturePost | .captureDecim | .captureChannels => true
  | _ => false

/-! ## Placing an item (R192, R193) -/

/-- The pending set with a value. -/
def PendingSet.put (p : PendingSet) (v : Nat) : Setting → PendingSet
  | .intervalSeconds => { p with intervalSeconds := some v }
  | .activeProfile => { p with activeProfile := some v }
  | .attribThreshold => { p with attribThreshold := some v }
  | .attribFloor => { p with attribFloor := some v }
  | _ => p

/-- The pending value of a setting. -/
def PendingSet.get (p : PendingSet) : Setting → Option Nat
  | .intervalSeconds => p.intervalSeconds
  | .activeProfile => p.activeProfile
  | .attribThreshold => p.attribThreshold
  | .attribFloor => p.attribFloor
  | _ => none

/-- The settings in force with an item placed; the memory rule follows a capture setting (R100). -/
def Setting.place (x : Settings) (k : Setting) (v : Nat) : Settings :=
  let y := k.write x v
  if k.isCapture then memoryRule y else y

/-- Live emission stops and every entry takes its emitted mark as LIVE_RECORDS is set to off (R139, R190). -/
def liveOff (s : State) : State := markAllEmitted (s.setSl { s.sl with live := none })

/-- What the owning block does once a value is in force: the ring is emptied by a change of format (R100), the slew
remainder goes as TIME_SOURCE becomes FREE (R115), live emission stops (R190), the stop mark is cleared (R148), the cache is
emptied (R143), and the bus takes its owner (R177). -/
def ownerActs (old : Settings) (k : Setting) (s : State) : State :=
  let x := s.sl.settings
  match k with
  | .capturePre | .capturePost | .captureDecim | .captureChannels =>
    if x.capturePre ≠ old.capturePre ∨ x.captureDecim ≠ old.captureDecim ∨ x.captureChannels ≠ old.captureChannels then
      emptyRing s
    else s
  | .timeSource => sourceSet old.timeSource s
  | .liveRecords => if x.liveRecords then s else liveOff s
  | .storeWrap => if x.storeWrap = .overwrite then clearStop s else s
  | .mapCache => if x.mapCache ≠ old.mapCache then s.setCache [] else s
  | .modbusOwner => ownerSet s
  | _ => s

/-- A value placed by its class (step 5 of R192). -/
def placeValue (k : Setting) (v : Nat) (s : State) : State :=
  if k.cls = .boundary ∧ s.ia.state ≠ .stopped then s.setSl { s.sl with pending := s.sl.pending.put v k }
  else
    let old := s.sl.settings
    ownerActs old k (s.setSl { s.sl with settings := k.place old v })

/-! ## SET (R192) -/

/-- The outcome of one item of a SET. -/
structure ItemResult where
  code : Byte
  status : ReplyStatus
  reason : Reason
  placed : Option Nat
  deriving DecidableEq, Repr

/-- An item refused. -/
def refusedItem (code : Byte) (r : Reason) : ItemResult := { code := code, status := .refused, reason := r, placed := none }

/-- The value placed for a setting: pending, or in force after the memory rule. -/
def placedValue (k : Setting) (v : Nat) (s : State) : Nat :=
  if k.cls = .boundary ∧ s.ia.state ≠ .stopped then v else k.read s.sl.settings

/-- Whether the memory rule changes a value when an item is placed (R100). -/
def memoryClamps (x : Settings) (k : Setting) (v : Nat) : Bool :=
  k.isCapture && memoryRule (k.write x v) != k.write x v

/-- One item of a SET is handled (R192). -/
def setItem (code : Byte) (v : Nat) (s : State) : ItemResult × State :=
  match Setting.ofCode code.toNat with
  | none => (refusedItem code .unknown, s)
  | some k =>
    if !k.shape.accepts v then (refusedItem code .invalid, s)
    else if !k.cls.admits s then (refusedItem code .wrongState, s)
    else
      let x := s.sl.settings
      let w := k.clamp x v
      let clamped := w != v || memoryClamps x k w
      let s := placeValue k w s
      ({ code := code, status := if clamped then .clamped else .ok, reason := .none, placed := some (placedValue k w s) },
        s)

/-- The items of a SET in list order, each seeing the effect of those before it (R192). -/
def setItems : List (Byte × BitVec 32) → State → List ItemResult × State
  | [], s => ([], s)
  | (code, v) :: rest, s =>
    let (r, s) := setItem code v.toNat s
    let (rs, s) := setItems rest s
    (r :: rs, s)

/-- An item in the reply (section 12.4). A refused item has no value placed (notes/assumptions/14.md). -/
def ItemResult.bytes (r : ItemResult) : List Byte :=
  [r.code] ++ leBytes 1 r.status.code ++ leBytes 1 r.reason.code ++ leOpt 4 r.placed

/-- The overall status and reason of a SET (R192). -/
def overallStatus (rs : List ItemResult) : ReplyStatus × Reason :=
  match rs.find? fun r => r.status == .refused with
  | some r => (.refused, r.reason)
  | none => if rs.any fun r => r.status == .clamped then (.clamped, .none) else (.ok, .none)

/-- SET (R192; notes/assumptions/32.md). -/
def orderSet (tag : Byte) (items : List (Byte × BitVec 32)) (s : State) : State :=
  let (rs, s) := setItems items s
  formReply
    { tag := tag, kind := 1, status := (overallStatus rs).1, reason := (overallStatus rs).2, cancelled := false,
      body := rs.flatMap ItemResult.bytes } s

/-! ## GET (R194) -/

/-- An item of a GET reply (section 12.4; notes/assumptions/14.md). The value of a known name of which none is pending is 0
beside its clear mark: DEDUCED (notes/assumptions/78.md). -/
def getItem (s : State) (code : Byte) : List Byte :=
  match Setting.ofCode code.toNat with
  | none => [code] ++ leBytes 1 Reason.unknown.code ++ absent 4 ++ leBool false ++ leBytes 4 0
  | some k =>
    let p := s.sl.pending.get k
    [code] ++ leBytes 1 0 ++ leBytes 4 (k.read s.sl.settings) ++ leBool p.isSome ++ leBytes 4 (p.getD 0)

/-- GET (R194). It changes no state but the reply queue (notes/assumptions/32.md). -/
def orderGet (tag : Byte) (codes : List Byte) (s : State) : State :=
  let known := codes.all fun c => (Setting.ofCode c.toNat).isSome
  formReply
    { tag := tag, kind := 2, status := if known then .ok else .refused, reason := if known then .none else .unknown,
      cancelled := false, body := codes.flatMap (getItem s) } s

end Sys2Proof.Machine
end

