-- ==== Sys2Proof/Machine/Status.lean ====
section
/-! DEFINITION. The body of the STATUS reply (R197, section 12.5), part by part. Items that are absent are written as R199
gives: all ones where that is no valid value of the item, and else 0, a mark of the same part carrying the absence
(notes/assumptions/15.md). -/

namespace Sys2Proof.Machine

/-- Attention (R195). -/
def statusAttention (s : State) : List Byte :=
  leBytes 4 (setMarks s).toNat ++ leBytes 4 s.sl.settings.attnEnable.toNat ++ leBool (summaryBit s)

/-- Identity (R197). -/
def statusIdentity : List Byte := leBytes 2 0x0640 ++ leBytes 1 1

/-- A boundary or none: number, position and kind. All ones is a boundary number, so the number of none is 0 and its kind, all
ones, is the mark (R199; notes/assumptions/15.md). -/
def boundaryBytes (b : Option Boundary) : List Byte :=
  leBytes 4 ((b.map Boundary.number).getD 0) ++ leOpt 8 (b.map Boundary.position) ++ leOpt 1 (b.map fun x => x.kind.code)

/-- The snapshot (R60). -/
def statusSnapshot (s : State) : List Byte :=
  let x := s.mu.snapshot
  boundaryBytes x.boundary ++ x.values.toList.flatMap (leOpt 4) ++ leOpt 4 x.frequency ++ leBytes 1 x.tracker.code

/-- The entry of one module (R16). -/
def ModMon.statusBytes (x : ModMon) : List Byte :=
  leBytes 1 x.state.code ++ leBytes 1 x.good ++ leBytes 1 x.bad ++ leBytes 2 x.lastAccepted ++
    leBytes 2 x.lastDuplicate ++ leBytes 2 x.lastStray ++ leBytes 1 x.lastVerdict.code

/-- The modules (R16). -/
def statusModules (s : State) : List Byte := s.mm.mods.toList.flatMap ModMon.statusBytes

/-- The tracker entry (R53). -/
def statusTracker (s : State) : List Byte :=
  let t := s.ct
  leBytes 1 t.state.code ++ leOpt 1 (t.reference.map Phase.code) ++ leOpt 1 (t.lastLocked.map Phase.code) ++
    leOpt 2 t.held ++ boundaryBytes t.last ++ leBytes 1 t.align ++ leOpt 1 (t.revertPhase.map Phase.code) ++
    leBytes 1 t.revertCount ++ leOpt 4 (t.timer.map (· / 256))

/-- The capture entry (R112): post end and listed triggers in COLLECTING, holdoff count in HOLDOFF. Section 12.5 gives the
post end 4 bytes; that they are its low 32 bits is DEDUCED (notes/assumptions/60.md). All ones is a post end, so outside
COLLECTING, which the state byte tells, it is 0 (R199; notes/assumptions/15.md). -/
def statusCapture (s : State) : List Byte :=
  let u := s.cu
  let h := if u.state = .collecting then u.hand else none
  leBytes 1 u.state.code ++ leBytes 4 (memoryInUse s) ++ leBytes 4 (pointsHeld u) ++ leBytes 4 ((h.map Capture.postEnd).getD 0) ++
    leOpt 1 (h.map fun x => x.triggers.length) ++ leOpt 4 (if u.state = .holdoff then some u.holdoff else none)

/-- The time entry (R118). All ones is a mark age, at which it saturates, so one that reads as none is 0 and the quality UNSET
beside it is the mark (R199, section 12.5; notes/assumptions/15.md). -/
def statusTime (s : State) : List Byte :=
  (nowStamp s).bytes ++ leBytes 1 s.tb.quality.code ++ leBytes 4 (s.tb.age.getD 0) ++ leSigned 4 (Int.tdiv s.tb.slew 2048) ++
    leBytes 1 s.sl.settings.timeSource.code

/-- The campaign entry (R134). With no interval open, which the state byte tells, the interval number is 0, since all ones is
one, and the start stamp all ones (R199; notes/assumptions/15.md). A number above 4 bytes, which no rule bounds, is a free value
in its field (R119; notes/assumptions/48.md). -/
def statusCampaign (s : State) : List Byte :=
  let a := s.ia
  leBytes 1 a.state.code ++ leBytes 2 a.number ++ leOpt 4 (if a.state = .arming then some a.armTimer else none) ++
    summaryField ((a.interval.map Interval.number).getD 0) ++ leOpt 4 (a.interval.map fun i => i.start.seconds) ++
    leOpt 4 (a.interval.map fun i => i.start.micros) ++ leBool a.stopTag.isSome ++ a.summary.bytes ++
    summaryField a.summary.missed

/-- The store entry (R158). MAP_MODE is the setting in force; N and the usable count are those of the last MOUNT or FORMAT,
also in UNMOUNTED (notes/assumptions/55.md). -/
def statusStore (s : State) : List Byte :=
  let w := s.sw
  let q := s.rq
  leBytes 1 s.sr.state.code ++ leBytes 1 ((s.sr.cause.map FaultCause.code).getD 0) ++
    leBytes 1 s.sl.settings.mapMode.code ++ leBytes 2 w.logical ++ leBytes 2 w.usable ++
    leOpt 2 (w.head.map PagePos.sector) ++ leOpt 1 (w.head.map PagePos.page) ++ leBytes 2 (w.tail.getD 0) ++
    leBytes 4 (if w.tail.isSome then w.tailSeq else 0) ++
    leBytes 1 (bits [w.tail.isNone, w.serial == .exhausted, w.stopMark.isSome, q.next == .exhausted,
      q.next == .undefined]) ++
    leBytes 4 w.serial.field ++ leBytes 4 w.watermark ++ leBytes 4 (w.stopMark.getD 0) ++ leBytes 1 w.streak ++
    leBytes 1 w.buffer.length ++ leBytes 1 q.entries.length ++ leBytes 4 q.next.field ++ leBytes 2 q.intervalLoss ++
    leBytes 4 q.campaignLoss ++ leBytes 4 q.totalLoss ++ leBytes 2 q.notCreated

/-- Whether a readback is LOCATING (0) or SERVING (1). -/
def ReadPhase.code : ReadPhase → Nat
  | .settle => 0
  | .lastSector _ _ => 0
  | .sectors _ _ _ _ => 0
  | .pages _ _ _ _ => 0
  | .stepBack _ => 0
  | .walk _ => 1
  | .parse _ _ _ => 1

/-- The code of a port holder (section 12.5). -/
def holderCode : Option Requester → Nat
  | none => 0
  | some .writer => 1
  | some .reader => 2

/-- The number of the kind of an operation; its code in STATUS is free (notes/assumptions/7.md). -/
def opNumber : PortOp → Nat
  | .readMap _ => 1
  | .readHeader _ _ => 2
  | .readPage _ _ => 3
  | .program _ _ _ => 4
  | .retireMap _ => 5
  | .loadMap _ _ => 6
  | .erase _ => 7
  | .eraseMap => 8

/-- The code of the operation in flight, all ones for none (R159, R199). -/
def opCode (f : Option InFlight) : List Byte :=
  match f with
  | some f => [Config.portOpCode (opNumber f.op)]
  | none => absent 1

/-- The readback part (R159). With no readback held the phase is the presence mark of the tag and the sequences, and the
counts, which never reach 65,535, are all ones (R199; notes/assumptions/15.md). -/
def statusReadback (s : State) : List Byte :=
  let r := s.sr
  let o := r.queue.head?
  let c := r.current
  let outcome (f : Outcomes → Nat) := leOpt 2 (c.map fun x => f x.outcomes)
  leBytes 1 r.queue.length ++ [(o.map ReadOrder.tag).getD 0] ++ leOpt 1 (c.map fun x => x.phase.code) ++
    leBytes 4 ((o.map ReadOrder.first).getD 0) ++ leOpt 2 (o.map ReadOrder.count) ++
    leBytes 4 ((c.map Readback.wanted).getD 0) ++ outcome Outcomes.served ++ outcome Outcomes.damaged ++
    outcome Outcomes.gone ++ outcome Outcomes.pending ++ outcome Outcomes.torn ++ outcome Outcomes.absent ++
    leBytes 1 (holderCode r.holder) ++ leBytes 1 r.tenure ++ opCode r.flight

/-- A fetch queue entry in STATUS. -/
def FetchEntry.statusBytes (e : FetchEntry) : List Byte :=
  leBytes 1 e.module.val ++ leBytes 1 (bits [e.forced, e.attempt, e.tag.isSome]) ++ [e.tag.getD 0]

/-- The place of a fetch queue entry that is absent: no module (R199), no mark, and with no tag the tag 0 (section 12.5). -/
def absentFetch : List Byte := absent 1 ++ [0, 0]

/-- The code of a transaction (section 12.5). -/
def transactionCode : Option Transaction → Nat
  | none => 0
  | some (.fetch _ _) => 1
  | some (.read _ _ _ _ _) => 2
  | some (.write _ _ _ _ _) => 3

/-- The module bus entry (R176). -/
def statusBus (s : State) : List Byte :=
  let b := s.mb
  leBytes 1 b.state.code ++ leBytes 1 b.owner.code ++ leBytes 1 s.sl.settings.modbusOwner.code ++
    leBytes 1 b.queue.length ++ (b.queue.flatMap FetchEntry.statusBytes ++ (List.replicate 4 absentFetch).flatten).take 12 ++
    leBytes 1 (transactionCode b.transaction) ++ leBool b.heldAbort.isSome ++
    b.lastFetch.toList.flatMap fun o => leBytes 1 o.code

/-- The link part (R197). The link state is 1 for UP and 0 for DOWN (notes/assumptions/59.md). The used places are those of
the reply queue before this STATUS reply enters it, which is DEDUCED (notes/assumptions/63.md). -/
def statusLink (s : State) : List Byte :=
  let l := s.sl
  leBool l.linkUp ++ leBytes 1 l.orders.length ++ leBytes 1 l.replies.length ++ leBytes 1 l.reserved ++
    leBool l.storeOrder.isSome ++ leBytes 1 s.cc.buffer.length ++ leBool l.live.isSome ++
    leBytes 4 ((l.live.map Live.sequence).getD 0) ++ leBool l.settings.hold ++ leBytes 1 (pendingMask s).toNat

/-- The STATUS reply body (R197). -/
def statusBody (s : State) : List Byte :=
  statusAttention s ++ statusIdentity ++ statusSnapshot s ++ statusModules s ++ statusTracker s ++ statusCapture s ++
    statusTime s ++ statusCampaign s ++ statusStore s ++ statusReadback s ++ statusBus s ++ statusLink s

/-- STATUS (R197): the body is filled before the reply takes its place, which the used places do not count
(notes/assumptions/63.md). -/
def orderStatus (tag : Byte) (s : State) : State := answerOk tag 10 (statusBody s) s

/-- ACK (R196). -/
def orderAck (tag : Byte) (mask : BitVec 32) (s : State) : State :=
  if 2097152 ≤ mask.toNat then refuse tag 9 .invalid s
  else
    let m : BitVec 21 := mask.setWidth 21
    let s := s.setSl { s.sl with latched := s.sl.latched &&& ~~~m }
    answerOk tag 9 (leBytes 4 (setMarks s &&& m).toNat) s

end Sys2Proof.Machine
end

