-- ==== Sys2Proof/WellFormed.lean ====
section
/-! DEFINITION. Which commands fit the layouts of section 12.4: list counts in their ranges, codes inside their lists
(R199), entries inside their fields. A command that does not fit is refused INVALID at its dispatch (R187); it is never
outside the model. -/

namespace Sys2Proof

/-- A count within a range. -/
def countIn (lo hi n : Nat) : Bool := decide (lo ≤ n ∧ n ≤ hi)

/-- The codes of a CHANNEL entry lie in their lists: eight roles, two slots, a yes 1 or no 0 (notes/assumptions/70.md). -/
def ChannelArg.fits (a : ChannelArg) : Bool :=
  decide (a.role.toNat ≤ 7) && decide (a.slot.toNat ≤ 1) && decide (a.enabled.toNat ≤ 1)

/-- The mode of a PASS entry is one of the four. -/
def PassArg.fits (a : PassArg) : Bool := decide (a.mode.toNat ≤ 3)

/-- A GRID list is one of the three, its count fits a byte, and its entries fit their width: 4 bytes for durations, else
2. -/
def GridArg.fits (a : GridArg) : Bool :=
  decide (a.list.toNat ≤ 2) && countIn 0 255 a.entries.length &&
    (a.list == 2 || a.entries.all fun e => decide (e.toNat < 65536))

/-- Whether a command fits its layout. -/
def Instr.fits : Instr → Bool
  | .orderUnknownKind _ kind args => (kind == 0 || decide (21 < kind.toNat)) && countIn 0 1022 args.length
  | .set _ items => countIn 1 16 items.length
  | .get _ codes => countIn 1 16 codes.length
  | .loadTableChannel _ entries => countIn 1 8 entries.length && entries.all ChannelArg.fits
  | .loadTablePass _ entries => countIn 1 4 entries.length && entries.all PassArg.fits
  | .loadTableLimit _ entries => countIn 1 4 entries.length
  | .loadTableGrid _ lists => countIn 1 3 lists.length && lists.all GridArg.fits
  | .mapLoad _ _ sectors => countIn 1 64 sectors.length
  | .moduleWrite _ _ _ data => countIn 1 16 data.length
  | _ => true

/-- Whether a command is an order of the station processor (section 12.4). -/
def Instr.isOrder : Instr → Bool
  | .orderUnknownKind _ _ _ | .set _ _ | .get _ _ | .loadTableChannel _ _ | .loadTablePass _ _ | .loadTableLimit _ _
  | .loadTableGrid _ _ | .readTableChannel _ | .readTablePass _ | .readTableLimit _ | .readTableGrid _ | .start _
  | .stop _ | .restart _ | .capture _ | .ack _ _ | .status _ | .mount _ | .format _ | .mapLoad _ _ _ | .unmount _
  | .release _ _ | .readRecords _ _ _ | .cancelRead _ _ | .moduleRead _ _ _ _ | .moduleWrite _ _ _ _
  | .moduleFetch _ _ | .moduleAbort _ => true
  | _ => false

end Sys2Proof
end

