-- ==== Sys2Proof/Machine/Operands.lean ====
section
/-! DEFINITION. The argument layouts of orders (section 12.4): each order written as its arguments, and arguments read back
as the order they spell or the reason of their refusal (R187, R199). -/

namespace Sys2Proof.Machine

/-! ## Orders as arguments -/

/-- The bytes of one CHANNEL entry. -/
def ChannelArg.bytes (a : ChannelArg) : List Byte :=
  [a.role, a.module, a.slot, a.enabled] ++ leBytes 2 a.gain.toNat ++ leBytes 2 a.offset.toNat

/-- The bytes of one PASS entry. -/
def PassArg.bytes (a : PassArg) : List Byte := [a.module, a.mode, a.divisor]

/-- The bytes of one LIMIT entry. -/
def LimitArg.bytes (a : LimitArg) : List Byte :=
  [a.index] ++ leBytes 2 a.dipStart.toNat ++ leBytes 2 a.intrStart.toNat ++ leBytes 2 a.swellStart.toNat ++
    leBytes 2 a.hyst.toNat ++ leBytes 2 a.bandLow.toNat ++ leBytes 2 a.bandHigh.toNat

/-- The entry width of a GRID list: 4 bytes for durations, else 2. -/
def gridWidth (list : Byte) : Nat := if list = 2 then 4 else 2

/-- The bytes of one GRID list. -/
def GridArg.bytes (a : GridArg) : List Byte :=
  [a.list] ++ leBytes 1 a.entries.length ++ a.entries.flatMap fun e => leBytes (gridWidth a.list) e.toNat

/-- A count byte before the bytes of that many things. -/
def counted (n : Nat) (bs : List Byte) : List Byte := leBytes 1 n ++ bs

/-- The tag, kind and arguments of an order; none for a command that is no order. GRID lists with an entry wider than its field
spell no arguments: such an order is refused INVALID at its dispatch, as an entry outside its range is (R78). -/
def orderOf : Instr → Option Order
  | .orderUnknownKind tag kind args => some ⟨tag, kind, args, true⟩
  | .set tag items =>
    some ⟨tag, 1, counted items.length (items.flatMap fun i => [i.1] ++ leBytes 4 i.2.toNat), true⟩
  | .get tag codes => some ⟨tag, 2, counted codes.length codes, true⟩
  | .loadTableChannel tag es => some ⟨tag, 3, [0] ++ counted es.length (es.flatMap ChannelArg.bytes), true⟩
  | .loadTablePass tag es => some ⟨tag, 3, [1] ++ counted es.length (es.flatMap PassArg.bytes), true⟩
  | .loadTableLimit tag es => some ⟨tag, 3, [2] ++ counted es.length (es.flatMap LimitArg.bytes), true⟩
  | .loadTableGrid tag ls =>
    some ⟨tag, 3, [3] ++ counted ls.length (ls.flatMap GridArg.bytes), ls.all GridArg.fits⟩
  | .readTableChannel tag => some ⟨tag, 4, [0], true⟩
  | .readTablePass tag => some ⟨tag, 4, [1], true⟩
  | .readTableLimit tag => some ⟨tag, 4, [2], true⟩
  | .readTableGrid tag => some ⟨tag, 4, [3], true⟩
  | .start tag => some ⟨tag, 5, [], true⟩
  | .stop tag => some ⟨tag, 6, [], true⟩
  | .restart tag => some ⟨tag, 7, [], true⟩
  | .capture tag => some ⟨tag, 8, [], true⟩
  | .ack tag mask => some ⟨tag, 9, leBytes 4 mask.toNat, true⟩
  | .status tag => some ⟨tag, 10, [], true⟩
  | .mount tag => some ⟨tag, 11, [], true⟩
  | .format tag => some ⟨tag, 12, [], true⟩
  | .mapLoad tag start sectors =>
    some ⟨tag, 13, leBytes 2 start.toNat ++ counted sectors.length (sectors.flatMap fun p => leBytes 2 p.toNat), true⟩
  | .unmount tag => some ⟨tag, 14, [], true⟩
  | .release tag w => some ⟨tag, 15, leBytes 4 w.toNat, true⟩
  | .readRecords tag first count => some ⟨tag, 16, leBytes 4 first.toNat ++ leBytes 2 count.toNat, true⟩
  | .cancelRead tag target => some ⟨tag, 17, [target], true⟩
  | .moduleRead tag address offset count => some ⟨tag, 18, [address, offset, count], true⟩
  | .moduleWrite tag address offset data => some ⟨tag, 19, [address, offset] ++ counted data.length data, true⟩
  | .moduleFetch tag module => some ⟨tag, 20, [module], true⟩
  | .moduleAbort tag => some ⟨tag, 21, [], true⟩
  | _ => none

/-! ## Arguments as orders -/

/-- Bytes cut into pieces of a width; none when they do not come out even. -/
def pieces (w : Nat) : Nat → List Byte → Option (List (List Byte))
  | 0, bs => if bs = [] then some [] else none
  | n + 1, bs => if bs.length < w then none else (pieces w n (bs.drop w)).map fun l => bs.take w :: l

/-- The number of a field as a vector of its width. -/
def fieldVec (w : Nat) (bs : List Byte) (offset n : Nat) : BitVec w := BitVec.ofNat w (fieldNat bs offset n)

/-- A counted list of fixed width entries whose count lies from 1 to a most. -/
def countedPieces (w most : Nat) (bs : List Byte) : Option (List (List Byte)) :=
  match bs with
  | [] => none
  | n :: rest => if 1 ≤ n.toNat ∧ n.toNat ≤ most then pieces w n.toNat rest else none

/-- A byte of a list, 0 beyond its end. -/
def byteAt (bs : List Byte) (i : Nat) : Byte := (bs.drop i).headD 0

/-- One CHANNEL entry; its role, slot and enabled codes must lie in their lists (R199). Section 12.4 gives no codes for
enabled: 0 for no and 1 for yes, any other INVALID, is a DESIGN CHOICE (notes/assumptions/70.md). -/
def readChannelArg (bs : List Byte) : Option ChannelArg :=
  if (byteAt bs 0).toNat ≤ 7 ∧ (byteAt bs 2).toNat ≤ 1 ∧ (byteAt bs 3).toNat ≤ 1 then
    some { role := byteAt bs 0, module := byteAt bs 1, slot := byteAt bs 2, enabled := byteAt bs 3,
           gain := fieldVec 16 bs 4 2, offset := fieldVec 16 bs 6 2 }
  else none

/-- One PASS entry; its mode must lie in its list (R199). -/
def readPassArg (bs : List Byte) : Option PassArg :=
  if (byteAt bs 1).toNat ≤ 3 then some { module := byteAt bs 0, mode := byteAt bs 1, divisor := byteAt bs 2 } else none

/-- One LIMIT entry. -/
def readLimitArg (bs : List Byte) : LimitArg :=
  { index := byteAt bs 0, dipStart := fieldVec 16 bs 1 2, intrStart := fieldVec 16 bs 3 2,
    swellStart := fieldVec 16 bs 5 2, hyst := fieldVec 16 bs 7 2, bandLow := fieldVec 16 bs 9 2,
    bandHigh := fieldVec 16 bs 11 2 }

/-- GRID lists; a list code must lie in its list (R199). -/
def readGridArgs : Nat → List Byte → Option (List GridArg)
  | 0, bs => if bs = [] then some [] else none
  | n + 1, list :: count :: rest =>
    let w := gridWidth list * count.toNat
    if list.toNat ≤ 2 ∧ w ≤ rest.length then
      match pieces (gridWidth list) count.toNat (rest.take w), readGridArgs n (rest.drop w) with
      | some es, some ls => some ({ list := list, entries := es.map fun e => BitVec.ofNat 32 (leNat e) } :: ls)
      | _, _ => none
    else none
  | _ + 1, _ => none

/-- Options all present. -/
def allSome {α : Type} : List (Option α) → Option (List α)
  | [] => some []
  | some a :: t => (allSome t).map fun l => a :: l
  | none :: _ => none

/-- The order that LOAD TABLE arguments spell; none when malformed. -/
def readLoadTable (tag : Byte) (table : Byte) (rest : List Byte) : Option Instr :=
  if table = 0 then
    ((countedPieces 8 8 rest).bind fun l => allSome (l.map readChannelArg)).map (.loadTableChannel tag)
  else if table = 1 then
    ((countedPieces 3 4 rest).bind fun l => allSome (l.map readPassArg)).map (.loadTablePass tag)
  else if table = 2 then (countedPieces 13 4 rest).map fun l => .loadTableLimit tag (l.map readLimitArg)
  else
    match rest with
    | n :: bs =>
      if 1 ≤ n.toNat ∧ n.toNat ≤ 3 then (readGridArgs n.toNat bs).map (.loadTableGrid tag) else none
    | [] => none

/-- The order that READ TABLE arguments spell. -/
def readReadTable (tag table : Byte) : Instr :=
  if table = 0 then .readTableChannel tag
  else if table = 1 then .readTablePass tag
  else if table = 2 then .readTableLimit tag
  else .readTableGrid tag

/-- An order of a kind without arguments. -/
def noArgs (i : Instr) (args : List Byte) : Option Instr := if args = [] then some i else none

/-- An order of a kind whose arguments have one length. -/
def fixedArgs (n : Nat) (i : Instr) (args : List Byte) : Option Instr := if args.length = n then some i else none

/-- The order that arguments of a known kind spell; none when malformed (R187, R199). LOAD TABLE and READ TABLE stand
apart. -/
def readArgs (tag kind : Byte) (args : List Byte) : Option Instr :=
  match kind.toNat with
  | 1 =>
    (countedPieces 5 16 args).map fun l => .set tag (l.map fun b => (byteAt b 0, fieldVec 32 b 1 4))
  | 2 => (countedPieces 1 16 args).map fun l => .get tag (l.map fun b => byteAt b 0)
  | 5 => noArgs (.start tag) args
  | 6 => noArgs (.stop tag) args
  | 7 => noArgs (.restart tag) args
  | 8 => noArgs (.capture tag) args
  | 9 => fixedArgs 4 (.ack tag (fieldVec 32 args 0 4)) args
  | 10 => noArgs (.status tag) args
  | 11 => noArgs (.mount tag) args
  | 12 => noArgs (.format tag) args
  | 13 =>
    (countedPieces 2 64 (args.drop 2)).map fun l =>
      .mapLoad tag (fieldVec 16 args 0 2) (l.map fun b => fieldVec 16 b 0 2)
  | 14 => noArgs (.unmount tag) args
  | 15 => fixedArgs 4 (.release tag (fieldVec 32 args 0 4)) args
  | 16 => fixedArgs 6 (.readRecords tag (fieldVec 32 args 0 4) (fieldVec 16 args 4 2)) args
  | 17 => fixedArgs 1 (.cancelRead tag (byteAt args 0)) args
  | 18 => fixedArgs 3 (.moduleRead tag (byteAt args 0) (byteAt args 1) (byteAt args 2)) args
  | 19 =>
    (countedPieces 1 16 (args.drop 2)).map fun l =>
      .moduleWrite tag (byteAt args 0) (byteAt args 1) (l.map fun b => byteAt b 0)
  | 20 => fixedArgs 1 (.moduleFetch tag (byteAt args 0)) args
  | 21 => noArgs (.moduleAbort tag) args
  | _ => none

/-- The form of an order judged at its dispatch (R187): the order it spells, or the reason of its refusal. A table name
outside the four is UNKNOWN (R194). -/
def readOrder (o : Order) : Reason ⊕ Instr :=
  let orInvalid : Option Instr → Reason ⊕ Instr := fun
    | some i => .inr i
    | none => .inl .invalid
  if o.whole = false then .inl .invalid
  else if o.kind.toNat = 0 ∨ 21 < o.kind.toNat then .inl .unknown
  else if o.kind = 3 then
    match o.args with
    | table :: rest =>
      if rest = [] then .inl .invalid
      else if 3 < table.toNat then .inl .unknown
      else orInvalid (readLoadTable o.tag table rest)
    | [] => .inl .invalid
  else if o.kind = 4 then
    match o.args with
    | [table] => if 3 < table.toNat then .inl .unknown else .inr (readReadTable o.tag table)
    | _ => .inl .invalid
  else orInvalid (readArgs o.tag o.kind o.args)

end Sys2Proof.Machine
end

