-- ==== Sys2Proof/Machine/Link.lean ====
section
/-! DEFINITION. The Station Link Interface (chapter 11): orders and their dispatch (R186, R187), inbound frames and the link
state (R185), live emission (R190) and the outbound arbiter (R189, R191). -/

namespace Sys2Proof.Machine

/-! ## Dispatch (R187) -/

/-- The body of an order carried out by its owner. -/
def carryOut (i : Instr) (s : State) : State :=
  match i with
  | .set tag items => orderSet tag items s
  | .get tag codes => orderGet tag codes s
  | .loadTableChannel tag entries => orderLoadChannel tag entries s
  | .loadTablePass tag entries => orderLoadPass tag entries s
  | .loadTableLimit tag entries => orderLoadLimit tag entries s
  | .loadTableGrid tag lists => orderLoadGrid tag lists s
  | .readTableChannel tag => answerOk tag 4 (channelTableBody s) s
  | .readTablePass tag => answerOk tag 4 (passTableBody s) s
  | .readTableLimit tag => answerOk tag 4 (limitTableBody s) s
  | .readTableGrid tag => answerOk tag 4 (gridTableBody s) s
  | .start tag => orderStart tag s
  | .stop tag => orderStop tag s
  | .restart tag => orderRestart tag s
  | .capture tag => orderCapture tag s
  | .ack tag mask => orderAck tag mask s
  | .status tag => orderStatus tag s
  | .mount tag => orderMount tag s
  | .format tag => orderFormat tag s
  | .mapLoad tag start sectors => orderMapLoad tag start.toNat (sectors.map BitVec.toNat) s
  | .unmount tag => orderUnmount tag s
  | .release tag w => orderRelease tag w.toNat s
  | .readRecords tag first count => orderReadRecords tag first.toNat count.toNat s
  | .cancelRead tag target => orderCancelRead tag target s
  | .moduleRead tag address offset count => orderModuleRead tag address.toNat offset.toNat count.toNat s
  | .moduleWrite tag address offset data => orderModuleWrite tag address.toNat offset.toNat data s
  | .moduleFetch tag module => orderModuleFetch tag module.toNat s
  | .moduleAbort tag => orderModuleAbort tag s
  | _ => s

/-- Whether an order is a long store order (R187). -/
def Instr.isLongStore : Instr → Bool
  | .mount _ | .format _ | .mapLoad _ _ _ | .unmount _ => true
  | _ => false

/-- An order is judged and carried out or refused in its dispatch event (R187). -/
def dispatch (o : Order) (s : State) : State :=
  match readOrder o with
  | .inl r => refuse o.tag o.kind.toNat r s
  | .inr i => if Instr.isLongStore i && s.sl.storeOrder.isSome then refuse o.tag o.kind.toNat .busy s else carryOut i s

/-- Whether the reply queue has the room that a dispatch asks for (R187). -/
def mayDispatch (s : State) : Bool := decide (2 ≤ freePlaces s)

/-- The front order of the buffer is dispatched, if there is one and the reply queue has room (R187). -/
def dispatchFront (s : State) : State :=
  match s.sl.orders with
  | [] => s
  | o :: rest => if mayDispatch s then dispatch o (s.setSl { s.sl with orders := rest }) else s

/-- An order arrives at the order buffer (R186). -/
def submitOrder (o : Order) (s : State) : State :=
  if s.sl.orders.length < 4 then dispatchFront (s.setSl { s.sl with orders := s.sl.orders ++ [o] })
  else
    let s := latch .orderOverflow s
    if 1 ≤ freePlaces s then refuse o.tag o.kind.toNat .full s else s

/-- A command that is an order arrives as one; any other changes nothing here (notes/assumptions/20.md). -/
def submit (i : Instr) (s : State) : State :=
  match orderOf i with
  | some o => submitOrder o s
  | none => s

/-! ## Inbound frames (R185) -/

/-- What a link frame received whole is. -/
inductive Inbound where
  | order (payload : List Byte)
  | mark (payload : List Byte)
  | discard
  deriving DecidableEq, Repr

/-- The check of a link frame: its length field, its CRC-32 and its kind, in the low four bits of byte 0 (R185,
section 12.3). -/
def readLinkFrame (bs : List Byte) : Inbound :=
  let n := fieldNat bs 1 2
  let kind := ((bs.headD 0).toNat) % 16
  if bs.length ≠ 7 + n ∨ 1024 < n ∨ bs.drop (3 + n) ≠ crc32Bytes (bs.take (3 + n)) then .discard
  else if kind = 1 then .order (field bs 3 n)
  else if kind = 2 then .mark (field bs 3 n)
  else .discard

/-- An ORDER payload taken apart; one without a tag or a kind has free values for them (notes/assumptions/8.md). -/
def orderOfPayload (n : Nat) (payload : List Byte) : Order :=
  { tag := payload.headD (Config.missingByte 0 n)
    kind := (payload.drop 1).headD (Config.missingByte 1 n)
    args := payload.drop 2
    whole := decide (2 ≤ payload.length) }

/-- An ORDER that checks arrives (R186). -/
def orderPayload (payload : List Byte) (s : State) : State :=
  if 2 ≤ payload.length then submitOrder (orderOfPayload 0 payload) s
  else
    let (n, s) := draw s
    submitOrder (orderOfPayload n payload) s

/-- A whole frame of kind ORDER arrives while the link is UP; one that does not check is discarded (R185). A MARK is
not this command (notes/assumptions/20.md). -/
def orderFrame (bs : List Byte) (s : State) : State :=
  if s.sl.linkUp then
    match readLinkFrame bs with
    | .order payload => orderPayload payload s
    | .mark _ => s
    | .discard => latch .linkError s
  else s

/-- A whole frame of kind MARK arrives while the link is UP (R185, R115). An ORDER is not this command. -/
def markFrame (bs : List Byte) (periods : Nat) (s : State) : State :=
  if s.sl.linkUp then
    match readLinkFrame bs with
    | .mark payload => markArrives payload periods s
    | .order _ => s
    | .discard => latch .linkError s
  else s

/-- A whole frame that does not check arrives while the link is UP (R185). One that checks is not this command
(notes/assumptions/20.md). -/
def discardedFrame (bs : List Byte) (s : State) : State :=
  if s.sl.linkUp && readLinkFrame bs == .discard then latch .linkError s else s

/-! ## Live emission (R190) -/

/-- The entry of a sequence. -/
def entryOf (s : State) (sequence : Nat) : Option Entry := s.rq.entries.find? fun e => e.record.sequence == sequence

/-- The emission of a record whose entry has left the queue stops, and a free emitter takes the first entry, in queue
order the one of lowest sequence, that has no emitted mark (R190). -/
def liveTake (s : State) : State :=
  let live := s.sl.live.filter fun l => (entryOf s l.sequence).isSome
  let next :=
    match live with
    | some l => some l
    | none =>
      if s.sl.linkUp && s.sl.settings.liveRecords then
        (s.rq.entries.find? fun e => !e.emitted).map fun e =>
          ({ sequence := e.record.sequence, index := 0, sending := false } : Live)
      else none
  s.setSl { s.sl with live := next }

/-- Fragment i of a record, and whether it is the last (R190). -/
def liveFragment (bytes : List Byte) (index : Nat) : List Byte × Bool :=
  ((bytes.drop (index * 1000)).take 1000, decide (bytes.length ≤ (index + 1) * 1000))

/-! ## The outbound arbiter (R189, R191) -/

/-- The four categories in the order of R189. -/
inductive Category where
  | reply | live | readback | sample
  deriving DecidableEq, Repr

/-- Whether a category has something ready (R189). -/
def isReady (s : State) : Category → Bool
  | .reply => !s.sl.replies.isEmpty
  | .live => match s.sl.live with
    | some l => !l.sending
    | none => false
  | .readback => s.sr.piece.isSome
  | .sample => !s.cc.buffer.isEmpty

/-- The categories with something ready, first in priority first. -/
def readyCategories (s : State) : List Category := [.reply, .live, .readback, .sample].filter (isReady s)

/-- A frame's transmission begins, with the summary bit and campaign state now in force (R185, R189). -/
def beginFrame (kind : TxKind) (frameKind : Nat) (payload : List Byte) (s : State) : State :=
  s.setSl { s.sl with
    tx := some { kind := kind, bytes := linkFrame frameKind (summaryBit s) s.ia.state payload } }

/-- The front reply leaves the queue and is sent (R188). -/
def sendReply (s : State) : State :=
  match s.sl.replies with
  | [] => s
  | r :: rest => beginFrame .reply 8 r.bytes (s.setSl { s.sl with replies := rest })

/-- The next live fragment is sent (R190). -/
def sendLive (s : State) : State :=
  match s.sl.live with
  | none => s
  | some l =>
    match entryOf s l.sequence with
    | none => s
    | some e =>
      let (bytes, last) := liveFragment (e.record.bytes (capturePoints s)) l.index
      beginFrame (.live l.sequence last) 9 (fragmentBytes false last 0 0 l.sequence l.index bytes)
        (s.setSl { s.sl with live := some { l with sending := true } })

/-- The readback piece held is taken from the reader and sent (R191). -/
def sendPiece (s : State) : State :=
  match s.sr.piece with
  | none => s
  | some p =>
    beginFrame .readback 9 (fragmentBytes true p.last (if p.last then p.mark.code else 0) p.tag p.sequence p.index p.bytes)
      (s.setSr { s.sr with piece := none })

/-- Every frame of the sample buffer is sent in one SAMPLE frame (R32, R191). -/
def sendSamples (s : State) : State :=
  beginFrame .sample 10 (leBytes 1 s.cc.buffer.length ++ s.cc.buffer.flatMap FwdFrame.bytes)
    (s.setCc { s.cc with buffer := [] })

/-- What a category has ready is sent. -/
def send (c : Category) (s : State) : State :=
  match c with
  | .reply => sendReply s
  | .live => sendLive s
  | .readback => sendPiece s
  | .sample => sendSamples s

/-- The choice at the end of a frame and at link-up: the first category that has something ready (R189, R185). -/
def sendFirst (s : State) : State :=
  let s := liveTake s
  match readyCategories s with
  | [] => s
  | c :: _ => send c s

/-- The choice at an idle transmitter while the link is UP: of things ready together either may be first (R189,
notes/assumptions/2.md). -/
def txSettle (s : State) : State :=
  let s := liveTake s
  if s.sl.linkUp && s.sl.tx.isNone then
    match readyCategories s with
    | [] => s
    | [c] => send c s
    | c :: more =>
      let (n, s) := draw s
      send (((c :: more).drop (Config.pick n % (c :: more).length)).headD c) s
  else s

/-- A live fragment has been sent whole (R190): the last one completes the record. -/
def liveSent (sequence : Nat) (last : Bool) (s : State) : State :=
  match s.sl.live with
  | some l =>
    if l.sequence = sequence ∧ l.sending = true then
      if last then markEmitted sequence (s.setSl { s.sl with live := none })
      else s.setSl { s.sl with live := some { l with index := l.index + 1, sending := false } }
    else s
  | none => s

/-- The frame in transmission has been sent whole, and the arbiter chooses (R189). -/
def transmitEnd (s : State) : State :=
  match s.sl.tx with
  | none => s
  | some f =>
    let s := s.setSl { s.sl with tx := none }
    let s := match f.kind with
      | .live sequence last => liveSent sequence last s
      | .reply | .readback | .sample => s
    sendFirst s

/-! ## Link up and link down (R185) -/

/-- The link-up report (R185): the link goes from DOWN to UP. A report while it is UP changes nothing
(notes/assumptions/62.md). -/
def linkRises (s : State) : State := if s.sl.linkUp then s else sendFirst (s.setSl { s.sl with linkUp := true })

/-- The link-down report (R185, R188, R172): the link goes from UP to DOWN. A report while it is DOWN changes nothing
(notes/assumptions/62.md). -/
def linkFalls (s : State) : State :=
  if s.sl.linkUp then
    let s := s.setSl { s.sl with linkUp := false, replies := [], live := none, tx := none }
    let s := s.setCc { s.cc with buffer := [] }
    endReadbacksLinkDown (markAllEmitted s)
  else s

end Sys2Proof.Machine
end

