-- ==== Sys2Proof/Machine/Settle.lean ====
section
/-! DEFINITION. What follows an event in the same step: the fetch-start check (R179), the store's work and grants (R173), the
transmitter (R189) and the dispatch of the orders that wait (R187). -/

namespace Sys2Proof.Machine

/-- The bus, the store and the transmitter settle; a readback piece taken lets the reader go on. -/
def quiesce (s : State) : State := storeSettle (txSettle (storeSettle (busSettle s)))

/-- The orders that wait are dispatched one at a time while the reply queue has room (R187). -/
def drain : Nat → State → State
  | 0, s => s
  | n + 1, s => if !s.sl.orders.isEmpty && mayDispatch s then drain n (quiesce (dispatchFront s)) else s

/-- Everything that an event brings about in its step (notes/assumptions/43.md). -/
def settle (s : State) : State :=
  let s := quiesce s
  drain s.sl.orders.length s

end Sys2Proof.Machine
end

