-- ==== Sys2Proof/Machine/Issue.lean ====
section
/-! DEFINITION. The strobe issue (R2, R6) and everything that comes about at it: the sample path (R21, R30, R35, R56, R101),
the monitor window (R9), the second rollover (R113), the arm timer (R128) and the flush age (R147); and when each of the
time-driven commands is due at the next strobe issue. -/

namespace Sys2Proof.Machine

/-! ## The order of the parts -/

/-- The five parts of a strobe issue. -/
def allParts : List IssuePart := [.sample, .monitor, .rollover, .arm, .flush]

/-- A list with each member once, the first place kept. -/
def onceEach : List IssuePart → List IssuePart
  | [] => []
  | p :: t => p :: (onceEach t).filter fun q => q != p

/-- A choice of order with each part once: parts not named come last (notes/assumptions/2.md). -/
def issueParts (chosen : List IssuePart) : List IssuePart :=
  onceEach chosen ++ allParts.filter fun p => !chosen.contains p

/-! ## The parts -/

/-- The index of the strobe to be issued next, 48 bits (R1; notes/assumptions/4.md). -/
def nextStrobe (s : State) : Nat := (s.lr.strobe + 1) % 281474976710656

/-- The sample set that the next strobe issue hands on, if the fourth strobe before it has been issued (R6). -/
def setAtIssue (s : State) : Option Nat := if 4 ≤ nextStrobe s then some (nextStrobe s - 4) else none

/-- The sample path from the closed slots: the tracker takes the conditioned set and places its boundary, the Magnitude
Unit adds the set, the Capture Unit takes it, and the forwarder takes the set before it (section 3.2, R35, R56, R101,
R30). R30 lets what starts or ends a collection here come before or after the forwarder's taking, so the forwarder judges
DURING_CAPTURE on the Capture Unit's state before a start, after it, or after a close, as a free value chooses
(notes/assumptions/2.md). -/
def takeSet (k : Nat) (frames : PerModule (Option LaneFrame)) (s : State) : State :=
  let c := condition s.cc.table k frames
  let tracked := addSet c (trackTake c s)
  let (n, taken) := draw (captureTake c tracked)
  let judged := if Config.pick n % 3 = 0 then s else if Config.pick n % 3 = 1 then tracked else taken
  forwardHeld (isCollecting judged) c taken

/-- The flush age at a strobe issue (R147). -/
def flushAge (s : State) : State :=
  if s.sw.buffer ≠ [] ∧ s.sl.settings.flushAge * 12800 ≤ s.lr.strobe - s.sw.oldest then
    s.setSw { s.sw with flushDue := true }
  else s

/-- One part of a strobe issue; `set` is the sample set closed with its frames, and `rolled` tells a second rollover. -/
def issuePart (set : Option (Nat × PerModule (Option LaneFrame))) (rolled : Bool) (s : State) (p : IssuePart) : State :=
  match p with
  | .sample =>
    match set with
    | some (k, frames) => takeSet k frames s
    | none => s
  | .monitor => monitorIssue s
  | .rollover => if rolled then rolloverReport s else s
  | .arm => armIssue s
  | .flush => flushAge s

/-! ## The strobe issue -/

/-- The slots after the issue of the next strobe (R2). -/
def issueLane (s : State) : State :=
  let j := nextStrobe s
  s.setLr
    { strobe := j
      slots := PerModule.of fun m => issueSlots j (s.mm.mods.get m).state (s.lr.slots.get m) }

/-- A retry hold one strobe period on; its end is a command of its own (R180). -/
def holdAfter (n : Nat) : Nat := if n = 0 then 0 else max 1 (n - 2048)

/-- The counts of time that only run: the operation in flight (R175) and the retry holds (R180)
(notes/assumptions/19.md). -/
def runTimers (s : State) : State :=
  let s := s.setSr { s.sr with flight := s.sr.flight.map fun f => { f with elapsed := f.elapsed + 1 } }
  s.updMb fun b => { b with retryHold := b.retryHold.map holdAfter }

/-- What happens first at a strobe issue: the strobe, the slots, the strobe time and the running counts. -/
def issueFirst (s : State) : State := runTimers (advanceTime (issueLane s))

/-- The strobe issue with its parts in the order chosen (R2, R6, R9, R113, R118, R128, R147). -/
def strobeIssueWith (chosen : List IssuePart) (s : State) : State :=
  let set := (setAtIssue s).map fun k => (k, closingFrames (nextStrobe s) s)
  (issueParts chosen).foldl (issuePart set s.tb.rollsOver) (issueFirst s)

/-- The strobe issue. Its parts may be taken in any order (notes/assumptions/2.md). -/
def strobeIssue (s : State) : State :=
  let (n, s) := draw s
  strobeIssueWith (Config.issueOrder n) s

/-! ## What is due at the next strobe issue -/

/-- Whether the set handed on at the next strobe issue reaches a position. -/
def reaches (s : State) (position : Nat) : Bool :=
  match setAtIssue s with
  | some k => decide (position ≤ k * 256)
  | none => false

/-- The loss limit is reached in LOCKED without an accepted crossing (R42). -/
def crossingDue (s : State) : Bool :=
  match s.ct.state, s.ct.last, setAtIssue s with
  | .locked, some b, some k =>
    let limit := lossLimit s.ct.held b
    let crossing := referenceCrossing s (condition s.cc.table k (closingFrames (nextStrobe s) s))
    decide (limit ≤ k * 256) && !(crossing.any fun c => decide (b.position + shortHalf ≤ c ∧ c ≤ limit))
  | _, _, _ => false

/-- A FREERUN boundary is due (R39). -/
def freerunDue (s : State) : Bool :=
  match s.ct.state, s.ct.last with
  | .freerun, some b => reaches s (b.position + nominalHalf s)
  | _, _ => false

/-- A HOLDOVER or ACQUIRE boundary is due (R40). -/
def heldDue (s : State) : Bool :=
  match s.ct.state, s.ct.last with
  | .holdover, some b => reaches s (b.position + s.ct.held.getD (nominalHalf s))
  | .acquire, some b => reaches s (b.position + s.ct.held.getD (nominalHalf s))
  | _, _ => false

/-- The holdoff count reaches 0 with the next set (R101). -/
def holdoffDue (s : State) : Bool := s.cu.state == .holdoff && decide (s.cu.holdoff ≤ 1) && (setAtIssue s).isSome

/-- The next strobe issue is the 128th of the monitor window (R9). -/
def monitorDue (s : State) : Bool := decide (127 ≤ s.mm.count)

/-- The arm timer reaches ARM_TIMEOUT_S (R128). -/
def armDue (s : State) : Bool :=
  s.ia.state == .arming && decide (s.sl.settings.armTimeout * 12800 ≤ s.ia.armTimer + 1)

/-- The holdover timer reaches its limit with the next set (R50). -/
def holdoverDue (s : State) : Bool :=
  match s.ct.timer, setAtIssue s with
  | some n, some _ => decide (s.sl.settings.holdoverLimit * 3276800 ≤ n + 256)
  | _, _ => false

/-- The mark age comes to exceed 3,840,000 (R118). -/
def driftDue (s : State) : Bool :=
  s.sl.settings.timeSource == .marked && s.tb.quality == .synced && s.tb.age.any fun n => decide (3840000 ≤ n)

/-- The oldest byte in the page buffer reaches FLUSH_AGE_S (R147). -/
def flushAgeDue (s : State) : Bool :=
  !s.sw.buffer.isEmpty && decide (s.sl.settings.flushAge * 12800 ≤ nextStrobe s - s.sw.oldest)

/-- A time-driven command is the strobe issue at which its condition is met; at another time it does nothing
(notes/assumptions/16.md). -/
def issueWhen (due : Bool) (s : State) : State := if due then strobeIssue s else s

end Sys2Proof.Machine
end

