-- ==== Sys2Proof/Machine/Arrivals.lean ====
section
/-! DEFINITION. The meanings of the commands of the link receiver and the transmitter (R185, R186, R189). -/

namespace Sys2Proof.Machine

/-- LINK_UP (R185). -/
def execLinkUp (s : State) : Host.Outcome State Fault Refusal := .next (settle (linkRises s))

/-- LINK_DOWN (R185). -/
def execLinkDown (s : State) : Host.Outcome State Fault Refusal := .next (settle (linkFalls s))

/-- INBOUND_FRAME_DISCARD (R185). -/
def execInboundFrameDiscard (frame : List Byte) (s : State) : Host.Outcome State Fault Refusal :=
  .next (settle (discardedFrame frame s))

/-- ORDER_ARRIVAL (R185, R186). -/
def execOrderArrival (frame : List Byte) (s : State) : Host.Outcome State Fault Refusal :=
  .next (settle (orderFrame frame s))

/-- FRAME_TRANSMIT_END (R189). -/
def execFrameTransmitEnd (s : State) : Host.Outcome State Fault Refusal := .next (settle (transmitEnd s))

end Sys2Proof.Machine
end

