-- ==== Sys2Proof/Machine/BusEvents.lean ====
section
/-! DEFINITION. The meanings of the module bus commands (chapter 10). -/

namespace Sys2Proof.Machine

/-- FETCH_COMPLETE (R179). -/
def execFetchComplete (block : BitVec 128) (s : State) : Host.Outcome State Fault Refusal :=
  .next (settle (endFetch (bytesOf 16 block) s))

/-- BUS_NO_ACK (R180, R181). -/
def execBusNoAck (acked : BitVec 5) (s : State) : Host.Outcome State Fault Refusal :=
  .next (settle (endNoAck acked.toNat s))

/-- RETRY_HOLD_EXPIRY (R180). -/
def execRetryHoldExpiry (module : Fin 4) (s : State) : Host.Outcome State Fault Refusal :=
  .next (settle (endHold module s))

/-- MODULE_READ_COMPLETE (R181). -/
def execModuleReadComplete (data : BitVec 256) (s : State) : Host.Outcome State Fault Refusal :=
  .next (settle (endRead (bytesOf 32 data) s))

/-- MODULE_WRITE_COMPLETE (R181). -/
def execModuleWriteComplete (s : State) : Host.Outcome State Fault Refusal := .next (settle (endWrite s))

/-- BUS_CLOCK_HELD (R182, R183). -/
def execBusClockHeld (acked : BitVec 5) (s : State) : Host.Outcome State Fault Refusal :=
  .next (settle (clockHeld acked.toNat s))

/-- RECOVERY_END (R183). -/
def execRecoveryEnd (released : Bool) (s : State) : Host.Outcome State Fault Refusal :=
  .next (settle (endRecovery released s))

/-- BUS_RESTART_CUT (R184). -/
def execBusRestartCut (acked : BitVec 5) (s : State) : Host.Outcome State Fault Refusal :=
  .next (settle (endCut acked.toNat s))

end Sys2Proof.Machine
end

