-- ==== Sys2Proof/Machine/Clock.lean ====
section
/-! DEFINITION. The meanings of POWER_ON, STROBE_ISSUE, the time-driven commands, LANE_FRAME_ARRIVAL and MARK_ARRIVAL. -/

namespace Sys2Proof.Machine

/-- POWER_ON (R1): every block takes its power-on value. The commands that wait and the count of free choices are the
model's own and stay (notes/assumptions/17.md). -/
def execPowerOn (s : State) : Host.Outcome State Fault Refusal :=
  .next { State.reset with pending := s.pending, draws := s.draws }

/-- STROBE_ISSUE (R2, R6). -/
def execStrobeIssue (s : State) : Host.Outcome State Fault Refusal := .next (settle (strobeIssue s))

/-- CROSSING_TIMEOUT (R42). -/
def execCrossingTimeout (s : State) : Host.Outcome State Fault Refusal := .next (settle (issueWhen (crossingDue s) s))

/-- FREERUN_BOUNDARY (R39). -/
def execFreerunBoundary (s : State) : Host.Outcome State Fault Refusal := .next (settle (issueWhen (freerunDue s) s))

/-- HELD_HALF_PERIOD_BOUNDARY (R40). -/
def execHeldHalfPeriodBoundary (s : State) : Host.Outcome State Fault Refusal :=
  .next (settle (issueWhen (heldDue s) s))

/-- HOLDOFF_END (R101). -/
def execHoldoffEnd (s : State) : Host.Outcome State Fault Refusal := .next (settle (issueWhen (holdoffDue s) s))

/-- LANE_FRAME_ARRIVAL (R3, R4). -/
def execLaneFrameArrival (frame : List Byte) (s : State) : Host.Outcome State Fault Refusal :=
  .next (settle (laneArrival frame s))

/-- MONITOR_WINDOW_EXPIRY (R10). -/
def execMonitorWindowExpiry (s : State) : Host.Outcome State Fault Refusal :=
  .next (settle (issueWhen (monitorDue s) s))

/-- ARM_TIMEOUT (R128). -/
def execArmTimeout (s : State) : Host.Outcome State Fault Refusal := .next (settle (issueWhen (armDue s) s))

/-- HOLDOVER_TIMER_EXPIRY (R50). -/
def execHoldoverTimerExpiry (s : State) : Host.Outcome State Fault Refusal :=
  .next (settle (issueWhen (holdoverDue s) s))

/-- SECOND_ROLLOVER (R113). -/
def execSecondRollover (s : State) : Host.Outcome State Fault Refusal := .next (settle (issueWhen s.tb.rollsOver s))

/-- MARK_ARRIVAL (R115, R185). -/
def execMarkArrival (frame : List Byte) (periods : BitVec 11) (s : State) : Host.Outcome State Fault Refusal :=
  .next (settle (markFrame frame periods.toNat s))

/-- DRIFTING (R118). -/
def execDrifting (s : State) : Host.Outcome State Fault Refusal := .next (settle (issueWhen (driftDue s) s))

/-- FLUSH_AGE_EXPIRY (R147). -/
def execFlushAgeExpiry (s : State) : Host.Outcome State Fault Refusal := .next (settle (issueWhen (flushAgeDue s) s))

end Sys2Proof.Machine
end

