-- ==== Sys2Proof/Machine/Orders.lean ====
section
/-! DEFINITION. The meanings of the orders of the station processor: each arrives at the order buffer as the order that it
spells (R186) and is dispatched when the reply queue has room (R187). -/

namespace Sys2Proof.Machine

/-- ORDER_UNKNOWN_KIND (R187). -/
def execOrderUnknownKind (tag kind : Byte) (args : List Byte) (s : State) : Host.Outcome State Fault Refusal :=
  .next (settle (submit (.orderUnknownKind tag kind args) s))

/-- SET (R192). -/
def execSet (tag : Byte) (items : List (Byte × BitVec 32)) (s : State) : Host.Outcome State Fault Refusal :=
  .next (settle (submit (.set tag items) s))

/-- GET (R194). -/
def execGet (tag : Byte) (codes : List Byte) (s : State) : Host.Outcome State Fault Refusal :=
  .next (settle (submit (.get tag codes) s))

/-- LOAD_TABLE_CHANNEL (R19). -/
def execLoadTableChannel (tag : Byte) (entries : List ChannelArg) (s : State) : Host.Outcome State Fault Refusal :=
  .next (settle (submit (.loadTableChannel tag entries) s))

/-- LOAD_TABLE_PASS (R29). -/
def execLoadTablePass (tag : Byte) (entries : List PassArg) (s : State) : Host.Outcome State Fault Refusal :=
  .next (settle (submit (.loadTablePass tag entries) s))

/-- LOAD_TABLE_LIMIT (R76). -/
def execLoadTableLimit (tag : Byte) (entries : List LimitArg) (s : State) : Host.Outcome State Fault Refusal :=
  .next (settle (submit (.loadTableLimit tag entries) s))

/-- LOAD_TABLE_GRID (R78). -/
def execLoadTableGrid (tag : Byte) (lists : List GridArg) (s : State) : Host.Outcome State Fault Refusal :=
  .next (settle (submit (.loadTableGrid tag lists) s))

/-- READ_TABLE_CHANNEL (R20). -/
def execReadTableChannel (tag : Byte) (s : State) : Host.Outcome State Fault Refusal :=
  .next (settle (submit (.readTableChannel tag) s))

/-- READ_TABLE_PASS (R20). -/
def execReadTablePass (tag : Byte) (s : State) : Host.Outcome State Fault Refusal :=
  .next (settle (submit (.readTablePass tag) s))

/-- READ_TABLE_LIMIT (R76). -/
def execReadTableLimit (tag : Byte) (s : State) : Host.Outcome State Fault Refusal :=
  .next (settle (submit (.readTableLimit tag) s))

/-- READ_TABLE_GRID (R78). -/
def execReadTableGrid (tag : Byte) (s : State) : Host.Outcome State Fault Refusal :=
  .next (settle (submit (.readTableGrid tag) s))

/-- START (R127). -/
def execStart (tag : Byte) (s : State) : Host.Outcome State Fault Refusal := .next (settle (submit (.start tag) s))

/-- STOP (R130). -/
def execStop (tag : Byte) (s : State) : Host.Outcome State Fault Refusal := .next (settle (submit (.stop tag) s))

/-- RESTART (R132). -/
def execRestart (tag : Byte) (s : State) : Host.Outcome State Fault Refusal :=
  .next (settle (submit (.restart tag) s))

/-- CAPTURE (R102). -/
def execCapture (tag : Byte) (s : State) : Host.Outcome State Fault Refusal :=
  .next (settle (submit (.capture tag) s))

/-- ACK (R196). -/
def execAck (tag : Byte) (mask : BitVec 32) (s : State) : Host.Outcome State Fault Refusal :=
  .next (settle (submit (.ack tag mask) s))

/-- STATUS (R197). -/
def execStatus (tag : Byte) (s : State) : Host.Outcome State Fault Refusal := .next (settle (submit (.status tag) s))

/-- MOUNT (R160). -/
def execMount (tag : Byte) (s : State) : Host.Outcome State Fault Refusal := .next (settle (submit (.mount tag) s))

/-- FORMAT (R155). -/
def execFormat (tag : Byte) (s : State) : Host.Outcome State Fault Refusal := .next (settle (submit (.format tag) s))

/-- MAP_LOAD (R156). -/
def execMapLoad (tag : Byte) (start : BitVec 16) (sectors : List (BitVec 16)) (s : State) : Host.Outcome State Fault Refusal :=
  .next (settle (submit (.mapLoad tag start sectors) s))

/-- UNMOUNT (R157). -/
def execUnmount (tag : Byte) (s : State) : Host.Outcome State Fault Refusal :=
  .next (settle (submit (.unmount tag) s))

/-- RELEASE (R150). -/
def execRelease (tag : Byte) (w : BitVec 32) (s : State) : Host.Outcome State Fault Refusal :=
  .next (settle (submit (.release tag w) s))

/-- READ_RECORDS (R165). -/
def execReadRecords (tag : Byte) (first : BitVec 32) (count : BitVec 16) (s : State) : Host.Outcome State Fault Refusal :=
  .next (settle (submit (.readRecords tag first count) s))

/-- CANCEL_READ (R171). -/
def execCancelRead (tag target : Byte) (s : State) : Host.Outcome State Fault Refusal :=
  .next (settle (submit (.cancelRead tag target) s))

/-- MODULE_READ (R181). -/
def execModuleRead (tag address offset count : Byte) (s : State) : Host.Outcome State Fault Refusal :=
  .next (settle (submit (.moduleRead tag address offset count) s))

/-- MODULE_WRITE (R181). -/
def execModuleWrite (tag address offset : Byte) (data : List Byte) (s : State) : Host.Outcome State Fault Refusal :=
  .next (settle (submit (.moduleWrite tag address offset data) s))

/-- MODULE_FETCH (R178). -/
def execModuleFetch (tag module : Byte) (s : State) : Host.Outcome State Fault Refusal :=
  .next (settle (submit (.moduleFetch tag module) s))

/-- MODULE_ABORT (R183). -/
def execModuleAbort (tag : Byte) (s : State) : Host.Outcome State Fault Refusal :=
  .next (settle (submit (.moduleAbort tag) s))

end Sys2Proof.Machine
end

