-- ==== Sys2Proof/Machine/StoreEvents.lean ====
section
/-! DEFINITION. The meanings of the ends of the store port operations (chapters 8 and 9). -/

namespace Sys2Proof.Machine

/-- PAGE_PROGRAM_DONE (R146). -/
def execPageProgramDone (s : State) : Host.Outcome State Fault Refusal := .next (settle (endProgramDone s))

/-- PAGE_PROGRAM_FAILED (R151). -/
def execPageProgramFailed (s : State) : Host.Outcome State Fault Refusal := .next (settle (endProgramFailed s))

/-- MAP_BYTE_PROGRAM_END (R151, R153, R155, R156). -/
def execMapByteProgramEnd (ok : Bool) (s : State) : Host.Outcome State Fault Refusal :=
  .next (settle (endMapProgram ok s))

/-- SECTOR_ERASE_DONE (R148, R155, R156). -/
def execSectorEraseDone (s : State) : Host.Outcome State Fault Refusal := .next (settle (endErase true s))

/-- SECTOR_ERASE_FAILED (R153, R155, R156). -/
def execSectorEraseFailed (s : State) : Host.Outcome State Fault Refusal := .next (settle (endErase false s))

/-- HEADER_READ_DONE (R148, R149). -/
def execHeaderReadDone (header : BitVec 128) (s : State) : Host.Outcome State Fault Refusal :=
  .next (settle (endHeaderRead header s))

/-- MAP_ENTRY_READ_DONE (R142, R143). -/
def execMapEntryReadDone (entry : BitVec 32) (s : State) : Host.Outcome State Fault Refusal :=
  .next (settle (endMapRead entry s))

/-- MOUNT_PAGE_READ_DONE (R161, R162). -/
def execMountPageReadDone (page : BitVec 2048) (s : State) : Host.Outcome State Fault Refusal :=
  .next (settle (endMountRead page s))

/-- READBACK_PAGE_READ_DONE (R167, R168). -/
def execReadbackPageReadDone (page : BitVec 2048) (s : State) : Host.Outcome State Fault Refusal :=
  .next (settle (endPageRead page s))

/-- STORE_OPERATION_TIMEOUT (R175). -/
def execStoreOperationTimeout (s : State) : Host.Outcome State Fault Refusal := .next (settle (endTimeout s))

end Sys2Proof.Machine
end

