-- ==== Sys2Proof/Machine/Dispatch.lean ====
section
/-! DEFINITION. The dispatch of commands to their meanings. -/

namespace Sys2Proof.Machine

def exec (i : Instr) (s : State) : Host.Outcome State Fault Refusal :=
  match i with
  | .powerOn => Sys2Proof.Machine.execPowerOn s
  | .strobeIssue => Sys2Proof.Machine.execStrobeIssue s
  | .crossingTimeout => Sys2Proof.Machine.execCrossingTimeout s
  | .freerunBoundary => Sys2Proof.Machine.execFreerunBoundary s
  | .heldHalfPeriodBoundary => Sys2Proof.Machine.execHeldHalfPeriodBoundary s
  | .holdoffEnd => Sys2Proof.Machine.execHoldoffEnd s
  | .laneFrameArrival frame => Sys2Proof.Machine.execLaneFrameArrival frame s
  | .monitorWindowExpiry => Sys2Proof.Machine.execMonitorWindowExpiry s
  | .armTimeout => Sys2Proof.Machine.execArmTimeout s
  | .holdoverTimerExpiry => Sys2Proof.Machine.execHoldoverTimerExpiry s
  | .secondRollover => Sys2Proof.Machine.execSecondRollover s
  | .markArrival frame periods => Sys2Proof.Machine.execMarkArrival frame periods s
  | .drifting => Sys2Proof.Machine.execDrifting s
  | .linkUp => Sys2Proof.Machine.execLinkUp s
  | .linkDown => Sys2Proof.Machine.execLinkDown s
  | .inboundFrameDiscard frame => Sys2Proof.Machine.execInboundFrameDiscard frame s
  | .orderArrival frame => Sys2Proof.Machine.execOrderArrival frame s
  | .orderUnknownKind tag kind args => Sys2Proof.Machine.execOrderUnknownKind tag kind args s
  | .set tag items => Sys2Proof.Machine.execSet tag items s
  | .get tag codes => Sys2Proof.Machine.execGet tag codes s
  | .loadTableChannel tag entries => Sys2Proof.Machine.execLoadTableChannel tag entries s
  | .loadTablePass tag entries => Sys2Proof.Machine.execLoadTablePass tag entries s
  | .loadTableLimit tag entries => Sys2Proof.Machine.execLoadTableLimit tag entries s
  | .loadTableGrid tag lists => Sys2Proof.Machine.execLoadTableGrid tag lists s
  | .readTableChannel tag => Sys2Proof.Machine.execReadTableChannel tag s
  | .readTablePass tag => Sys2Proof.Machine.execReadTablePass tag s
  | .readTableLimit tag => Sys2Proof.Machine.execReadTableLimit tag s
  | .readTableGrid tag => Sys2Proof.Machine.execReadTableGrid tag s
  | .start tag => Sys2Proof.Machine.execStart tag s
  | .stop tag => Sys2Proof.Machine.execStop tag s
  | .restart tag => Sys2Proof.Machine.execRestart tag s
  | .capture tag => Sys2Proof.Machine.execCapture tag s
  | .ack tag mask => Sys2Proof.Machine.execAck tag mask s
  | .status tag => Sys2Proof.Machine.execStatus tag s
  | .mount tag => Sys2Proof.Machine.execMount tag s
  | .format tag => Sys2Proof.Machine.execFormat tag s
  | .mapLoad tag start sectors => Sys2Proof.Machine.execMapLoad tag start sectors s
  | .unmount tag => Sys2Proof.Machine.execUnmount tag s
  | .release tag w => Sys2Proof.Machine.execRelease tag w s
  | .readRecords tag first count => Sys2Proof.Machine.execReadRecords tag first count s
  | .cancelRead tag target => Sys2Proof.Machine.execCancelRead tag target s
  | .moduleRead tag address offset count => Sys2Proof.Machine.execModuleRead tag address offset count s
  | .moduleWrite tag address offset data => Sys2Proof.Machine.execModuleWrite tag address offset data s
  | .moduleFetch tag module => Sys2Proof.Machine.execModuleFetch tag module s
  | .moduleAbort tag => Sys2Proof.Machine.execModuleAbort tag s
  | .frameTransmitEnd => Sys2Proof.Machine.execFrameTransmitEnd s
  | .flushAgeExpiry => Sys2Proof.Machine.execFlushAgeExpiry s
  | .pageProgramDone => Sys2Proof.Machine.execPageProgramDone s
  | .pageProgramFailed => Sys2Proof.Machine.execPageProgramFailed s
  | .mapByteProgramEnd ok => Sys2Proof.Machine.execMapByteProgramEnd ok s
  | .sectorEraseDone => Sys2Proof.Machine.execSectorEraseDone s
  | .sectorEraseFailed => Sys2Proof.Machine.execSectorEraseFailed s
  | .headerReadDone header => Sys2Proof.Machine.execHeaderReadDone header s
  | .mapEntryReadDone entry => Sys2Proof.Machine.execMapEntryReadDone entry s
  | .mountPageReadDone page => Sys2Proof.Machine.execMountPageReadDone page s
  | .readbackPageReadDone page => Sys2Proof.Machine.execReadbackPageReadDone page s
  | .storeOperationTimeout => Sys2Proof.Machine.execStoreOperationTimeout s
  | .fetchComplete block => Sys2Proof.Machine.execFetchComplete block s
  | .busNoAck acked => Sys2Proof.Machine.execBusNoAck acked s
  | .retryHoldExpiry module => Sys2Proof.Machine.execRetryHoldExpiry module s
  | .moduleReadComplete data => Sys2Proof.Machine.execModuleReadComplete data s
  | .moduleWriteComplete => Sys2Proof.Machine.execModuleWriteComplete s
  | .busClockHeld acked => Sys2Proof.Machine.execBusClockHeld acked s
  | .recoveryEnd released => Sys2Proof.Machine.execRecoveryEnd released s
  | .busRestartCut acked => Sys2Proof.Machine.execBusRestartCut acked s

end Sys2Proof.Machine
end

