-- ==== Sys2Proof/Safety.lean ====
section
/-! DEFINITION. What the claims are stated in: the states in which an order is dispatched at once or nothing is left to
settle, the invariants of the part, the well-formed inbound frames, and the effect of a command whose step settles. -/

namespace Sys2Proof.Machine

/-! ## Ready and calm states -/

/-- No order waits, and the reply queue has the room that a dispatch asks for (R187). -/
abbrev Ready (s : State) : Prop := s.sl.orders = [] ∧ 2 ≤ freePlaces s

/-- The module bus has no fetch to start (R179). -/
def busCalm (s : State) : Bool :=
  (servable s).isNone || !(s.mb.owner == .auto && s.mb.state == .idle && s.mb.heldAbort == none)

/-- The store reader has nothing in hand, and the port is free. -/
def portCalm (s : State) : Bool :=
  s.sr.flight.isNone && s.sr.job == .none && s.sr.holder == none && s.sr.tenure == 0 && s.sr.current == none

/-- The writer of a mounted store has nothing to append, no task and no program to make. -/
def writerCalm (s : State) : Bool :=
  s.sr.state == .mounted && s.rq.entries.isEmpty && s.sw.tasks.isEmpty && !programDue s

/-- The store has nothing to start: it is at rest, or an operation is in flight that its next step waits for. -/
def storeCalm (s : State) : Bool :=
  s.sr.queue.isEmpty &&
    (portCalm s && (!writerWorks s || writerCalm s) ||
      s.sr.flight.isSome && s.sr.state != .unmounting &&
        (s.sr.state != .mounted || programInFlight s && writerBusy s))

/-- The record in live emission is the one the transmitter would take (R190). -/
def liveCalm (s : State) : Bool :=
  match s.sl.live with
  | some l => (entryOf s l.sequence).isSome
  | none => !(s.sl.linkUp && s.sl.settings.liveRecords) || s.rq.entries.all Entry.emitted

/-- The transmitter has no frame to begin (R189). -/
def txCalm (s : State) : Bool :=
  liveCalm s && (!s.sl.linkUp || s.sl.tx.isSome || (readyCategories s).isEmpty)

/-- Nothing is left to settle: no fetch, store operation, frame or order can start (R173, R179, R187, R189). -/
def Calm (s : State) : Bool :=
  busCalm s && storeCalm s && txCalm s && (s.sl.orders.isEmpty || !mayDispatch s)

/-! ## Invariants -/

/-- The strobe time lies in its ranges (R113). -/
abbrev TimeWf (s : State) : Prop := s.tb.sub < 2048000000 ∧ s.tb.seconds < 4294967296

/-- The monitor window's strobe count lies from 0 to 127 (R9). -/
abbrev MonitorWf (s : State) : Prop := s.mm.count < 128

/-- The fetch queue holds at most one entry per module (R176, R178). -/
abbrev FetchWf (s : State) : Prop := (s.mb.queue.map FetchEntry.module).Nodup

/-- A readback is current exactly while readback orders are held (R165). -/
abbrev ReadbackWf (s : State) : Prop := s.sr.current.isSome = true ↔ s.sr.queue ≠ []

/-- The dip-family machine holds no event of class SWELL, the swell machine none of another class (R81, R89, R90). -/
abbrev EventsWf (s : State) : Prop :=
  s.ed.dip.all (fun e => e.cls != .swell) = true ∧ s.ed.swell.all (fun e => e.cls == .swell) = true

/-- The queues and buffers lie within the sizes the manual gives them: order buffer (R186), outbound sample buffer (R32),
record queue (R135) with at most 15 records that are not CAMPAIGN_END records (R137), readback queue (R165), page buffer
(R145), map cache (R143), trigger list (R104). The map cache never holds two translations of one sector, and in DIRECT mode it is
empty (R143). -/
structure BuffersWf (s : State) : Prop where
  orders : s.sl.orders.length ≤ 4
  samples : s.cc.buffer.length ≤ 32
  records : s.rq.entries.length ≤ 16
  others : (s.rq.entries.filter fun e => !e.record.body.isEnd).length ≤ 15
  readbacks : s.sr.queue.length ≤ 4
  page : s.sw.buffer.length ≤ 240
  cache : s.cache.length ≤ 8
  distinct : (s.cache.map Translation.logical).Nodup
  direct : s.sw.mode = .direct → s.cache = []
  triggers : ∀ h, s.cu.hand = some h → h.triggers.length ≤ 8

/-- Whether a transaction is one of the station processor's (R181). -/
def Transaction.isStation : Transaction → Bool
  | .read _ _ _ _ _ | .write _ _ _ _ _ => true
  | .fetch _ _ => false

/-- The number of orders answered ACCEPTED whose final reply is still to come (R187): a STOP, a long store order, every
readback held, every CANCEL READ waiting on the current one, every tag on a fetch entry, a station transaction, an abort whose
recovery runs and an abort held. -/
def awaiting (s : State) : Nat :=
  s.ia.stopTag.toList.length + s.sl.storeOrder.toList.length + s.sr.queue.length +
    (s.sr.current.toList.flatMap Readback.waiters).length + (s.mb.queue.filterMap FetchEntry.tag).length +
    (s.mb.transaction.toList.filter Transaction.isStation).length + s.mb.abortTag.toList.length +
    s.mb.heldAbort.toList.length

/-- The reply queue keeps its 32 places, the reserved ones counted, and one place is reserved for each order that waits for
its final reply (R187, R188); with what this rests on: a STOP waits in STOPPING alone, the fetch queue and the readback queue
are well formed, a transaction is in flight exactly in BUSY, only a transaction is cut, an abort has its tag exactly in
RECOVERING, and one is held in BUSY alone (R131, R176, R183). -/
structure RepliesWf (s : State) : Prop where
  places : s.sl.replies.length + s.sl.reserved ≤ 32
  reserved : s.sl.reserved = awaiting s
  stop : s.ia.stopTag.isSome = true → s.ia.state = .stopping
  fetches : FetchWf s
  busy : s.mb.transaction.isSome = true ↔ s.mb.state = .busy
  cut : s.mb.cut = true → s.mb.transaction.isSome = true
  recovering : s.mb.abortTag.isSome = true ↔ s.mb.state = .recovering
  held : s.mb.heldAbort.isSome = true → s.mb.state = .busy
  readbacks : ReadbackWf s

/-! ## Inbound frames (sections 12.2, 12.3) -/

/-- The ten bytes of a lane frame. -/
def laneBytes (m : Fin 4) (sequence : Nat) (status : Byte) (a b : Int) : List Byte :=
  let covered := leBytes 1 m.val ++ leBytes 1 sequence ++ [status] ++ leSigned 3 a ++ leSigned 3 b
  covered ++ [crc8 covered]

/-- An inbound link frame: kind 1 is ORDER, kind 2 is MARK. -/
def inboundFrame (kind : Nat) (payload : List Byte) : List Byte :=
  let covered := leBytes 1 kind ++ leBytes 2 payload.length ++ payload
  covered ++ crc32Bytes covered

/-- The payload of a MARK: seconds, then microseconds. -/
def markPayload (seconds micros : Nat) : List Byte := leBytes 4 seconds ++ leBytes 4 micros

/-! ## Frames -/

/-- The measurement blocks are as they were: lane, monitor, conditioner, tracker, magnitudes and time base. -/
abbrev SameMeasurement (s e : State) : Prop :=
  e.lr = s.lr ∧ e.mm = s.mm ∧ e.cc = s.cc ∧ e.ct = s.ct ∧ e.mu = s.mu ∧ e.tb = s.tb

/-- Only the store's blocks may differ: record queue, writer, map cache, reader and, through a reply, an attention flag or
the end of a campaign, the blocks those change. The measurement blocks, the module bus and the commands that wait are as
they were. -/
abbrev StoreFrame (s e : State) : Prop := SameMeasurement s e ∧ e.mb = s.mb ∧ e.pending = s.pending

/-! ## Store faults -/

/-- What the entry into FAULTED leaves (R154): the state and its first cause, an empty page buffer, no writer task, no long
store order in flight, no readback, every entry with its stored mark and none of them emitted, and a STOPPING campaign
STOPPED. -/
structure StoreFaulted (cause : FaultCause) (s e : State) : Prop where
  state : e.sr.state = .faulted
  cause : e.sr.cause = some cause
  buffer : e.sw.buffer = []
  tasks : e.sw.tasks = []
  order : e.sl.storeOrder = none
  readbacks : ReadbackWf s → e.sr.queue = []
  entries : ∀ x ∈ e.rq.entries, x.stored = true ∧ x.emitted = false
  campaign : s.ia.state = .stopping → e.ia.state = .stopped
  frame : StoreFrame s e

/-- The part with its operation in flight over. -/
def landed (s : State) : State := s.setSr { s.sr with flight := none }

/-! ## Replies -/

/-- A reply without a body. -/
def plainReply (tag kind : Byte) (status : ReplyStatus) (reason : Reason) : Reply :=
  { tag := tag, kind := kind, status := status, reason := reason, cancelled := false, body := [] }

/-- The Station Link Interface after an order is answered ACCEPTED: the reply at the back of the reply queue, discarded as it
is formed while the link is DOWN (R188), and one place more reserved for the final reply (R187). -/
def acceptedLink (r : Reply) (s : State) : SL :=
  { s.sl with
    replies := if s.sl.linkUp then s.sl.replies ++ [r] else s.sl.replies
    reserved := s.sl.reserved + 1 }

/-- Whether a command comes about at a strobe issue: STROBE_ISSUE and the time-driven commands. -/
def issuesStrobe : Instr → Bool
  | .strobeIssue | .crossingTimeout | .freerunBoundary | .heldHalfPeriodBoundary | .holdoffEnd | .monitorWindowExpiry
  | .armTimeout | .holdoverTimerExpiry | .secondRollover | .drifting | .flushAgeExpiry => true
  | _ => false

end Sys2Proof.Machine
end

