-- ==== Sys2Proof/Certificates/Slice0/Obligations.lean ====
section
/-! DEFINITION. The statements about the part, for the provers. -/

section

open Sys2Proof Sys2Proof.Machine

/-! ## The machine as a whole -/

/-- A step carries out the command at the front of the queue on the state with the rest of the queue; with nothing waiting
the part idles (the idle step is the model's choice, notes/assumptions/1.md). No command stops the part: every one of them
answers a next state. -/
def Obligations.StepRunsFrontCommand : Prop :=
  (∀ s : State,
    (∀ (c : Instr) (rest : List Instr), s.pending = c :: rest → step s = exec c (s.setPending rest)) ∧
    (s.pending = [] → step s = .next s)) ∧
  ∀ (c : Instr) (s : State), ∃ t, exec c s = .next t

/-- What power-on leaves, block by block, where the manual gives the value (sections 1.6, 2.1, 2.9, 3.1, 4.1, 4.3, 5.1, 5.2,
5.10, 6.1, 7.1, 7.3, 8.1, 8.3, 8.5, 8.8, 8.9, 9.1, 10.1, 11.5, 11.9: the Capture Unit's of section 6.1, the watermark, the stop
mark and the map fill of sections 8.5, 8.8 and 8.9, the link, its orders, replies, settings and latched flags of sections 11.5
and 11.9); and POWER_ON gives every block its power-on value, for the few fields without one in the manual that of
notes/assumptions/3.md. That the commands which wait and the count of free choices stay is the model's choice
(notes/assumptions/17.md). -/
def Obligations.ResetLeavesPowerOnValues : Prop :=
  State.reset.lr.strobe = 0 ∧
  (∀ m, State.reset.lr.slots.get m = [⟨0, none⟩]) ∧
  State.reset.mm.count = 0 ∧
  (∀ m, (State.reset.mm.mods.get m).state = .absent) ∧
  (∀ c, (State.reset.cc.table.get c).enabled = true ∧ (State.reset.cc.table.get c).gain = 32768 ∧
    (State.reset.cc.table.get c).offset = 0 ∧ (State.reset.cc.table.get c).cal = .default) ∧
  (∀ m, State.reset.cc.pass.get m = .drop) ∧
  State.reset.cc.buffer = [] ∧
  State.reset.ct.state = .freerun ∧ State.reset.ct.reference = none ∧ State.reset.ct.last = none ∧
  State.reset.mu.window = none ∧ State.reset.mu.snapshot.tracker = .freerun ∧
  State.reset.ed.limits = ⟨.reset, .reset, .reset, .reset⟩ ∧ State.reset.ed.grid = .reset ∧
  State.reset.ed.eventNumber = 0 ∧ State.reset.ed.dip = none ∧ State.reset.ed.swell = none ∧
  State.reset.cu.state = .filling ∧ State.reset.cu.ring = [] ∧
  State.reset.tb.seconds = 0 ∧ State.reset.tb.sub = 0 ∧ State.reset.tb.quality = .unset ∧ State.reset.tb.age = none ∧
  State.reset.tb.slew = 0 ∧
  State.reset.ia.state = .stopped ∧ State.reset.ia.number = 0 ∧
  State.reset.rq.entries = [] ∧ State.reset.rq.next = .undefined ∧
  State.reset.sw.watermark = 0 ∧ State.reset.sw.stopMark = none ∧ State.reset.sw.mapFill = none ∧
  State.reset.cache = [] ∧
  State.reset.sr.state = .unmounted ∧ State.reset.sr.queue = [] ∧ State.reset.sr.holder = none ∧
  State.reset.mb.state = .idle ∧ State.reset.mb.owner = .auto ∧ State.reset.mb.queue = [] ∧
  State.reset.sl.linkUp = false ∧ State.reset.sl.orders = [] ∧ State.reset.sl.replies = [] ∧
  State.reset.sl.reserved = 0 ∧ State.reset.sl.settings = .reset ∧ State.reset.sl.latched = 0 ∧
  ∀ s : State, exec .powerOn s = .next ((State.reset.setPending s.pending).setDraws s.draws)

/-- With nothing left to start, an event brings about nothing more in its step: no fetch (R179), no store operation (R173),
no frame (R189) and no dispatch (R187). And what follows an event in its step never moves the strobe index, the monitor
window, the tracker or the time, when no order waits to be dispatched. -/
def Obligations.SettleKeepsCalmStatesAndClock : Prop :=
  (∀ s : State, Calm s = true → settle s = s) ∧
  ∀ s : State, s.sl.orders = [] →
    (settle s).lr = s.lr ∧ (settle s).mm = s.mm ∧ (settle s).ct = s.ct ∧ (settle s).tb = s.tb

/-! ## Invariants -/

/-- The power-on state meets the seven invariants. -/
def Obligations.ResetMeetsInvariants : Prop :=
  TimeWf State.reset ∧ MonitorWf State.reset ∧ FetchWf State.reset ∧ ReadbackWf State.reset ∧ EventsWf State.reset ∧
  BuffersWf State.reset ∧ RepliesWf State.reset

/-- Every step keeps the strobe time in its ranges (R113), the monitor window's strobe count between 0 and 127 (R9), at
most one fetch queue entry per module (R178), a current readback exactly while readback orders are held (R165), and the class
of an open event to its machine: SWELL in the swell machine alone (R81, R89, R90). -/
def Obligations.RangesStayWellFormed : Prop :=
  (∀ s t : State, TimeWf s → step s = .next t → TimeWf t) ∧
  (∀ s t : State, MonitorWf s → step s = .next t → MonitorWf t) ∧
  (∀ s t : State, FetchWf s → step s = .next t → FetchWf t) ∧
  (∀ s t : State, ReadbackWf s → step s = .next t → ReadbackWf t) ∧
  (∀ s t : State, EventsWf s → step s = .next t → EventsWf t)

/-- Every step keeps the queues and buffers within their sizes: 4 orders, 32 sample frames, 16 records of which at most 15 are
not CAMPAIGN_END records, 4 readbacks, 240 bytes of the page buffer, 8 translations, never two of
one sector and none in DIRECT mode (R143), 8 listed triggers. -/
def Obligations.BuffersStayInBounds : Prop :=
  ∀ s t : State, BuffersWf s → step s = .next t → BuffersWf t

/-- Every step keeps the reply queue within its 32 places, the reserved ones counted, with exactly one place reserved for each
order that waits for its final reply (R187, R188): a STOP, a long store order, each readback, each CANCEL READ on the current
one, each fetch entry with a tag, a station transaction, an abort running and an abort held. -/
def Obligations.RepliesKeepTheirPlaces : Prop :=
  ∀ s t : State, RepliesWf s → step s = .next t → RepliesWf t

/-- The strobe index moves by strobe issues alone, one at a time, and goes to 0 at power-on: no order, no RESTART and no end
of an operation moves it. -/
def Obligations.StrobeIndexMovesOnlyAtIssues : Prop :=
  ∀ (c : Instr) (s t : State), exec c s = .next t →
    t.lr.strobe = s.lr.strobe ∨
    (issuesStrobe c = true ∧ t.lr.strobe = nextStrobe s) ∨
    (c = .powerOn ∧ t.lr.strobe = 0)

/-! ## Layouts -/

/-- Every order that fits its layout, written as its tag, kind and arguments, is read back as that order; one whose kind is
not in the table is refused UNKNOWN (R187, section 12.4). -/
def Obligations.OrderFormsRoundTrip : Prop :=
  ∀ (i : Instr) (o : Order), orderOf i = some o → i.fits = true →
    readOrder o =
      match i with
      | .orderUnknownKind _ _ _ => .inl .unknown
      | _ => .inr i

/-- What is written as sections 12.2, 12.3 and 12.6 lay it out is read back: an inbound link frame with its payload, kind 1 an
ORDER, kind 2 a MARK and any other kind no frame; a lane frame with its module, sequence, samples and status bits; a page
header whole; and a record with its CRC-32 trailer checks and is as long as its header says. -/
def Obligations.LayoutsReadBack : Prop :=
  (∀ payload : List Byte, payload.length ≤ 1024 →
     readLinkFrame (inboundFrame 1 payload) = .order payload ∧
     readLinkFrame (inboundFrame 2 payload) = .mark payload ∧
     ∀ kind, kind < 16 → kind ≠ 1 → kind ≠ 2 → readLinkFrame (inboundFrame kind payload) = .discard) ∧
  (∀ (m : Fin 4) (sequence : Nat) (status : Byte) (a b : Int), sequence < 256 →
     -8388608 ≤ a → a ≤ 8388607 → -8388608 ≤ b → b ≤ 8388607 →
     readLaneFrame (laneBytes m sequence status a b) =
       some (m, sequence,
         { a := a, b := b, overA := status.getLsbD 0, overB := status.getLsbD 1, fault := status.getLsbD 2 })) ∧
  (∀ h : PageHeader, h.serial < 4294967296 → h.seqRef < 4294967296 → h.starts < 256 → h.firstOffset < 256 →
     readHeader h.bytes = some h) ∧
  (∀ (points : List Point) (r : Record),
     recordChecks (r.bytes points) = true ∧ (r.bytes points).length = r.length points)

/-! ## Sample lane and Module Monitor (chapter 1) -/

/-- A frame that checks and names a module that is not DISABLED is accepted into the empty open slot that matches its
sequence, or is a duplicate, or a stray (R4). At an acceptance the module leaves ABSENT (R8), keeping with it the model's mark
that it joined in this window (notes/assumptions/45.md), and a fault indication acts (R14). A lane frame of another length,
with a wrong CRC-8 or with a module number above 3 changes nothing, and neither does a frame of a DISABLED module (R3). -/
def Obligations.LaneFrameOutcomes : Prop :=
  (∀ (s : State) (frame : List Byte) (m : Fin 4) (sequence : Nat) (f : LaneFrame),
     readLaneFrame frame = some (m, sequence, f) → (s.mm.mods.get m).state ≠ .disabled →
     let x := s.mm.mods.get m
     let slots := s.lr.slots.get m
     let leaves := x.state = .absent ∨ (x.state = .qualified ∧ f.fault = true)
     match slots.find? fun slot => slot.index % 256 == sequence with
     | some slot =>
       match slot.frame with
       | none =>
         exec (.laneFrameArrival frame) s =
           .next (settle ((s.setLr { s.lr with slots := s.lr.slots.set m (slots.map fun z =>
             if z.index = slot.index then { z with frame := some f } else z) }).setModule m
             { x with
               accepted := satSucc 65535 x.accepted
               fault := x.fault || f.fault
               state := if leaves then .unqualified else x.state
               good := if leaves ∨ (x.state = .unqualified ∧ f.fault = true) then 0 else x.good
               bad := if leaves then 0 else x.bad
               joined := x.joined || x.state == .absent }))
       | some _ =>
         exec (.laneFrameArrival frame) s =
           .next (settle (s.setModule m { x with duplicate := satSucc 65535 x.duplicate }))
     | none =>
       exec (.laneFrameArrival frame) s = .next (settle (s.setModule m { x with stray := satSucc 65535 x.stray }))) ∧
  ((∀ (s : State) (frame : List Byte),
     frame.length ≠ 10 ∨ crc8 (frame.take 9) ≠ (frame.drop 9).headD 0 ∨ 4 ≤ fieldNat frame 0 1 →
     exec (.laneFrameArrival frame) s = .next (settle s)) ∧
   (∀ (s : State) (frame : List Byte) (m : Fin 4) (sequence : Nat) (f : LaneFrame),
     readLaneFrame frame = some (m, sequence, f) → (s.mm.mods.get m).state = .disabled →
     exec (.laneFrameArrival frame) s = .next (settle s)))

/-- A frame that answers a strobe any whole number of times 256 away from an empty open slot of its module is accepted into
that slot, when no other open slot agrees with it modulo 256 (R5). -/
def Obligations.LaneFrameMatchesModulo256 : Prop :=
  ∀ (s : State) (m : Fin 4) (j k : Nat) (n : Int) (status : Byte) (a b : Int),
    (k : Int) - j = 256 * n →
    -8388608 ≤ a → a ≤ 8388607 → -8388608 ≤ b → b ≤ 8388607 →
    (s.mm.mods.get m).state ≠ .disabled →
    { index := j, frame := none } ∈ s.lr.slots.get m →
    (∀ z ∈ s.lr.slots.get m, z.index % 256 = j % 256 → z = { index := j, frame := none }) →
    ∃ t, exec (.laneFrameArrival (laneBytes m (k % 256) status a b)) s = .next (settle t) ∧
      { index := j,
        frame := some
          { a := a, b := b, overA := status.getLsbD 0, overB := status.getLsbD 1, fault := status.getLsbD 2 } } ∈
        t.lr.slots.get m

/-- The verdict of a monitor window (R10): REJECTED when the fault mark is set; else ACCEPTED up to the accept margin, the
smaller of the two settings, REJECTED above the reject margin, NEUTRAL between them. A module that passes QUAL_GOOD_TIMES
windows in a row becomes QUALIFIED, and one that fails QUAL_FAIL_TIMES in a row becomes UNQUALIFIED; a setting of 0 is taken
as 1, a NEUTRAL verdict leaves the streak (R11, R12).
At the 128th strobe issue of a monitor window the count and the tallies go to 0, and each module is judged: one UNQUALIFIED
or QUALIFIED the whole window by the verdict on its accepted, duplicate and stray frames together with its fault mark; one
ABSENT, DISABLED or just out of those states (which the model notes in a mark: notes/assumptions/45.md) gets no verdict, its
state and streaks staying. The tallies and the verdict are kept for STATUS, and a module that enters QUALIFIED has a calibration
fetch queued (R7 to R13). -/
def Obligations.MonitorWindowExpiryJudges : Prop :=
  (∀ accept reject count : Nat,
     verdictOf accept reject true count = .rejected ∧
     (128 ≤ count + min accept reject ∧ count ≤ 128 + min accept reject ↔
       verdictOf accept reject false count = .accepted) ∧
     (count + reject < 128 ∨ 128 + reject < count ↔ verdictOf accept reject false count = .rejected) ∧
     ((128 ≤ count + reject ∧ count ≤ 128 + reject) ∧
         (count + min accept reject < 128 ∨ 128 + min accept reject < count) ↔
       verdictOf accept reject false count = .neutral)) ∧
  (∀ (x : ModMon) (goodTimes failTimes : Nat),
     (x.state = .unqualified →
       x.judge goodTimes failTimes .accepted =
         (if goodTimes ≤ x.good + 1 then { x with state := .qualified, good := 0, bad := 0 }
           else { x with good := x.good + 1 }) ∧
       x.judge goodTimes failTimes .rejected = { x with good := 0 } ∧
       x.judge goodTimes failTimes .neutral = x) ∧
     (x.state = .qualified →
       x.judge goodTimes failTimes .rejected =
         (if failTimes ≤ x.bad + 1 then { x with state := .unqualified, good := 0, bad := 0 }
           else { x with bad := x.bad + 1 }) ∧
       x.judge goodTimes failTimes .accepted = { x with bad := 0 } ∧
       x.judge goodTimes failTimes .neutral = x) ∧
     x.judge goodTimes failTimes .none = x) ∧
  (∀ s : State, s.mm.count = 127 →
    ∃ t, exec .monitorWindowExpiry s = .next (settle t) ∧
      t.mm.count = 0 ∧
      ∀ m,
        let x := s.mm.mods.get m
        let v :=
          if (x.state = .unqualified ∨ x.state = .qualified) ∧ x.joined = false then
            verdictOf s.sl.settings.qualAccept s.sl.settings.qualReject x.fault (x.accepted + x.duplicate + x.stray)
          else .none
        t.mm.mods.get m =
          { x.judge s.sl.settings.qualGoodTimes s.sl.settings.qualFailTimes v with
            lastAccepted := x.accepted, lastDuplicate := x.duplicate, lastStray := x.stray, lastVerdict := v
            accepted := 0, duplicate := 0, stray := 0, fault := false, joined := false } ∧
        ((s.mm.mods.get m).state ≠ .qualified → (t.mm.mods.get m).state = .qualified →
          ∃ e ∈ t.mb.queue, e.module = m))

/-- A strobe issue raises the strobe index, closes the slot four strobes back and opens the new one in every module that is
not DISABLED (R2), and advances the strobe time (R113). -/
def Obligations.StrobeIssueMovesTheLane : Prop :=
  ∀ s : State, s.lr.strobe + 1 < 281474976710656 →
    ∃ t, exec .strobeIssue s = .next (settle t) ∧
      t.lr.strobe = s.lr.strobe + 1 ∧
      (∀ m, t.lr.slots.get m =
        if (s.mm.mods.get m).state = .disabled then []
        else (s.lr.slots.get m).filter (fun x => decide (s.lr.strobe + 1 < x.index + 4)) ++
          [{ index := s.lr.strobe + 1, frame := none }]) ∧
      t.tb = (s.tb.advance).grow s.sl.settings.timeSource

/-! ## Cycle Tracker (chapter 3) -/

/-- A FREERUN boundary falls every nominal half-period, 32,768 fine units at 50 Hz and 27,307 at 60 Hz (R39), and in HOLDOVER
and ACQUIRE one falls every held half-period, or nominal half-period when none is held (R40); each is a SYNTHETIC boundary at
its due position, when the set in hand is the first to reach it. The first set taken after power-on places boundary 0
at its position 0 (R36). In LOCKED a crossing of the reference less than 23,296 after the last boundary is ignored; one up to the
loss limit places a CROSSING boundary, ends the alignment, and becomes the held half-period when the half-cycle began at a
CROSSING boundary (R41, R42). In ACQUIRE, with no boundary due, the candidate's crossing joins, restarts or leaves the run, and a
fourth one locks: alignment count 0, timer stopped, run empty, the last locked reference this one, REF_CHANGE latched when it was
another (R46, R51); the crossing is tested at once against the last boundary plus 40,960. Where a boundary is placed the
reference decision follows with the sliding values at it, then the previous samples are replaced and the timer advances (R35);
that a timer started in this set advances in it too is the model's reading (notes/assumptions/34.md). In the clause that gives the
decision a due position that an earlier set had already passed, which no rule places, gets its boundary at that position in
the set in hand: the model's reading (notes/assumptions/13.md). The decision is stated for sets at which no monitor window expires,
since the order of the two is free (notes/assumptions/2.md). -/
def Obligations.DueBoundariesPlaced : Prop :=
  (∀ (s : State) (b : Boundary), s.ct.state = .freerun → s.ct.last = some b →
     4 ≤ nextStrobe s →
     let due := b.position + (if s.sl.settings.nominalFreq = 60 then 27307 else 32768)
     due ≤ (nextStrobe s - 4) * 256 → (nextStrobe s - 4) * 256 < due + 256 →
     ∃ t, exec .freerunBoundary s = .next (settle t) ∧
       t.ct.last = some { number := (b.number + 1) % 4294967296, position := due, kind := .synthetic }) ∧
  (∀ (s : State) (b : Boundary), (s.ct.state = .holdover ∨ s.ct.state = .acquire) →
     s.ct.last = some b → 4 ≤ nextStrobe s →
     let due := b.position + s.ct.held.getD (if s.sl.settings.nominalFreq = 60 then 27307 else 32768)
     due ≤ (nextStrobe s - 4) * 256 → (nextStrobe s - 4) * 256 < due + 256 →
     ∃ t, exec .heldHalfPeriodBoundary s = .next (settle t) ∧
       t.ct.last = some { number := (b.number + 1) % 4294967296, position := due, kind := .synthetic }) ∧
  (∀ s : State, s.ct.state = .freerun → s.ct.last = none → nextStrobe s = 4 →
     ∃ t, exec .strobeIssue s = .next (settle t) ∧
       t.ct.last = some { number := 0, position := 0, kind := .synthetic }) ∧
  (∀ (s : State) (b : Boundary), s.ct.last = some b → 4 ≤ nextStrobe s →
     let k := nextStrobe s - 4
     let c := condition s.cc.table k
       (PerModule.of fun m => ((s.lr.slots.get m).find? fun x => x.index + 4 == nextStrobe s).bind Slot.frame)
     let nominal := if s.sl.settings.nominalFreq = 60 then 27307 else 32768
     let half := s.ct.held.getD nominal
     let taken := fun (x : CT) =>
       ({ x with previous := PerPhase.of fun p => some (c.values.get p.voltage) } : CT).advance s.sl.settings.holdoverLimit
     let placed := fun (position : Nat) (kind : BoundaryKind) =>
       ({ number := (b.number + 1) % 4294967296, position := position, kind := kind } : Boundary)
     let decided := fun (a : Boundary) (x : CT) =>
       taken (decideReference (boundaryWork a k s).1 (s.setCt { x with last := some a })).ct
     let heldAfter := fun (C : Nat) => if b.kind = .crossing then some (C - b.position) else s.ct.held
     (s.ct.state = .freerun ∨ s.ct.state = .holdover → s.mm.count < 127 →
       let due := b.position + (if s.ct.state = .freerun then nominal else half)
       due ≤ k * 256 →
       ∃ t, exec .strobeIssue s = .next (settle t) ∧ t.ct = decided (placed due .synthetic) s.ct) ∧
     ∀ (r : Phase) (C : Nat), s.ct.reference = some r →
       crossingAt k (s.ct.previous.get r) (c.values.get r.voltage) = some C →
       (s.ct.state = .locked →
         let limit := match b.kind, s.ct.held with
           | .crossing, some h => b.position + min (h * 5 / 4) 40960
           | _, _ => b.position + 40960
         (C < b.position + 23296 → k * 256 < limit →
           ∃ t, exec .strobeIssue s = .next (settle t) ∧ t.ct = taken s.ct) ∧
         (b.position + 23296 ≤ C → C ≤ limit →
           ∃ t, exec .strobeIssue s = .next (settle t) ∧
             t.ct.last = some (placed C .crossing) ∧ t.ct.align = 0 ∧
             (1 ≤ s.sl.settings.holdoverLimit → t.ct.held = heldAfter C) ∧
             (s.mm.count < 127 →
               t.ct = decided (placed C .crossing) { s.ct with held := heldAfter C, align := 0 }))) ∧
       (s.ct.state = .acquire → k * 256 < b.position + half → s.ct.run.length < 4 →
         let runs := fun (run : List Nat) =>
           ∃ t, exec .strobeIssue s = .next (settle t) ∧ t.ct = taken { s.ct with run := run }
         (s.ct.run = [] → runs [C]) ∧
         (∀ before e, s.ct.run = before ++ [e] →
           (C < e + 23296 → runs s.ct.run) ∧
           (e + 40960 < C → runs [C]) ∧
           (e + 23296 ≤ C → C ≤ e + 40960 →
             (before = [] → runs [e, C]) ∧
             (∀ first d, before = first ++ [d] →
               let g := e - d
               let near := (((C - e : Nat) : Int) - g).natAbs * 8 ≤ g
               (¬ near → runs [e, C]) ∧
               (near → first = [] → runs [d, e, C]) ∧
               (near → first ≠ [] →
                 let locked : CT :=
                   { s.ct with state := .locked, align := 0, timer := none, run := [], lastLocked := some r }
                 let another := s.ct.lastLocked.isSome && s.ct.lastLocked != some r
                 (C < b.position + 23296 → k * 256 < b.position + 40960 →
                   ∃ t, exec .strobeIssue s = .next (settle t) ∧ t.ct = taken locked ∧
                     t.sl.latched.getLsbD 11 = (s.sl.latched.getLsbD 11 || another)) ∧
                 (b.position + 23296 ≤ C → C ≤ b.position + 40960 →
                   ∃ t, exec .strobeIssue s = .next (settle t) ∧ t.ct.last = some (placed C .crossing) ∧
                     t.ct.align = 0 ∧ t.ct.run = [] ∧ t.ct.lastLocked = some r ∧
                     t.sl.latched.getLsbD 11 = (s.sl.latched.getLsbD 11 || another) ∧
                     (s.mm.count < 127 → t.ct = decided (placed C .crossing) { locked with held := heldAfter C }))))))))

/-- At a loss limit reached without an accepted crossing a SYNTHETIC boundary is placed at exactly the limit. A half-cycle
that was aligning with an alignment count of 0 or 1 raises the count; otherwise the tracker leaves LOCKED and the alignment
count becomes 0 (R42). At its limit the holdover timer stops and the held half-period is discarded (R50): when no boundary is
due in the set, HOLDOVER becomes FREERUN with no reference, and ACQUIRE goes on in ACQUIRE on its candidate, its run being one
that the set cannot complete; when one is due, its decision comes first, and the tracker ends in one of these two. The reference
decision (R43, R44): a phase is eligible with its entry enabled, its module QUALIFIED and its magnitude valid and at least
TRACK_FLOOR; the wanted one is REF_MANUAL, or the first eligible in REF_PRIORITY. FREERUN and HOLDOVER acquire on it (R45).
ACQUIRE keeps an eligible candidate, and drops it for REF_MANUAL, or to HOLDOVER or FREERUN (R47), the run emptied then too
(notes/assumptions/53.md) and in HOLDOVER the candidate just dropped still the reference (notes/assumptions/73.md). LOCKED leaves an
ineligible reference, switches in MANUAL, and in AUTO counts a preferred channel up to 100, when REVERTIVE is on, and switches (R48 to R50); that a switch keeps the alignment count is the model's choice
(notes/assumptions/26.md). -/
def Obligations.TrackerTimeouts : Prop :=
  (∀ (s : State) (b : Boundary), s.ct.state = .locked → s.ct.last = some b → 4 ≤ nextStrobe s →
     let k := nextStrobe s - 4
     let c := condition s.cc.table k
       (PerModule.of fun m => ((s.lr.slots.get m).find? fun x => x.index + 4 == nextStrobe s).bind Slot.frame)
     let limit := match b.kind, s.ct.held with
       | .crossing, some h => b.position + min (h * 5 / 4) 40960
       | _, _ => b.position + 40960
     limit ≤ k * 256 →
     (∀ r C, s.ct.reference = some r → crossingAt k (s.ct.previous.get r) (c.values.get r.voltage) = some C →
       C < b.position + 23296 ∨ limit < C) →
     ∃ t, exec .crossingTimeout s = .next (settle t) ∧
       t.ct.last = some { number := (b.number + 1) % 4294967296, position := limit, kind := .synthetic } ∧
       (b.kind = .crossing ∨ 2 ≤ s.ct.align → t.ct.state ≠ .locked ∧ t.ct.align = 0) ∧
       (b.kind = .synthetic → s.ct.align < 2 → t.ct.state = .locked → t.ct.align = s.ct.align + 1)) ∧
  (∀ (s : State) (n : Nat) (b : Boundary), s.ct.last = some b → heldDue s = false →
     s.ct.timer = some n → s.sl.settings.holdoverLimit * 3276800 ≤ n + 256 → 4 ≤ nextStrobe s →
     (s.ct.state = .holdover →
       ∃ t, exec .holdoverTimerExpiry s = .next (settle t) ∧
         t.ct.timer = none ∧ t.ct.held = none ∧ t.ct.last = some b ∧ t.ct.state = .freerun ∧ t.ct.reference = none) ∧
     (∀ p, s.ct.state = .acquire → s.ct.reference = some p → s.ct.run.length < 3 →
       ∃ t, exec .holdoverTimerExpiry s = .next (settle t) ∧
         t.ct.timer = none ∧ t.ct.held = none ∧ t.ct.last = some b ∧ t.ct.state = .acquire ∧
         t.ct.reference = some p)) ∧
  (∀ (s : State) (n : Nat),
     (s.ct.state = .holdover ∨ (s.ct.state = .acquire ∧ s.ct.run.length < 3)) →
     s.ct.timer = some n → s.sl.settings.holdoverLimit * 3276800 ≤ n + 256 → 4 ≤ nextStrobe s →
     ∃ t, exec .holdoverTimerExpiry s = .next (settle t) ∧
       t.ct.timer = none ∧ t.ct.held = none ∧
       (t.ct.state = .acquire ∨ (t.ct.state = .freerun ∧ t.ct.reference = none))) ∧
  (∀ (x : CT) (limit : Nat),
     (x.timer = none → x.advance limit = x) ∧
     (∀ n, x.timer = some n → n + 256 < limit * 3276800 → x.advance limit = { x with timer := some (n + 256) })) ∧
  (∀ (s : State) (values : PerChannel (Option Nat)),
     let x := s.sl.settings
     let t := decideReference values s
     let ok := fun (p : Phase) =>
       (s.cc.table.get p.voltage).enabled = true ∧
         (s.mm.mods.get (s.cc.table.get p.voltage).module).state = .qualified ∧
         ∃ v, values.get p.voltage = some v ∧ x.trackFloor ≤ v
     let becomes := fun (y : CT) => t = s.setCt y
     let left :=
       (∀ h, s.ct.held = some h →
         becomes { s.ct with state := .holdover, timer := some 0, align := 0, revertPhase := none, revertCount := 0 }) ∧
       (s.ct.held = none →
         becomes { s.ct with
           state := .freerun, reference := none, timer := none, align := 0, revertPhase := none, revertCount := 0 })
     let switched := fun (p : Phase) =>
       becomes { s.ct with
         state := .acquire, reference := some p, run := [], timer := some 0, revertPhase := none, revertCount := 0 }
     let wanted := fun (p : Phase) =>
       (x.refMode = .manual ∧ p = x.refManual ∧ ok p) ∨
         (x.refMode = .auto ∧ ok p ∧
           ∃ before after, x.refPriority = before ++ p :: after ∧ ∀ q ∈ before, ¬ ok q)
     (s.ct.state = .freerun ∨ s.ct.state = .holdover →
       (∀ p, wanted p → becomes { s.ct with state := .acquire, reference := some p, run := [] }) ∧
       ((x.refMode = .manual ∧ ¬ ok x.refManual) ∨ (x.refMode = .auto ∧ ∀ p ∈ x.refPriority, ¬ ok p) → t = s)) ∧
     (∀ r, s.ct.state = .acquire → s.ct.reference = some r →
       (ok r → x.refMode = .auto ∨ r = x.refManual → t = s) ∧
       (¬ ok r ∨ (x.refMode = .manual ∧ r ≠ x.refManual) →
         (x.refMode = .manual → ok x.refManual → becomes { s.ct with reference := some x.refManual, run := [] }) ∧
         (x.refMode = .auto ∨ ¬ ok x.refManual →
           (∀ h, s.ct.held = some h → becomes { s.ct with state := .holdover, run := [] }) ∧
           (s.ct.held = none →
             becomes { s.ct with state := .freerun, reference := none, run := [], timer := none })))) ∧
     (∀ r, s.ct.state = .locked → s.ct.reference = some r →
       (¬ ok r → left) ∧
       (ok r → x.refMode = .manual →
         (r = x.refManual → t = s) ∧
         (r ≠ x.refManual → (ok x.refManual → switched x.refManual) ∧ (¬ ok x.refManual → left))) ∧
       (ok r → x.refMode = .auto →
         let preferred := fun (p : Phase) =>
           ok p ∧ p ≠ r ∧ ∃ before after, x.refPriority = before ++ p :: after ∧ ∀ q ∈ before, q ≠ r ∧ ¬ ok q
         (x.revertive = false ∨ (∀ p, ¬ preferred p) →
           becomes { s.ct with revertPhase := none, revertCount := 0 }) ∧
         (∀ p, x.revertive = true → preferred p →
           let count := if s.ct.revertPhase = some p then s.ct.revertCount + 1 else 1
           (count < 100 → becomes { s.ct with revertPhase := some p, revertCount := count }) ∧
           (100 ≤ count → switched p)))))

/-! ## Magnitudes, events and captures (chapters 4 to 6) -/

/-- The arithmetic of the measurement. A crossing exists exactly between two calibrated samples of which one is below 0 and the
other 0 or above; its fraction lies from 1 to 256 and is the nearest to
256 × |p| / (|p| + |q|), and its position lies in the span of its set (R38). The integer square root of section 6.4 is the
largest number whose square does not exceed the argument, for every argument the part forms (below 2^96). A calibrated sample
is the exact product over 32,768, rounded half away from zero and clamped to 8,388,606 or −8,388,607 (R22): it never equals a
marker code, a gain of 0 gives 0, and without the clamp it lies within half a count of the exact quotient, a half rounded away
from zero. The frequency of a window in millihertz (R65): one half is added and the floor taken; half-cycles of 23,296 to
40,960 fine units give 40,000 to 70,330 mHz whatever WINDOW_CYCLES is; and every window that closes has a frequency, which the
snapshot takes. -/
def Obligations.MeasurementArithmetic : Prop :=
  (∀ (k : Nat) (q : Int), crossingAt k none q = none ∧
    ∀ p, isMarker p = true ∨ isMarker q = true ∨ (p < 0 ∧ q < 0) ∨ (0 ≤ p ∧ 0 ≤ q) → crossingAt k (some p) q = none) ∧
  (∀ (k : Nat) (p q : Int), (p < 0 ∧ 0 ≤ q) ∨ (0 ≤ p ∧ q < 0) → isMarker p = false → isMarker q = false → 1 ≤ k →
    let n := 256 * p.natAbs
    let d := p.natAbs + q.natAbs
    let f := crossingFraction p q
    crossingAt k (some p) q = some ((k - 1) * 256 + f) ∧
    1 ≤ f ∧ f ≤ 256 ∧ (f = 1 ∧ 2 * n < d ∨ 2 * n < 2 * d * f + d ∧ 2 * d * f ≤ 2 * n + d)) ∧
  (∀ n : Nat, n < 2 ^ 96 → isqrt n * isqrt n ≤ n ∧ n < (isqrt n + 1) * (isqrt n + 1)) ∧
  (∀ (raw offset : Int) (gain : Nat),
    let exact : Int := (raw - offset) * gain
    let c := calibrate raw offset gain
    c ≤ 8388606 ∧ -8388607 ≤ c ∧ isMarker c = false ∧
    calibrate raw offset 0 = 0 ∧
    (exact.natAbs + 16384 < 8388607 * 32768 →
      2 * (32768 * c - exact).natAbs ≤ 32768 ∧
      (2 * (32768 * c - exact).natAbs = 32768 → exact.natAbs < (32768 * c).natAbs)) ∧
    (8388607 * 32768 ≤ exact + 16384 → c = 8388606) ∧
    (exact - 16384 ≤ -(8388607 * 32768) → c = -8388607)) ∧
  (∀ cycles length : Nat, 0 < length →
    let f := windowFrequency cycles length
    2 * (cycles * 3276800000) < 2 * length * f + length ∧ 2 * length * f ≤ 2 * (cycles * 3276800000) + length) ∧
  (∀ cycles length : Nat, 0 < cycles → 2 * cycles * 23296 ≤ length → length ≤ 2 * cycles * 40960 →
    40000 ≤ windowFrequency cycles length ∧ windowFrequency cycles length ≤ 70330) ∧
  (∀ (w : Window) (b : Boundary) (stamp : Stamp) (flags : BitVec 8) (s : State),
    (closeWindow w b stamp flags s).mu.snapshot.frequency =
      some (windowFrequency w.cycles (b.position - w.startPosition)))

/-- The forwarder takes the set it holds once the tracker has taken the next one (R30). For each module in order, not DISABLED,
DROP forwards nothing, ALL everything, DECIMATE the strobes that its divisor divides and DURING_CAPTURE while COLLECTING; each
frame carries the strobe, the module, both slot values, the number of the half-cycle the strobe lies in and the tracker state
(R31). The buffer holds 32 frames: a frame created while it is full is dropped with FORWARD_LOSS latched. With the link DOWN no
frame is created (R32). A strobe issue leaves the set it hands on held; whether DURING_CAPTURE is judged before or after what
starts or ends a collection at that issue is free (notes/assumptions/2.md). The conditioned set (R21): a slot value is MISSING
without a frame, INVALID for both slots of a frame with the fault bit, MISSING when no enabled entry names the slot, else the
sample calibrated with the entry's gain and offset (R14, R23); that the fault bit comes before the want of an entry is the
model's choice (notes/assumptions/12.md). An enabled role has the value of its slot, a disabled one MISSING; an enabled role of
a frame without the fault bit is marked overrange at a raw limit or by its slot's bit, no other is (R24). -/
def Obligations.ForwarderTakesTheHeldSet : Prop :=
  (∀ (s : State) (c newest : CondSet) (collecting : Bool), s.cc.held = some c → s.cc.buffer.length ≤ 32 →
     let t := forwardHeld collecting newest s
     let selected := fun (m : Fin 4) => match s.cc.pass.get m with
       | .drop => false
       | .all => true
       | .decimate n => c.k % n == 0
       | .duringCapture => collecting
     let chosen := allModules.filter fun m => decide ((s.mm.mods.get m).state ≠ .disabled) && selected m
     let half := match s.ct.last with
       | none => 0
       | some b => if b.position ≤ c.k * 256 then b.number else (b.number + 4294967295) % 4294967296
     let frames := chosen.map fun m =>
       ({ strobe := c.k, module := m, a := c.slotA.get m, b := c.slotB.get m, boundary := half,
          tracker := s.ct.state } : FwdFrame)
     t.cc.held = some newest ∧
     (s.sl.linkUp = true →
       t.cc.buffer = (s.cc.buffer ++ frames).take 32 ∧
       (32 < s.cc.buffer.length + frames.length → t.sl = { s.sl with latched := s.sl.latched ||| 0x10000 }) ∧
       (s.cc.buffer.length + frames.length ≤ 32 → t.sl = s.sl)) ∧
     (s.sl.linkUp = false → t.cc.buffer = s.cc.buffer ∧ t.sl = s.sl) ∧
     t = (s.setCc t.cc).setSl t.sl) ∧
  (∀ s : State, 4 ≤ nextStrobe s →
     ∃ t, exec .strobeIssue s = .next (settle t) ∧
       t.cc.held = some (condition s.cc.table (nextStrobe s - 4)
         (PerModule.of fun m => ((s.lr.slots.get m).find? fun x => x.index + 4 == nextStrobe s).bind Slot.frame))) ∧
  (∀ (table : PerChannel ChanEntry) (k : Nat) (frames : PerModule (Option LaneFrame)),
     let c := condition table k frames
     let value := fun (m : Fin 4) (slotB : Bool) => if slotB then c.slotB.get m else c.slotA.get m
     let names := fun (r : Channel) (m : Fin 4) (slotB : Bool) =>
       (table.get r).enabled = true ∧ (table.get r).module = m ∧ (table.get r).slotB = slotB
     c.k = k ∧
     (∀ (m : Fin 4) (slotB : Bool),
       (frames.get m = none → value m slotB = 8388607) ∧
       ∀ f, frames.get m = some f →
         let raw := if slotB then f.b else f.a
         (f.fault = true → value m slotB = -8388608) ∧
         (f.fault = false → (∀ r, ¬ names r m slotB) → value m slotB = 8388607) ∧
         (∀ r, f.fault = false → names r m slotB → (∀ q, names q m slotB → q = r) →
           value m slotB = calibrate raw (table.get r).offset (table.get r).gain)) ∧
     ∀ r,
       let e := table.get r
       c.values.get r = (if e.enabled then value e.module e.slotB else 8388607) ∧
       (c.overrange.get r = true ↔ e.enabled = true ∧ ∃ f, frames.get e.module = some f ∧ f.fault = false ∧
         let raw := if e.slotB then f.b else f.a
         (raw = -8388608 ∨ raw = 8388607 ∨ (if e.slotB then f.overB else f.overA) = true)))

/-- A channel value is added to the running records and the window's sums: the strobe count rises, and for a calibrated sample
the present count, and its square joins the sum; an overrange mark flags the window (R56, R63, R73). At a boundary the cycle
just ended is the previous record with the running one; it is valid when the previous record is present, the running one is
not cut and 8 n is at least 7 e (R57), and its value is isqrt(S / n), for a voltage channel as a magnitude of at most 65,535
(R58); the running record becomes the previous one, unless it was cut. The snapshot takes the boundary, the values and the
tracker state after the decision (R60). A RESTART discards the previous records and cuts the running ones (R74). -/
def Obligations.SlidingMagnitudes : Prop :=
  (∀ (c : CondSet) (s : State) (r : Channel) (y : Sums), (s.mu.channels.get r).running = some y →
     let marker := c.values.get r = 8388607 ∨ c.values.get r = -8388608
     let added := fun (z : Sums) =>
       if marker then { z with strobes := z.strobes + 1 }
       else ({ sum := z.sum + (c.values.get r * c.values.get r).toNat, present := z.present + 1,
               strobes := z.strobes + 1 } : Sums)
     let t := addSet c s
     (t.mu.channels.get r).running = some (added y) ∧
     (t.mu.channels.get r).previous = (s.mu.channels.get r).previous ∧
     ∀ w, s.mu.window = some w → ∃ v, t.mu.window = some v ∧ v.sums.get r = added (w.sums.get r) ∧
       (v.flags.getLsbD 6 = true ↔ w.flags.getLsbD 6 = true ∨ ∃ q, c.overrange.get q = true) ∧
       v.number = w.number ∧ v.startNumber = w.startNumber) ∧
  (∀ (b : Boundary) (k : Nat) (s : State) (r : Channel),
     let x := s.mu.channels.get r
     let placed := boundaryWork b k s
     (x.previous = none ∨ x.running = none ∨ x.cut = true → placed.1.get r = none) ∧
     (∀ p q, x.previous = some p → x.running = some q → x.cut = false →
       let n := p.present + q.present
       let e := p.strobes + q.strobes
       let rms := isqrt ((p.sum + q.sum) / n)
       (n * 8 < 7 * e → placed.1.get r = none) ∧
       (7 * e ≤ n * 8 → r.isVoltage = false → placed.1.get r = some rms) ∧
       (7 * e ≤ n * 8 → r.isVoltage = true → placed.1.get r =
         some (min 65535 ((2 * (rms * 10000) + s.sl.settings.declaredCounts) / (2 * s.sl.settings.declaredCounts))))) ∧
     (placed.2.mu.channels.get r).previous = (if x.cut then none else x.running) ∧
     (placed.2.mu.channels.get r).running = some { sum := 0, present := 0, strobes := 0 } ∧
     (placed.2.mu.channels.get r).cut = false) ∧
  (∀ (b : Boundary) (values : PerChannel (Option Nat)) (s : State),
     (decideAt (some (b, values)) s).mu.snapshot =
       { s.mu.snapshot with
         boundary := some b, values := values, tracker := (decideAt (some (b, values)) s).ct.state }) ∧
  (∀ (s : State) (r : Channel) (y : Sums), (s.mu.channels.get r).running = some y →
     (restartMagnitude s).mu.channels.get r =
       { previous := none, running := some { sum := 0, present := 0, strobes := 0 }, cut := true } ∧
     (restartMagnitude s).mu.snapshot = s.mu.snapshot ∧ (restartMagnitude s).mu.counter = s.mu.counter)

/-- Window work at a boundary. With none open, an even boundary while RUNNING starts one: with the counter's number, sums of 0
and the flags EVENT, HOLD, UNQUAL and UNCAL of this boundary and the carried flags; any other boundary starts none (R62, R67 to
R72). With one open, a boundary before its end joins EVENT, HOLD, GAP when an enabled channel has no data, and UNQUAL (R67, R68,
R70, R71). The boundary 2 × WINDOW_CYCLES after its start closes it, GAP being joined for thin coverage too: the open interval
counts it, flagged or clean, and the next window starts there (R64, R70, R121). Reports outside boundaries flag the open
window, or are carried while RUNNING, or are not kept (R69). -/
def Obligations.WindowsAndFlags : Prop :=
  (∀ (b : Boundary) (stamp : Stamp) (event : Bool) (values : PerChannel (Option Nat)) (s : State),
     let t := windowWork b stamp event values s
     let unqual := ∃ c, (s.cc.table.get c).enabled = true ∧
       (s.mm.mods.get (s.cc.table.get c).module).state ≠ .qualified
     let noData := ∃ c, (s.cc.table.get c).enabled = true ∧ values.get c = none
     (s.mu.window = none → s.ia.state ≠ .running ∨ b.number % 2 = 1 → t = s) ∧
     (s.mu.window = none → s.ia.state = .running → b.number % 2 = 0 →
       ∃ w, t.mu.window = some w ∧ w.number = s.mu.counter ∧ w.cycles = s.sl.settings.windowCycles ∧
         w.startNumber = b.number ∧ w.startPosition = b.position ∧ w.startStamp = stamp ∧
         (∀ c, w.sums.get c = { sum := 0, present := 0, strobes := 0 }) ∧
         w.flags.getLsbD 0 = event ∧ w.flags.getLsbD 1 = (b.kind == .synthetic) ∧
         w.flags.getLsbD 2 = s.mu.carriedRefChange ∧ w.flags.getLsbD 3 = false ∧
         (w.flags.getLsbD 4 = true ↔ unqual) ∧ w.flags.getLsbD 6 = false ∧
         (w.flags.getLsbD 5 = true ↔ ∃ c, (t.cc.table.get c).enabled = true ∧
           ((t.cc.table.get c).cal = .default ∨ (t.cc.table.get c).cal = .rejected)) ∧
         w.flags.getLsbD 7 = s.mu.carriedTimeStep ∧ t.cc.pending = ⟨none, none, none, none⟩ ∧
         t.mu.carriedRefChange = false ∧ t.mu.carriedTimeStep = false ∧
         t.mu.counter = (s.mu.counter + 1) % 4294967296) ∧
     (∀ w, s.mu.window = some w → b.number ≠ (w.startNumber + 2 * w.cycles) % 4294967296 →
       ∃ v, t = s.setMu { s.mu with window := some v } ∧ v = { w with flags := v.flags } ∧
         v.flags.getLsbD 0 = (w.flags.getLsbD 0 || event) ∧
         v.flags.getLsbD 1 = (w.flags.getLsbD 1 || b.kind == .synthetic) ∧
         (v.flags.getLsbD 3 = true ↔ w.flags.getLsbD 3 = true ∨ noData) ∧
         (v.flags.getLsbD 4 = true ↔ w.flags.getLsbD 4 = true ∨ unqual) ∧
         ∀ i, i ∈ [2, 5, 6, 7] → v.flags.getLsbD i = w.flags.getLsbD i) ∧
     (∀ w x, s.mu.window = some w → b.number = (w.startNumber + 2 * w.cycles) % 4294967296 →
       s.ia.interval = some x →
       let thin := ∃ c, (s.cc.table.get c).enabled = true ∧
         (w.sums.get c).present * 8 < 7 * (w.sums.get c).strobes
       let clean := w.flags = 0 ∧ event = false ∧ b.kind = .crossing ∧ ¬ unqual ∧ ¬ noData ∧ ¬ thin
       ∃ y v, t.ia.interval = some y ∧ y.number = x.number ∧ y.counted = x.counted + 1 ∧
         (clean → y.flagged = x.flagged ∧ y.union = x.union) ∧
         (¬ clean → y.flagged = x.flagged + 1 ∧ y.clean = x.clean) ∧
         y.freqCount = x.freqCount + 1 ∧
         t.mu.window = some v ∧ v.startNumber = b.number ∧ v.number = s.mu.counter)) ∧
  (∀ s : State,
     (∀ w, s.mu.window = some w →
       reportRefChange s = s.setMu { s.mu with window := some { w with flags := w.flags ||| 4 } } ∧
       reportTimeStep s = s.setMu { s.mu with window := some { w with flags := w.flags ||| 128 } }) ∧
     (s.mu.window = none → s.ia.state = .running →
       reportRefChange s = s.setMu { s.mu with carriedRefChange := true } ∧
       reportTimeStep s = s.setMu { s.mu with carriedTimeStep := true }) ∧
     (s.mu.window = none → s.ia.state ≠ .running → reportRefChange s = s ∧ reportTimeStep s = s))

/-- The two event machines at a boundary. They run while RUNNING; a phase is included when its entry is enabled, its module
QUALIFIED and its magnitude valid (R79, R80). An included phase below dip_start opens a dip, of class INTERRUPTION with a
sub-span when all three are below intr_start (R81, R82, R84). An open event is updated (R83): an INTERRUPTION closes its sub-span
on a phase at or above intr_start + hyst and opens one when all three are below intr_start (R85); the event ends when every
included phase, one at least, is at or above dip_start + hyst (R86), or with no phase included at 4 boundaries in a row (R87),
and its close counts in the campaign summary (R133). The swell machine works so above swell_start (R89), apart from the other
(R90). Outside RUNNING neither runs; the previous currents are kept in every state. That the machines run at every boundary while RUNNING,
the first after the entry whatever its parity, is the model's choice of R79 over R129 (notes/assumptions/47.md). -/
def Obligations.EventMachinesAtABoundary : Prop :=
  ∀ (s : State) (w : BoundaryWork), EventsWf s →
    let v := fun (p : Phase) =>
      if (s.cc.table.get p.voltage).enabled = true ∧
          (s.mm.mods.get (s.cc.table.get p.voltage).module).state = .qualified then w.values.get p.voltage
      else none
    let limits := s.ed.limits.get s.sl.settings.activeProfile
    let r := boundaryEvents w s
    let t := r.2
    let low := fun (threshold : Nat) => ∀ p, ∃ x, v p = some x ∧ x < threshold
    let someIn := ∃ p, v p ≠ none
    (∀ p, t.ed.previousCurrents.get p = w.values.get p.current) ∧ t.ed.lastBoundary = some (w.boundary, w.stamp) ∧
    (s.ia.state ≠ .running → r.1 = false ∧ t.ed.dip = s.ed.dip ∧ t.ed.swell = s.ed.swell) ∧
    (s.ia.state = .running →
      (s.ed.dip = none → (∀ p x, v p = some x → limits.dipStart ≤ x) → t.ed.dip = none) ∧
      (s.ed.dip = none → (∃ p x, v p = some x ∧ x < limits.dipStart) →
        r.1 = true ∧ ∃ e, t.ed.dip = some e ∧ e.number = (s.ed.eventNumber + 1) % 4294967296 ∧
          e.profile = s.sl.settings.activeProfile ∧ e.startThreshold = limits.dipStart ∧
          e.intrStart = limits.intrStart ∧ e.hyst = limits.hyst ∧ e.startNumber = w.boundary.number ∧
          e.startPosition = w.boundary.position ∧ e.startStamp = w.stamp ∧ e.pre = s.ed.previousCurrents ∧
          (∀ p x, v p = some x → x < limits.dipStart →
            ({ phase := p, extreme := x, time := 0, join := 0 } : PhaseEntry) ∈ e.phases) ∧
          (∀ y ∈ e.phases, ∃ x, v y.phase = some x ∧ x < limits.dipStart) ∧
          (low limits.intrStart → e.cls = .interruption ∧ e.openSub = some w.boundary.position) ∧
          (¬ low limits.intrStart → e.cls = .dip ∧ e.openSub = none)) ∧
      (∀ e, s.ed.dip = some e → r.1 = true ∧
        (someIn → (∀ p x, v p = some x → e.startThreshold + e.hyst ≤ x) →
          t.ed.dip = none ∧
          t.ia.summary.dips + t.ia.summary.interruptions = s.ia.summary.dips + s.ia.summary.interruptions + 1) ∧
        (¬ someIn → 3 ≤ e.noInclusion → t.ed.dip = none) ∧
        (¬ someIn → e.noInclusion < 3 → ∃ f, t.ed.dip = some f ∧ f.noInclusion = e.noInclusion + 1 ∧
          f.phases = e.phases ∧ f.cls = e.cls ∧ f.openSub = e.openSub) ∧
        ((∃ p x, v p = some x ∧ x < e.startThreshold + e.hyst) →
          ∃ f, t.ed.dip = some f ∧ f.noInclusion = 0 ∧ f.number = e.number ∧ f.startThreshold = e.startThreshold ∧
            f.pre = e.pre ∧
            (∀ p x, v p = some x → x < e.startThreshold → ∃ y ∈ f.phases, y.phase = p ∧ y.extreme ≤ x) ∧
            (e.cls = .dip → low e.intrStart → f.cls = .interruption ∧ f.openSub = some w.boundary.position) ∧
            (e.cls = .dip → ¬ low e.intrStart → f.cls = .dip) ∧
            (e.cls = .interruption → f.cls = .interruption ∧
              (∀ start, e.openSub = some start →
                ((∃ p x, v p = some x ∧ e.intrStart + e.hyst ≤ x) →
                  f.openSub = none ∧ f.subTotal = e.subTotal + (w.boundary.position - start) ∧
                  f.subCount = min 255 (e.subCount + 1)) ∧
                ((∀ p x, v p = some x → x < e.intrStart + e.hyst) → f.openSub = some start)) ∧
              (e.openSub = none → low e.intrStart → f.openSub = some w.boundary.position) ∧
              (e.openSub = none → ¬ low e.intrStart → f.openSub = none)))) ∧
      (s.ed.swell = none → (∀ p x, v p = some x → x ≤ limits.swellStart) → t.ed.swell = none) ∧
      (s.ed.swell = none → (∃ p x, v p = some x ∧ limits.swellStart < x) →
        r.1 = true ∧ ∃ e, t.ed.swell = some e ∧ e.cls = .swell ∧ e.startThreshold = limits.swellStart ∧
          e.hyst = limits.hyst ∧ e.startNumber = w.boundary.number ∧
          (s.ed.dip.isSome = true → e.number = (s.ed.eventNumber + 1) % 4294967296) ∧
          ∀ p x, v p = some x → limits.swellStart < x →
            ({ phase := p, extreme := x, time := 0, join := 0 } : PhaseEntry) ∈ e.phases) ∧
      (∀ e, s.ed.swell = some e → r.1 = true ∧
        (someIn → (∀ p x, v p = some x → x ≤ e.startThreshold - e.hyst) → t.ed.swell = none) ∧
        (¬ someIn → 3 ≤ e.noInclusion → t.ed.swell = none) ∧
        ((∃ p x, v p = some x ∧ e.startThreshold - e.hyst < x) →
          ∃ f, t.ed.swell = some f ∧ f.number = e.number ∧ f.noInclusion = 0 ∧
            ∀ p x, v p = some x → e.startThreshold < x → ∃ y ∈ f.phases, y.phase = p ∧ x ≤ y.extreme)))

/-- An event closed NORMAL, STOPPED or RESTART is counted in one cell of its grid, by the number of duration thresholds at or
below its milliseconds and the number of residual thresholds above, or swell thresholds at or below, its extreme; the cell
saturates at 65,535, no other cell and no other grid changes, and the cell is written into the record (R94). A NO_DATA close
counts no cell: both grids stay, and the record gives none (R93, R94). The attribution of a dip-family event is taken on its
listed phase with the lowest minimum, the first in order V1, V2, V3 among equals: with the prerequisites in order (its current
entry enabled, its module QUALIFIED at every boundary, a pre-event current, not below ATTRIB_FLOOR, a peak) the rise is 10,000
× (I_ev − I_pre) / I_pre truncated toward zero and limited to 2^31 − 1, DOWNSTREAM at or above ATTRIB_THRESHOLD and else
UPSTREAM; without them it is UNDETERMINED with the reason, as it always is for a swell (R91, R92). -/
def Obligations.EventCountsOneGridCell : Prop :=
  (∀ (s : State) (e : OpenEvent) (cause : CloseCause) (b : Boundary) (stamp : Stamp),
    cause ≠ .noData →
    let closed := e.closeSub b.position
    let micros := microsOf (b.position - e.startPosition)
    let column := (s.ed.grid.duration.filter fun x => decide (x ≤ micros / 1000)).length
    let row :=
      if e.cls = .swell then (s.ed.grid.swell.filter fun x => decide (x ≤ extremeOf closed)).length
      else (s.ed.grid.residual.filter fun x => decide (extremeOf closed < x)).length
    let t := closeEvent e cause b stamp s
    (eventBody s closed cause b stamp).cell = some (row, column) ∧
    t.ed.dipCells.length = s.ed.dipCells.length ∧ t.ed.swellCells.length = s.ed.swellCells.length ∧
    (∀ i, t.ed.dipCells[i]? =
      if e.cls ≠ .swell ∧ i = row * 6 + column then (s.ed.dipCells[i]?).map (satSucc 65535) else s.ed.dipCells[i]?) ∧
    (∀ i, t.ed.swellCells[i]? =
      if e.cls = .swell ∧ i = row * 6 + column then (s.ed.swellCells[i]?).map (satSucc 65535) else s.ed.swellCells[i]?)) ∧
  (∀ (s : State) (e : OpenEvent) (b : Boundary) (stamp : Stamp),
    let t := closeEvent e .noData b stamp s
    (eventBody s (e.closeSub b.position) .noData b stamp).cell = none ∧
    t.ed.dipCells = s.ed.dipCells ∧ t.ed.swellCells = s.ed.swellCells) ∧
  (∀ (s : State) (e : OpenEvent), e.cls = .swell →
    attributionOf s e = { result := .undetermined, phase := none, reason := .swell, rise := none }) ∧
  (∀ (s : State) (e : OpenEvent) (x : PhaseEntry), e.cls ≠ .swell → (e.phases.map PhaseEntry.phase).Nodup →
    x ∈ e.phases → (∀ y ∈ e.phases, x.extreme < y.extreme ∨ x.extreme = y.extreme ∧ x.phase.code ≤ y.phase.code) →
    let none_ := fun (r : AttrReason) => attributionOf s e =
      { result := .undetermined, phase := some x.phase, reason := r, rise := none }
    let enabled := (s.cc.table.get x.phase.current).enabled
    (enabled = false → none_ .noChannel) ∧
    (enabled = true → e.unbroken.get x.phase = false → none_ .unqualified) ∧
    (enabled = true → e.unbroken.get x.phase = true → e.pre.get x.phase = none → none_ .noPre) ∧
    (∀ pre, enabled = true → e.unbroken.get x.phase = true → e.pre.get x.phase = some pre →
      (pre < s.sl.settings.attribFloor → none_ .belowFloor) ∧
      (s.sl.settings.attribFloor ≤ pre → e.peak.get x.phase = none → none_ .noPeak) ∧
      (∀ peak, s.sl.settings.attribFloor ≤ pre → e.peak.get x.phase = some peak →
        let rise := min (Int.tdiv (((peak : Int) - pre) * 10000) pre) 2147483647
        attributionOf s e =
          { result := if (s.sl.settings.attribThreshold : Int) ≤ rise then .downstream else .upstream
            phase := some x.phase, reason := .none, rise := some (pre, peak, rise) })))

/-- Captures. A trigger in FILLING starts one (R103): the settings in force are copied, the ring's points become the pre part,
the post end lies CAPTURE_POST blocks after the trigger strobe, the trigger is the first of the list. In WAITING and HOLDOFF a
trigger is missed: CAPTURE_MISSED is latched, the miss counted, and nothing else changes (R106). In COLLECTING a set whose index
the decimation divides adds its point; the capture closes without a flag when k + 1 is the post end, else TRUNCATED at its memory
limit (R105); that it does so too at the last point stored before the post end, with a decimation of 2 or 4, is the model's choice
(notes/assumptions/74.md). At the close the CAPTURE record is handed on: entered, the unit is WAITING with the capture in hand; lost or not
created, the memory is released (R107). The release, there and when the entry leaves the queue, makes HOLDOFF with CAPTURE_HOLDOFF
blocks to go while RUNNING, else FILLING, with no capture and an empty ring (R108). -/
def Obligations.CapturesStartCollectAndClose : Prop :=
  ∀ s : State,
    let x := s.sl.settings
    let channels := fun (mask : BitVec 8) => allChannels.filter fun r => mask.getLsbD r.code
    let released : CU :=
      if s.ia.state = .running ∧ 0 < x.captureHoldoff then
        { state := .holdoff, ring := [], hand := none, holdoff := x.captureHoldoff * 256 }
      else { state := .filling, ring := [], hand := none, holdoff := 0 }
    (∀ (cause : TrigCause) (event strobe : Nat), s.cu.state = .filling →
      ∃ h, trigger cause event strobe s =
          (.started, s.setCu { state := .collecting, ring := [], hand := some h, holdoff := 0 }) ∧
        h.channels = x.captureChannels ∧ h.decim = x.captureDecim ∧ h.pre = x.capturePre ∧ h.post = x.capturePost ∧
        h.extend = x.captureExtend ∧
        h.limit = 98304 / ((channels x.captureChannels).length * (256 / x.captureDecim) * 3) * (256 / x.captureDecim) ∧
        h.points = s.cu.ring ∧ h.prePoints = s.cu.ring.length ∧ h.postEnd = strobe + x.capturePost * 256 ∧
        h.triggers = [{ cause := cause, event := event, strobe := strobe, outcome := .started }] ∧ h.overflow = 0 ∧
        h.startStrobe = strobe ∧ h.startStamp = stampAt s (strobe * 256) ∧ h.truncated = false ∧ h.cut = false) ∧
    (∀ (cause : TrigCause) (event strobe : Nat), s.cu.state = .waiting ∨ s.cu.state = .holdoff →
      trigger cause event strobe s =
        (.missed, (s.setSl { s.sl with latched := s.sl.latched ||| 0x4000 }).setIa
          { s.ia with summary := { s.ia.summary with missed := s.ia.summary.missed + 1 } })) ∧
    (∀ (c : CondSet) (h : Capture), s.cu.state = .collecting → s.cu.hand = some h →
      let g : Capture :=
        if c.k % h.decim = 0 then
          { h with points := h.points ++ [{ strobe := c.k, values := (channels h.channels).map c.values.get }] }
        else h
      let t := captureTake c s
      (c.k + 1 ≠ h.postEnd → g.points.length < h.limit → t = s.setCu { s.cu with hand := some g }) ∧
      (c.k + 1 = h.postEnd ∨ h.limit ≤ g.points.length →
        (∀ n, s.sr.state = .mounted → s.rq.next = .number n → s.rq.entries.length < 15 →
          (∀ e ∈ s.rq.entries, e.stored = false ∨ e.emitted = false) →
          let truncated := decide (c.k + 1 ≠ h.postEnd)
          t.cu = { s.cu with state := .waiting, hand := some { g with truncated := truncated, cut := false } } ∧
          ∃ e b, t.rq.entries = s.rq.entries ++ [e] ∧ e.record.sequence = n ∧ e.record.body = .capture b ∧
            b.truncated = truncated ∧ b.cut = false ∧ b.channels = h.channels ∧ b.decim = h.decim ∧
            b.prePoints = h.prePoints ∧ b.postPoints = g.points.length - h.prePoints ∧
            b.postEnd = h.postEnd ∧ b.startStrobe = h.startStrobe ∧ b.startStamp = h.startStamp ∧
            b.triggers = h.triggers ∧ b.overflow = h.overflow ∧
            ∀ p more, g.points = p :: more → b.firstStrobe = BitVec.ofNat 32 p.strobe) ∧
        (16 ≤ s.rq.entries.length ∨ (s.sr.state ≠ .mounted ∧ s.sr.state ≠ .faulted) → t.cu = released))) ∧
    (∀ e ∈ s.rq.entries, e.record.body.isCapture = true → e.stored = true → e.emitted = true →
      (sweep s).cu = released ∧ e ∉ (sweep s).rq.entries) ∧
    (∀ e ∈ s.rq.entries, e.record.body.isCapture = true → (discardEntries s).cu = released)

/-- A trigger that arrives in COLLECTING: with the copied CAPTURE_EXTEND on the post end becomes the later of the present
one and the trigger strobe plus CAPTURE_POST × 256, the outcome is EXTENDED; off, the post end is unchanged, the outcome is
ADDED. It is listed while the list holds fewer than 8 entries, else the overflow count rises, saturating at 255; nothing
else of the capture changes (R104). -/
def Obligations.TriggerJoinsCapture : Prop :=
  ∀ (s : State) (h : Capture) (cause : TrigCause) (event strobe : Nat),
    s.cu.state = .collecting → s.cu.hand = some h →
    let outcome : TrigOutcome := if h.extend then .extended else .added
    let postEnd := if h.extend then max h.postEnd (strobe + h.post * 256) else h.postEnd
    let first : Trigger := { cause := cause, event := event, strobe := strobe, outcome := outcome }
    trigger cause event strobe s =
      (outcome, s.setCu { s.cu with hand := some (
        if h.triggers.length < 8 then { h with postEnd := postEnd, triggers := h.triggers ++ [first] }
        else { h with postEnd := postEnd, overflow := satSucc 255 h.overflow }) })

/-! ## Time, intervals and the campaign (chapter 7) -/

/-- The strobe time advances by 160,000 ticks at a strobe issue; at a second rollover the seconds rise by one, wrapping after
0xFFFFFFFF (R113), and slew is applied: at most 102,400 ticks toward the remainder, and never back across the second (R116).
In RUNNING, when the seconds are then a whole multiple of INTERVAL_SECONDS in the day, the next interval opens there with the
next number and without the PARTIAL mark (R120). -/
def Obligations.TimeAdvancesAndRollsOver : Prop :=
  (∀ t : TB, t.sub < 2048000000 →
     (t.sub + 160000 < 2048000000 → t.advance = { t with sub := t.sub + 160000 }) ∧
     (2048000000 ≤ t.sub + 160000 →
       ∃ (u : Nat) (a : Int),
         u = t.sub + 160000 - 2048000000 ∧
         a = max (min t.slew 102400) (-(min 102400 u : Nat)) ∧
         t.advance =
           { t with seconds := (t.seconds + 1) % 4294967296, sub := (u + a).toNat, slew := t.slew - a } ∧
         0 ≤ u + a)) ∧
  (∀ s : State, 2048000000 ≤ s.tb.sub + 160000 →
     ∃ t, exec .secondRollover s = .next (settle t) ∧
       t.tb = (s.tb.advance).grow s.sl.settings.timeSource ∧
       t.tb.seconds = (s.tb.seconds + 1) % 4294967296 ∧
       ∀ x, s.ia.state = .running → s.ia.interval = some x →
         (s.tb.seconds + 1) % 4294967296 % 86400 % s.sl.settings.intervalSeconds = 0 →
         ∃ y, t.ia.interval = some y ∧ y.number = x.number + 1 ∧ y.partialMark = false ∧
           y.start = { seconds := (s.tb.seconds + 1) % 4294967296, micros := 0 })

/-- Four timers at the strobe issue that completes them. While TIME_SOURCE is MARKED, a mark age above 3,840,000 makes the
quality DRIFTING (R118). The arm timer at ARM_TIMEOUT_S takes the campaign into RUNNING, with an interval open (R128, R129). The
holdoff count at 0 makes the Capture Unit FILLING (R101), when no CAPTURE record waits in the queue: one that left at the same
time would start a new holdoff (R108). The oldest byte of the page buffer at FLUSH_AGE_S makes a flush due (R147). -/
def Obligations.TimersAct : Prop :=
  (∀ (s : State) (n : Nat), s.sl.settings.timeSource = .marked → s.tb.quality = .synced →
     s.tb.age = some n → 3840000 ≤ n →
     ∃ t, exec .drifting s = .next (settle t) ∧ t.tb.quality = .drifting ∧ t.tb.age = some (min 4294967295 (n + 1))) ∧
  (∀ s : State, s.ia.state = .arming →
     s.sl.settings.armTimeout * 12800 ≤ s.ia.armTimer + 1 →
     ∃ t, exec .armTimeout s = .next (settle t) ∧ t.ia.state = .running ∧ t.ia.interval.isSome = true) ∧
  (∀ s : State, s.cu.state = .holdoff → s.cu.holdoff = 1 → 4 ≤ nextStrobe s →
     (∀ e ∈ s.rq.entries, e.record.body.isCapture = false) →
     ∃ t, exec .holdoffEnd s = .next (settle t) ∧ t.cu.state = .filling ∧ t.cu.holdoff = 0) ∧
  (∀ s : State, s.sw.buffer ≠ [] → s.sl.settings.flushAge * 12800 ≤ nextStrobe s - s.sw.oldest →
     ∃ e, exec .flushAgeExpiry s = .next (settle e) ∧ e.sw.flushDue = true ∧ e.sw.buffer = s.sw.buffer ∧
       e.lr.strobe = nextStrobe s)

/-- A MARK frame: discarded with the link DOWN, since a frame arrives only while it is UP (R185), with a payload that is not 8
bytes, whatever TIME_SOURCE is, in FREE and with microseconds above 999,999 (R115); accepted otherwise, it makes the quality
SYNCED and the age 0, replaces the slew remainder by its offset when that lies within the step limit (R116), and steps the
time otherwise: the time becomes the mark time less the periods since the strobe, the remainder 0, TIME_STEP is latched and
the open interval gives way to the next one, PARTIAL (R117, R125). -/
def Obligations.MarkSlewsOrSteps : Prop :=
  (∀ (s : State) (payload : List Byte) (periods : BitVec 11), payload.length ≠ 8 → payload.length ≤ 1024 →
    exec (.markArrival (inboundFrame 2 payload) periods) s = .next (settle s)) ∧
  ∀ (s : State) (seconds micros : Nat) (periods : BitVec 11), seconds < 4294967296 → micros < 4294967296 →
    let frame := inboundFrame 2 (markPayload seconds micros)
    let late := periods.toNat * 625 / 8
    let mark : Int := (seconds * 2048000000 + micros * 2048 : Nat)
    let offset : Int := mark - (s.tb.seconds * 2048000000 + s.tb.sub + late : Nat)
    (s.sl.linkUp = false ∨ s.sl.settings.timeSource = .free ∨ 999999 < micros →
      exec (.markArrival frame periods) s = .next (settle s)) ∧
    (s.sl.linkUp = true → s.sl.settings.timeSource = .marked → micros ≤ 999999 →
      offset.natAbs ≤ s.sl.settings.stepLimitMs * 2048000 →
      exec (.markArrival frame periods) s =
        .next (settle (s.setTb { s.tb with quality := .synced, age := some 0, slew := offset }))) ∧
    (s.sl.linkUp = true → s.sl.settings.timeSource = .marked → micros ≤ 999999 →
      s.sl.settings.stepLimitMs * 2048000 < offset.natAbs →
      ∃ e, exec (.markArrival frame periods) s = .next (settle e) ∧
        e.tb.seconds * 2048000000 + e.tb.sub = (mark - late).toNat ∧ e.tb.sub < 2048000000 ∧
        e.tb.quality = .synced ∧ e.tb.age = some 0 ∧ e.tb.slew = 0 ∧
        e.sl.latched.getLsbD 13 = true ∧
        e.lr = s.lr ∧ e.mm = s.mm ∧ e.cc = s.cc ∧ e.ct = s.ct ∧
        ∀ x, s.ia.interval = some x →
          ∃ y, e.ia.interval = some y ∧ y.number = x.number + 1 ∧ y.partialMark = true)

/-- The close of an interval: the record handed on has what was held (R123): each voltage channel's RMS as a magnitude with its
minimum and maximum, over all windows and over clean ones, absent without a window; the currents' RMS; the frequency's mean. A
phase's band result compares its clean RMS with the band of the profile (R124); the interval is in band when it has a result and
none is OUT, and is counted (R133). A window result adds to the open interval, a clean one to the clean items too (R121), and the
start of an event counts in it, as does the escalation of a dip that all three phases take below the interruption threshold
(R84, R122). An application of the pending set: with nothing pending it does nothing; else every
pending value and the pending table come into force, the set is empty and a SETTINGS record names what was applied; HOLD skips
it at an interval close (R193). -/
def Obligations.IntervalsCloseAndSettingsApply : Prop :=
  (∀ (s : State) (x : Interval) (stop : Stamp) (ended early : Bool), s.ia.interval = some x →
    let d := s.sl.settings.declaredCounts
    let profile := s.ed.limits.get s.sl.settings.activeProfile
    let figures := fun (y : VoltStat) (r : Option (Nat × Nat × Nat)) =>
      (y.count = 0 → r = none) ∧
      (∀ lo hi, y.count ≠ 0 → y.min = some lo → y.max = some hi →
        r = some (min 65535 ((2 * (isqrt (y.sumSq / y.count) * 10000) + d) / (2 * d)), lo, hi))
    let band := fun (r : VoltResult) =>
      (r.clean = none → r.band = none) ∧
      (∀ rms lo hi, r.clean = some (rms, lo, hi) →
        r.band = some (decide (profile.bandLow ≤ rms ∧ rms ≤ profile.bandHigh)))
    let current := fun (y : CurrStat) => if y.count = 0 then none else some (isqrt (y.sumSq / y.count))
    let t := closeInterval stop ended early s
    ∃ b : IntervalBody, t.rq = (handRecord (.interval b) s).2.rq ∧
      b.number = x.number ∧ b.start = x.start ∧ b.stop = stop ∧ b.partialMark = (x.partialMark || ended) ∧
      b.early = early ∧ b.counted = x.counted ∧ b.flagged = x.flagged ∧ b.union = x.union ∧
      figures x.volts.v1 b.volts.v1.values ∧ figures x.volts.v2 b.volts.v2.values ∧
      figures x.volts.v3 b.volts.v3.values ∧ figures x.volts.vne b.volts.vne.values ∧
      figures x.clean.v1 b.volts.v1.clean ∧ figures x.clean.v2 b.volts.v2.clean ∧
      figures x.clean.v3 b.volts.v3.clean ∧ figures x.clean.vne b.volts.vne.clean ∧
      band b.volts.v1 ∧ band b.volts.v2 ∧ band b.volts.v3 ∧ b.volts.vne.band = none ∧
      b.currents = ⟨current x.currents.i1, current x.currents.i2, current x.currents.i3, current x.currents.neutral⟩ ∧
      b.freqMean = (if x.freqCount = 0 then none else some ((2 * x.freqSum + x.freqCount) / (2 * x.freqCount))) ∧
      b.freqMin = x.freqMin ∧ b.freqMax = x.freqMax ∧ b.profile = s.sl.settings.activeProfile ∧
      b.dipStarts = x.dipStarts ∧ b.escalations = x.escalations ∧ b.swellStarts = x.swellStarts ∧
      b.lost = s.rq.intervalLoss ∧
      let bands := [b.volts.v1.band, b.volts.v2.band, b.volts.v3.band]
      t.ia = { s.ia with
        interval := none
        summary := { s.ia.summary with
          intervals := s.ia.summary.intervals + 1
          inBand := s.ia.summary.inBand + (if some true ∈ bands ∧ some false ∉ bands then 1 else 0)
          noClean := s.ia.summary.noClean + (if some true ∉ bands ∧ some false ∉ bands then 1 else 0) } }) ∧
  (∀ (s : State) (w : WindowResult) (x : Interval), s.ia.interval = some x →
    let added := fun (y z : VoltStat) (rms magnitude : Option Nat) =>
      (rms = none → z = y) ∧
      ∀ r m, rms = some r → magnitude = some m →
        z = { count := y.count + 1, sumSq := y.sumSq + r * r, min := some ((y.min.map (min m)).getD m),
              max := some ((y.max.map (max m)).getD m) }
    let joined := fun (y z : CurrStat) (rms : Option Nat) =>
      (rms = none → z = y) ∧ ∀ r, rms = some r → z = { count := y.count + 1, sumSq := y.sumSq + r * r }
    ∃ y, windowArrives w s = s.setIa { s.ia with interval := some y } ∧
      y.counted = x.counted + 1 ∧ y.union = x.union ||| w.flags ∧
      y.flagged = x.flagged + (if w.flags = 0 then 0 else 1) ∧
      added x.volts.v1 y.volts.v1 w.rms.v1 w.magnitudes.v1 ∧ added x.volts.v2 y.volts.v2 w.rms.v2 w.magnitudes.v2 ∧
      added x.volts.v3 y.volts.v3 w.rms.v3 w.magnitudes.v3 ∧ added x.volts.vne y.volts.vne w.rms.vne w.magnitudes.vne ∧
      (w.flags ≠ 0 → y.clean = x.clean) ∧
      (w.flags = 0 →
        added x.clean.v1 y.clean.v1 w.rms.v1 w.magnitudes.v1 ∧ added x.clean.v2 y.clean.v2 w.rms.v2 w.magnitudes.v2 ∧
        added x.clean.v3 y.clean.v3 w.rms.v3 w.magnitudes.v3 ∧
        added x.clean.vne y.clean.vne w.rms.vne w.magnitudes.vne) ∧
      joined x.currents.i1 y.currents.i1 w.rms.i1 ∧ joined x.currents.i2 y.currents.i2 w.rms.i2 ∧
      joined x.currents.i3 y.currents.i3 w.rms.i3 ∧ joined x.currents.neutral y.currents.neutral w.rms.neutral ∧
      y.freqCount = x.freqCount + 1 ∧ y.freqSum = x.freqSum + w.frequency ∧
      y.freqMin = some ((x.freqMin.map (min w.frequency)).getD w.frequency) ∧
      y.freqMax = some ((x.freqMax.map (max w.frequency)).getD w.frequency) ∧
      y.number = x.number ∧ y.start = x.start ∧ y.partialMark = x.partialMark) ∧
  (∀ (s : State) (w : BoundaryWork) (x : Interval), s.ia.interval = some x →
    (openDip w s).ia.interval = some { x with dipStarts := x.dipStarts + 1 } ∧
    (openSwell w s).ia.interval = some { x with swellStarts := x.swellStarts + 1 } ∧
    let escalates := ∃ e, s.ed.dip = some e ∧ e.cls = .dip ∧ ∀ p : Phase,
      (s.cc.table.get p.voltage).enabled = true ∧
        (s.mm.mods.get (s.cc.table.get p.voltage).module).state = .qualified ∧
        ∃ v, w.values.get p.voltage = some v ∧ v < e.intrStart
    (escalates → (escalate w s).ia.interval = some { x with escalations := x.escalations + 1 } ∧
      ∃ e, (escalate w s).ed.dip = some e ∧ e.cls = .interruption) ∧
    (¬ escalates → escalate w s = s)) ∧
  (∀ (s : State) (cause : SettingsCause),
    let p := s.sl.pending
    let x := s.sl.settings
    let t := applyPending cause s
    let empty : PendingSet := ⟨none, none, none, none⟩
    let inForce : Settings :=
      { x with
        intervalSeconds := p.intervalSeconds.getD x.intervalSeconds, activeProfile := p.activeProfile.getD x.activeProfile,
        attribThreshold := p.attribThreshold.getD x.attribThreshold, attribFloor := p.attribFloor.getD x.attribFloor }
    (x.hold = true → applyUnlessHold cause s = s) ∧ (x.hold = false → applyUnlessHold cause s = t) ∧
    (p = empty → s.ed.pendingLimits = none → t = s) ∧
    t.sl.pending = empty ∧ t.ed.pendingLimits = none ∧ t.sl.settings = inForce ∧
    t.ed.limits = s.ed.pendingLimits.getD s.ed.limits ∧
    (∀ n, p ≠ empty ∨ s.ed.pendingLimits.isSome = true → s.sr.state = .mounted → s.rq.next = .number n →
      s.rq.entries.length < 15 → (∀ e ∈ s.rq.entries, e.stored = false ∨ e.emitted = false) →
      ∃ e mask, t.rq.entries = s.rq.entries ++ [e] ∧ e.record.sequence = n ∧
        e.record.body = .settings
          { cause := cause, applied := mask, intervalSeconds := inForce.intervalSeconds,
            activeProfile := inForce.activeProfile, attribThreshold := inForce.attribThreshold,
            attribFloor := inForce.attribFloor, profile := t.ed.limits.get inForce.activeProfile } ∧
        mask.getLsbD 0 = p.intervalSeconds.isSome ∧ mask.getLsbD 1 = p.activeProfile.isSome ∧
        mask.getLsbD 2 = p.attribThreshold.isSome ∧ mask.getLsbD 3 = p.attribFloor.isSome ∧
        mask.getLsbD 4 = s.ed.pendingLimits.isSome ∧ ∀ i, 5 ≤ i → mask.getLsbD i = false))
/-! ## The station link (chapter 11) -/

/-- At the link-up report the link is UP and the arbiter chooses. At the link-down report every reply, the sample buffer, the
record in live emission, the frame in transmission and the piece held are gone, every readback has ended, and every queue
entry is marked emitted (R185, R188, R190, R172). -/
def Obligations.LinkReports : Prop :=
  (∀ s : State,
     ∃ t, exec .linkUp s = .next (settle t) ∧ t.sl.linkUp = true ∧
       (s.sl.linkUp = false → exec .linkUp s = .next (settle (sendFirst (s.setSl { s.sl with linkUp := true }))))) ∧
  (∀ s : State, s.sl.linkUp = true →
     ∃ t, exec .linkDown s = .next (settle t) ∧
       t.sl.linkUp = false ∧ t.sl.replies = [] ∧ t.sl.live = none ∧ t.sl.tx = none ∧ t.cc.buffer = [] ∧
       t.sr.piece = none ∧ (ReadbackWf s → t.sr.queue = [] ∧ t.sr.current = none) ∧
       (∀ e ∈ t.rq.entries, e.emitted = true) ∧
       t.lr = s.lr ∧ t.mm = s.mm ∧ t.ct = s.ct ∧ t.tb = s.tb)

/-- A whole frame whose length, CRC-32 or kind does not check is discarded with LINK_ERROR latched, whichever of the three
arrival commands brings it, and changes nothing while the link is DOWN (R185). -/
def Obligations.BadLinkFramesLatchLinkError : Prop :=
  (∀ frame : List Byte,
    frame.length ≠ 7 + fieldNat frame 1 2 ∨ 1024 < fieldNat frame 1 2 ∨
      frame.drop (3 + fieldNat frame 1 2) ≠ crc32Bytes (frame.take (3 + fieldNat frame 1 2)) →
    readLinkFrame frame = .discard) ∧
  (∀ (s : State) (frame : List Byte) (periods : BitVec 11), readLinkFrame frame = .discard →
    (s.sl.linkUp = true →
      exec (.inboundFrameDiscard frame) s =
        .next (settle (s.setSl { s.sl with latched := s.sl.latched ||| 0x80000 })) ∧
      exec (.orderArrival frame) s =
        .next (settle (s.setSl { s.sl with latched := s.sl.latched ||| 0x80000 })) ∧
      exec (.markArrival frame periods) s =
        .next (settle (s.setSl { s.sl with latched := s.sl.latched ||| 0x80000 }))) ∧
    (s.sl.linkUp = false →
      exec (.inboundFrameDiscard frame) s = .next (settle s) ∧ exec (.orderArrival frame) s = .next (settle s) ∧
      exec (.markArrival frame periods) s = .next (settle s)))

/-- An ORDER frame that checks brings its order exactly as the order's own command does, while the link is UP (R185), for
every order that its arguments spell (a command with a GRID entry wider than its field has no such frame). An order enters at
the back of a buffer of fewer than 4 orders and waits there while the reply queue has fewer than 2 free places
(R186, R187); with 4 orders it does not enter: ORDER_OVERFLOW is latched, and it is refused FULL if one place is free (R186). -/
def Obligations.OrdersReachTheBuffer : Prop :=
  (∀ (s : State) (i : Instr) (o : Order), orderOf i = some o → o.args.length ≤ 1022 → s.sl.linkUp = true →
     (o.whole = true →
       exec (.orderArrival (inboundFrame 1 (o.tag :: o.kind :: o.args))) s = .next (settle (submitOrder o s))) ∧
     exec i s = .next (settle (submitOrder o s))) ∧
  (∀ (s : State) (i : Instr) (o : Order), orderOf i = some o →
     (s.sl.orders.length < 4 → freePlaces s < 2 →
       exec i s = .next (settle (s.setSl { s.sl with orders := s.sl.orders ++ [o] }))) ∧
     (4 ≤ s.sl.orders.length →
       let t := s.setSl { s.sl with latched := s.sl.latched ||| 0x100000 }
       exec i s = .next (settle (if 1 ≤ freePlaces s then refuse o.tag o.kind.toNat .full t else t))))

/-- An order of an unknown kind is refused UNKNOWN, and so is LOAD TABLE or READ TABLE of a table outside the four (R194). An
order whose arguments are too short or too long for its kind, whose count lies outside its range or whose entries carry a code
outside their lists is refused INVALID: the kinds without arguments, those of one length, and SET, GET, LOAD TABLE, READ TABLE,
MAP LOAD and MODULE WRITE with their counts. Nothing else changes (R187). MAP LOAD carries its body in every status (section
12.4). That a SET or GET refused whole has an empty body, and a MAP LOAD the count 0, is the model's choice
(notes/assumptions/31.md, 32.md), and so is that the enabled byte of a CHANNEL entry has the codes 0 and 1 alone
(notes/assumptions/70.md). -/
def Obligations.UnknownAndMalformedOrdersRefused : Prop :=
  ∀ (s : State) (tag kind : Byte) (args : List Byte), Ready s →
    let count := fun (at_ : Nat) => ((args.drop at_).headD 0).toNat
    let counted := fun (at_ width most : Nat) =>
      count at_ < 1 ∨ most < count at_ ∨ args.length ≠ at_ + 1 + width * count at_
    let table := (args.headD 0).toNat
    ((kind = 0 ∨ 21 < kind.toNat) →
      exec (.orderUnknownKind tag kind args) s =
        .next (settle (formReply (plainReply tag kind .refused .unknown) s))) ∧
    (args.length ≤ 1022 → s.sl.linkUp = true →
      let refused := fun (r : Reason) (body : List Byte) =>
        exec (.orderArrival (inboundFrame 1 (tag :: kind :: args))) s =
          .next (settle (formReply { plainReply tag kind .refused r with body := body } s))
      (kind.toNat ∈ [5, 6, 7, 8, 10, 11, 12, 14, 21] → args ≠ [] → refused .invalid []) ∧
      (kind.toNat ∈ [17, 20] → args.length ≠ 1 → refused .invalid []) ∧
      (kind = 18 → args.length ≠ 3 → refused .invalid []) ∧
      (kind.toNat ∈ [9, 15] → args.length ≠ 4 → refused .invalid []) ∧
      (kind = 16 → args.length ≠ 6 → refused .invalid []) ∧
      (kind = 1 → counted 0 5 16 → refused .invalid []) ∧
      (kind = 2 → counted 0 1 16 → refused .invalid []) ∧
      (kind = 13 → counted 2 2 64 → refused .invalid [0]) ∧
      (kind = 19 → counted 2 1 16 → refused .invalid []) ∧
      (kind = 3 →
        (args.length < 2 → refused .invalid []) ∧
        (2 ≤ args.length → 3 < table → refused .unknown []) ∧
        (table = 0 → counted 1 8 8 → refused .invalid []) ∧
        (∀ i, table = 0 → 8 * i + 2 < args.length →
          7 < (byteAt args (2 + 8 * i)).toNat ∨ 1 < (byteAt args (4 + 8 * i)).toNat ∨
            1 < (byteAt args (5 + 8 * i)).toNat → refused .invalid []) ∧
        (table = 1 → counted 1 3 4 → refused .invalid []) ∧
        (∀ i, table = 1 → 3 * i + 2 < args.length → 3 < (byteAt args (3 + 3 * i)).toNat → refused .invalid []) ∧
        (table = 2 → counted 1 13 4 → refused .invalid []) ∧
        (table = 3 → count 1 < 1 ∨ 3 < count 1 ∨ 2 < count 2 ∨ args.length < 4 → refused .invalid [])) ∧
      (kind = 4 →
        (args.length ≠ 1 → refused .invalid []) ∧ (args.length = 1 → 3 < table → refused .unknown [])))

/-- The end of a transmission frees the transmitter, and the arbiter chooses the first category that has something ready: the
front reply, a fragment of the live record, the readback piece held, every forwarded sample; each clause says which frame begins
when its category is the first with something ready, with the summary bit and campaign state then in force (R188, R189, R191).
Live emission (R190): a free emitter takes the first queue entry without the emitted mark; fragment i carries the record's bytes
from i × 1,000 on; when a fragment has been sent the next is ready, and when the last has been sent the emitter is free and the
entry has its emitted mark. -/
def Obligations.TransmitEndChoosesNext : Prop :=
  (∀ (s : State) (f : TxFrame), s.sl.tx = some f →
    let idle := s.setSl { s.sl with tx := none }
    let begun := fun (kind : TxKind) (frameKind : Nat) (payload : List Byte) (t : State) =>
      exec .frameTransmitEnd s = .next (settle (t.setSl { t.sl with
        tx := some { kind := kind, bytes := linkFrame frameKind (summaryBit s) s.ia.state payload } }))
    (∀ sequence last, f.kind = .live sequence last →
      exec .frameTransmitEnd s = .next (settle (sendFirst (liveSent sequence last idle)))) ∧
    (f.kind = .reply ∨ f.kind = .readback ∨ f.kind = .sample →
      exec .frameTransmitEnd s = .next (settle (sendFirst idle)) ∧
      (liveCalm s = true →
        (∀ r rest, s.sl.replies = r :: rest → begun .reply 8 r.bytes (s.setSl { s.sl with replies := rest })) ∧
        (s.sl.replies = [] →
          (∀ l e, s.sl.live = some l → l.sending = false → entryOf s l.sequence = some e →
            let record := e.record.bytes (capturePoints s)
            let last := decide (record.length ≤ (l.index + 1) * 1000)
            begun (.live l.sequence last) 9
              ([if last then 2 else 0, 0] ++ leBytes 4 l.sequence ++ leBytes 2 l.index ++
                (record.drop (l.index * 1000)).take 1000)
              (s.setSl { s.sl with live := some { l with sending := true } })) ∧
          (s.sl.live = none →
            (∀ p, s.sr.piece = some p →
              let mark := if p.last = true then
                  (match p.mark with
                    | .good => 0
                    | .damaged => 1
                    | .torn => 2
                    | .pending => 3)
                else 0
              begun .readback 9
                (leBytes 1 (1 + (if p.last then 2 else 0) + 4 * mark) ++ [p.tag] ++ leBytes 4 p.sequence ++
                  leBytes 2 p.index ++ p.bytes)
                (s.setSr { s.sr with piece := none })) ∧
            (s.sr.piece = none →
              (s.cc.buffer ≠ [] →
                begun .sample 10 (leBytes 1 s.cc.buffer.length ++ s.cc.buffer.flatMap FwdFrame.bytes)
                  (s.setCc { s.cc with buffer := [] })) ∧
              (s.cc.buffer = [] → exec .frameTransmitEnd s = .next (settle idle)))))))) ∧
  (∀ s : State,
    (∀ before e after, s.sl.live = none → s.sl.linkUp = true → s.sl.settings.liveRecords = true →
      s.rq.entries = before ++ e :: after → (∀ x ∈ before, x.emitted = true) → e.emitted = false →
      liveTake s = s.setSl { s.sl with live := some { sequence := e.record.sequence, index := 0, sending := false } }) ∧
    (∀ sequence index, s.sl.live = some { sequence := sequence, index := index, sending := true } →
      liveSent sequence false s =
        s.setSl { s.sl with live := some { sequence := sequence, index := index + 1, sending := false } } ∧
      (liveSent sequence true s).sl.live = none ∧
      (liveSent sequence true s).rq.entries =
        (s.rq.entries.map fun x => if x.record.sequence = sequence then { x with emitted := true } else x).filter
          fun x => !(x.stored && x.emitted)))

/-! ## Orders of the link and the tables -/

/-- SET of 1 to 16 items: they are handled in list order, each in the state that the items before it leave (`setItem`), and the
reply has each item's outcome and, over all, REFUSED with the first refused item's reason, else CLAMPED, else OK (R192; the
value placed of a refused item all ones, notes/assumptions/14.md; what a refused item is: `RefusedSetChangesNothing`). That the
reply's body is its items without a count byte is the model's reading of section 12.4 (notes/assumptions/32.md). An item whose
class lets it be taken now: a number is clamped into its range, QUAL_ACCEPT to QUAL_REJECT and LOG_SECTORS to STORE_SECTORS − 1
too; the value comes into force, and the outcome is CLAMPED or OK with the value placed: IMMEDIATE settings always, STOPPED and
BOUNDARY ones in STOPPED, UNMOUNTED ones in UNMOUNTED. A BOUNDARY one goes into the pending set outside STOPPED (R193). What
blocks do at once: the memory rule and the ring after a capture setting (R100), the slew at FREE (R115), the end of live
emission (R139, R190), the stop mark at OVERWRITE (R148; the tail by notes/assumptions/38.md), the cache (R143), the bus owner
(R177). -/
def Obligations.SetPlacesValues : Prop :=
  (∀ (s : State) (tag : Byte) (items : List (Byte × BitVec 32)), Ready s → 1 ≤ items.length → items.length ≤ 16 →
    let run := items.foldl
      (fun (a : List ItemResult × State) i => (a.1 ++ [(setItem i.1 i.2.toNat a.2).1], (setItem i.1 i.2.toNat a.2).2)) ([], s)
    let answers := fun (status : ReplyStatus) (reason : Reason) =>
      exec (.set tag items) s =
        .next (settle (formReply
          { tag := tag, kind := 1, status := status, reason := reason, cancelled := false,
            body := run.1.flatMap fun r =>
              [r.code] ++ leBytes 1 r.status.code ++ leBytes 1 r.reason.code ++
                (match r.placed with
                  | some v => leBytes 4 v
                  | none => [0xFF, 0xFF, 0xFF, 0xFF]) } run.2))
    (∀ before r after, run.1 = before ++ r :: after → (∀ x ∈ before, x.status ≠ .refused) → r.status = .refused →
      answers .refused r.reason) ∧
    ((∀ x ∈ run.1, x.status ≠ .refused) →
      ((∃ x ∈ run.1, x.status = .clamped) → answers .clamped .none) ∧
      ((∀ x ∈ run.1, x.status ≠ .clamped) → answers .ok .none))) ∧
  ∀ (s : State) (tag : Byte) (code : Byte) (value : BitVec 32) (k : Setting),
    let x := s.sl.settings
    let v := value.toNat
    let stopped := s.ia.state = .stopped
    let unmounted := s.sr.state = .unmounted
    let sets := fun (clamped : Bool) (placed : Nat) (t : State) =>
      let status : ReplyStatus := if clamped then .clamped else .ok
      setItem code v s = (⟨code, status, .none, some placed⟩, t) ∧
      (Ready s → exec (.set tag [(code, value)]) s =
        .next (settle (formReply
          { tag := tag, kind := 1, status := status, reason := .none, cancelled := false,
            body := [code] ++ leBytes 1 status.code ++ [0] ++ leBytes 4 placed } t)))
    let into := fun (lo hi : Nat) => if v < lo then lo else if hi < v then hi else v
    let force := fun (y : Settings) => s.setSl { s.sl with settings := y }
    let places := fun (w : Nat) (y : Settings) => sets (decide (w ≠ v)) w (force y)
    (∀ lo hi,
      ((code, k, lo, hi) ∈
        ([(12, .trackFloor, 0, 10000), (13, .holdoverLimit, 1, 3600), (15, .qualReject, 0, 127),
          (16, .qualGoodTimes, 0, 15), (17, .qualFailTimes, 0, 15), (18, .armTimeout, 1, 600),
          (25, .captureHoldoff, 0, 255), (27, .stepLimitMs, 1, 1000), (30, .flushAge, 1, 60), (35, .writerBurst, 1, 16),
          (36, .readerBurst, 1, 16), (37, .urgentLevel, 1, 16)] : List (Byte × Setting × Nat × Nat)) ∨
       stopped ∧ (code, k, lo, hi) ∈
        ([(2, .windowCycles, 8, 16), (3, .declaredCounts, 1, 8388606), (6, .attribThreshold, 0, 65535),
          (7, .attribFloor, 1, 8388606)] : List (Byte × Setting × Nat × Nat)) ∨
       unmounted ∧ (code, k, lo, hi) = (31, .storeSectors, 5, 65535)) →
      places (into lo hi) (k.write x (into lo hi))) ∧
    (∀ n,
      ((code, k, n) ∈
        ([(8, .refMode, 2), (9, .refManual, 3), (11, .revertive, 2), (23, .captureTriggers, 8), (24, .captureExtend, 2),
          (39, .hold, 2), (40, .attnEnable, 2097152)] : List (Byte × Setting × Nat)) ∨
       stopped ∧ (code, k, n) = (5, .activeProfile, 4) ∨ unmounted ∧ (code, k, n) = (32, .mapMode, 2)) →
      v < n → places v (k.write x v)) ∧
    (code = 1 → stopped → v = 50 ∨ v = 60 → places v { x with nominalFreq := v }) ∧
    (∀ p q r : Phase, code = 10 → p ≠ q → p ≠ r → q ≠ r → v = p.code + 256 * q.code + 65536 * r.code →
      places v { x with refPriority := [p, q, r] }) ∧
    (code = 14 → places (min (into 0 127) x.qualReject) { x with qualAccept := min (into 0 127) x.qualReject }) ∧
    (code = 33 → unmounted → places (min (into 4 1024) (x.storeSectors - 1))
      { x with logSectors := min (into 4 1024) (x.storeSectors - 1) }) ∧
    (code = 4 → v ∈ [60, 120, 180, 300, 600, 900, 1200, 1800, 3600, 7200] →
      (stopped → places v { x with intervalSeconds := v }) ∧
      (¬ stopped → sets false v (s.setSl { s.sl with pending := { s.sl.pending with intervalSeconds := some v } }))) ∧
    (¬ stopped →
      (code = 5 → v < 4 → sets false v (s.setSl { s.sl with pending := { s.sl.pending with activeProfile := some v } })) ∧
      (code = 6 → sets (decide (into 0 65535 ≠ v)) (into 0 65535)
        (s.setSl { s.sl with pending := { s.sl.pending with attribThreshold := some (into 0 65535) } })) ∧
      (code = 7 → sets (decide (into 1 8388606 ≠ v)) (into 1 8388606)
        (s.setSl { s.sl with pending := { s.sl.pending with attribFloor := some (into 1 8388606) } }))) ∧
    (∀ w, (code, k, w) ∈
        ([(19, .capturePre, into 0 4), (20, .capturePost, into 1 20), (21, .captureDecim, v), (22, .captureChannels, v)] :
          List (Byte × Setting × Nat)) → (code = 21 → v ∈ [1, 2, 4]) → (code = 22 → 1 ≤ v ∧ v ≤ 255) →
      let y := k.write x w
      let channels := (allChannels.filter fun r => y.captureChannels.getLsbD r.code).length
      let most := 98304 / (channels * (256 / y.captureDecim) * 3)
      let z : Settings :=
        if most ≤ y.capturePre then { y with capturePre := most - 1, capturePost := 1 }
        else if most < y.capturePre + y.capturePost then { y with capturePost := most - y.capturePre }
        else y
      let kept := z.capturePre = x.capturePre ∧ z.captureDecim = x.captureDecim ∧ z.captureChannels = x.captureChannels
      sets (decide (w ≠ v ∨ z ≠ y)) (k.read z)
        ((force z).setCu { s.cu with ring := if kept then s.cu.ring else [] })) ∧
    (code = 26 → v < 2 →
      let y : Settings := { x with timeSource := if v = 0 then .marked else .free }
      sets false v ((force y).setTb
        { s.tb with slew := if x.timeSource = .marked ∧ v = 1 then 0 else s.tb.slew })) ∧
    (code = 28 → v = 1 → places 1 { x with liveRecords := true }) ∧
    (code = 28 → v = 0 →
      ∃ t, sets false 0 t ∧ t.sl = { s.sl with settings := { x with liveRecords := false }, live := none } ∧
        t.rq.entries = (s.rq.entries.filter fun e => !e.stored).map fun e => { e with emitted := true }) ∧
    (code = 29 → v = 1 → places 1 { x with storeWrap := .halt }) ∧
    (code = 29 → v = 0 → s.sw.stopMark = none → places 0 { x with storeWrap := .overwrite }) ∧
    (∀ h, code = 29 → v = 0 → s.sw.stopMark.isSome = true → s.sr.state = .mounted → s.sw.head = some h →
      ∃ t, sets false 0 t ∧ t.sl = { s.sl with settings := { x with storeWrap := .overwrite } } ∧
        t.sw = { s.sw with
          stopMark := none, tail := some (nextSector s h.sector), tasks := [.seekTail, .readTail, .erase] }) ∧
    (code = 34 → v < 2 →
      sets false v ((force { x with mapCache := v == 1 }).setCache (if x.mapCache = (v == 1) then s.cache else []))) ∧
    (code = 38 → v < 2 →
      let owner : BusOwner := if v = 0 then .auto else .station
      sets false v ((force { x with modbusOwner := owner }).setMb
        { s.mb with owner := if s.mb.transaction.isSome then s.mb.owner else owner }))

/-- A refused item of a SET changes nothing (`setItem`; the items after it are still handled: `SetPlacesValues`), and a SET of
it alone nothing but the reply queue: an unknown code gives UNKNOWN, a value outside the list, the enumeration or the set of
any setting that has one INVALID, and so an ordering in which a phase is missing; else a STOPPED-class setting outside STOPPED
and an UNMOUNTED-class setting outside UNMOUNTED WRONG_STATE (R192). The value placed that a refused item names is all ones,
and the reply's body is the item alone, without a count byte: both are the model's reading (notes/assumptions/14.md, 32.md). -/
def Obligations.RefusedSetChangesNothing : Prop :=
  ∀ (s : State) (tag code : Byte) (value : BitVec 32) (reason : Reason),
    ((code = 0 ∨ 40 < code.toNat) ∧ reason = .unknown ∨
      (code.toNat ∈ [8, 11, 24, 26, 28, 29, 32, 34, 38, 39] ∧ 2 ≤ value.toNat) ∧ reason = .invalid ∨
      (code = 1 ∧ value ≠ 50 ∧ value ≠ 60) ∧ reason = .invalid ∨
      (code = 4 ∧ value.toNat ∉ [60, 120, 180, 300, 600, 900, 1200, 1800, 3600, 7200]) ∧ reason = .invalid ∨
      (code = 5 ∧ 4 ≤ value.toNat) ∧ reason = .invalid ∨
      (code = 9 ∧ 3 ≤ value.toNat) ∧ reason = .invalid ∨
      (code = 10 ∧ ∀ p q r : Phase, p ≠ q → p ≠ r → q ≠ r →
        value.toNat ≠ p.code + 256 * q.code + 65536 * r.code) ∧ reason = .invalid ∨
      (code = 21 ∧ value.toNat ∉ [1, 2, 4]) ∧ reason = .invalid ∨
      (code = 22 ∧ (value = 0 ∨ 256 ≤ value.toNat)) ∧ reason = .invalid ∨
      (code = 23 ∧ 8 ≤ value.toNat) ∧ reason = .invalid ∨
      (code = 40 ∧ 2097152 ≤ value.toNat) ∧ reason = .invalid ∨
      (code = 1 ∧ (value = 50 ∨ value = 60) ∧ s.ia.state ≠ .stopped) ∧ reason = .wrongState ∨
      (code.toNat ∈ [2, 3] ∧ s.ia.state ≠ .stopped) ∧ reason = .wrongState ∨
      (code = 32 ∧ value.toNat < 2 ∧ s.sr.state ≠ .unmounted) ∧ reason = .wrongState ∨
      (code.toNat ∈ [31, 33] ∧ s.sr.state ≠ .unmounted) ∧ reason = .wrongState) →
    setItem code value.toNat s = (⟨code, .refused, reason, none⟩, s) ∧
    (Ready s → exec (.set tag [(code, value)]) s =
      .next (settle (formReply
        { tag := tag, kind := 1, status := .refused, reason := reason, cancelled := false,
          body := [code, 5] ++ leBytes 1 reason.code ++ [0xFF, 0xFF, 0xFF, 0xFF] } s)))

/-- GET, STATUS and READ TABLE of each of the four tables answer with their bodies in every state and change nothing but the
reply queue; the STATUS body has 322 bytes (R194, R197, R20, R76, R78). A GET of 1 to 16 names answers them in list order: the
value in force, and the pending value or, with none pending, its mark clear and the value 0, the model's reading
(notes/assumptions/78.md); a code outside 1 to 40 is UNKNOWN for that item, its value in force written as all ones
(notes/assumptions/14.md), and makes the whole REFUSED with UNKNOWN, else it is OK; that the body is the items without a count
byte is the model's reading (notes/assumptions/32.md). The limit table is given as profiles without their index and the grid
table as lists without code and count (notes/assumptions/68.md). The channel table gives the eight entries in role order with
all six fields, and per module whether a pending calibration is held, its result, 0 good and 1 rejected, the model's codes
(notes/assumptions/27.md), and whether it is forced; the pass table the four entries in module order, the divisor of a mode
other than DECIMATE being absent, 0xFF (R199). That a field of yes or no, as enabled, pending held, pending present and
forced, is 1 or 0 is the model's choice (notes/assumptions/70.md). -/
def Obligations.ReadingOrdersOnlyAnswer : Prop :=
  ∀ (s : State) (tag : Byte), Ready s →
    (∀ codes : List Byte, 1 ≤ codes.length → codes.length ≤ 16 →
      let known := ∀ c ∈ codes, 1 ≤ c.toNat ∧ c.toNat ≤ 40
      exec (.get tag codes) s =
        .next (settle (formReply
          { tag := tag, kind := 2, status := if known then .ok else .refused, reason := if known then .none else .unknown,
            cancelled := false,
            body := codes.flatMap fun c =>
              match Setting.ofCode c.toNat with
              | some k =>
                [c, 0] ++ leBytes 4 (k.read s.sl.settings) ++ leBool (s.sl.pending.get k).isSome ++
                  leBytes 4 ((s.sl.pending.get k).getD 0)
              | none => [c, 4, 0xFF, 0xFF, 0xFF, 0xFF, 0, 0, 0, 0, 0] } s))) ∧
    (∀ c : Byte, Setting.ofCode c.toNat = none ↔ c = 0 ∨ 40 < c.toNat) ∧
    exec (.status tag) s =
      .next (settle (formReply { plainReply tag 10 .ok .none with body := statusBody s } s)) ∧
    (statusBody s).length = 322 ∧
    exec (.readTableChannel tag) s =
      .next (settle (formReply { plainReply tag 4 .ok .none with
        body :=
          (allChannels.flatMap fun c =>
            let e := s.cc.table.get c
            leBytes 1 c.code ++ leBytes 1 e.module.val ++ leBool e.slotB ++ leBool e.enabled ++ leBytes 2 e.gain ++
              leSigned 2 e.offset ++ leBytes 1 e.cal.code) ++
          (allModules.flatMap fun m =>
            match s.cc.pending.get m with
            | none => [0, 0, 0]
            | some r => [1] ++ leBool r.values.isNone ++ leBool r.forced) } s)) ∧
    exec (.readTablePass tag) s =
      .next (settle (formReply { plainReply tag 4 .ok .none with
        body := allModules.flatMap fun m =>
          leBytes 1 m.val ++
            match s.cc.pass.get m with
            | .drop => [0, 0xFF]
            | .all => [1, 0xFF]
            | .decimate n => [2] ++ leBytes 1 n
            | .duringCapture => [3, 0xFF] } s)) ∧
    exec (.readTableLimit tag) s =
      .next (settle (formReply { plainReply tag 4 .ok .none with
        body := s.ed.limits.toList.flatMap Profile.bytes ++ leBool s.ed.pendingLimits.isSome ++
          (match s.ed.pendingLimits with
            | some t => t.toList.flatMap Profile.bytes
            | none => List.replicate 48 0) } s)) ∧
    exec (.readTableGrid tag) s =
      .next (settle (formReply { plainReply tag 4 .ok .none with
        body := s.ed.grid.residual.flatMap (leBytes 2) ++ s.ed.grid.swell.flatMap (leBytes 2) ++
          s.ed.grid.duration.flatMap (leBytes 4) ++ s.ed.dipCells.flatMap (leBytes 2) ++
          s.ed.swellCells.flatMap (leBytes 2) } s))

/-- An ACK that lists only flag names clears each listed latched flag, leaves every persistent flag at its condition, and
answers the listed flags that are still set; a mask with a bit above the flags is refused INVALID and clears nothing
(R196). -/
def Obligations.AckClearsLatchedFlags : Prop :=
  ∀ (s : State) (tag : Byte) (mask : BitVec 32), Ready s →
    (2097152 ≤ mask.toNat →
      exec (.ack tag mask) s = .next (settle (formReply (plainReply tag 9 .refused .invalid) s))) ∧
    (mask.toNat < 2097152 →
      let t := s.setSl { s.sl with latched := s.sl.latched &&& ~~~(mask.setWidth 21) }
      exec (.ack tag mask) s =
        .next (settle (formReply { plainReply tag 9 .ok .none with
          body := leBytes 4 (setMarks t &&& mask.setWidth 21).toNat } t)) ∧
      summaryBit t = (setMarks t &&& s.sl.settings.attnEnable != 0) ∧
      (∀ f : Flag, 11 ≤ f.bit → flagSet t f = (flagSet s f && !mask.getLsbD f.bit)) ∧
      (∀ f : Flag, f.bit < 11 → flagSet t f = flagSet s f))

/-- LOAD TABLE taken: the channel table changes whole in STOPPED, each listed entry LOADED with its fields and the others kept
(R19; that 1 in its enabled byte is yes: notes/assumptions/70.md), and a module that loses its last enabled entry is DISABLED
with no open slot, its streaks, tallies and fault mark 0, while one that gains its first is UNQUALIFIED with its streaks 0
(R7; the mark that it joined in this window: notes/assumptions/45.md); the pass table in every state, a divisor kept for
DECIMATE alone (R29); the limit table comes into force in STOPPED and goes pending in the other states (R76); the grid table
changes in STOPPED (R78). Refused it changes nothing but the reply queue: the channel and the grid table WRONG_STATE outside
STOPPED; a channel table in STOPPED INVALID when a role, module or slot is none of those, a role is listed twice, or two
enabled entries come to name one slot (R19); a pass table INVALID when a module lies above 3 or is listed twice, a mode is
none of the four or a divisor lies outside 2 to 64 (R29); a limit table whose profiles break a relation INVALID; and grid
lists of which one has a wrong number of entries, an entry outside its range or its field, or another order, or is given
twice, INVALID in STOPPED; that the state is judged before the lists is the model's choice (notes/assumptions/77.md). -/
def Obligations.LoadTables : Prop :=
  (∀ (s : State) (tag : Byte), Ready s →
     (∀ (entries : List ChannelArg) (t : PerChannel ChanEntry), s.ia.state = .stopped →
       (Instr.loadTableChannel tag entries).fits = true → candidateTable s.cc.table entries = some t →
       (entries.map ChannelArg.role).Nodup → slotsDistinct t = true →
       (∀ c, t.get c =
         match entries.find? fun a => a.role.toNat == c.code with
         | some a =>
           { module := Fin.ofNat 4 a.module.toNat, slotB := a.slot == 1, enabled := a.enabled == 1, gain := a.gain.toNat,
             offset := a.offset.toInt, cal := .loaded }
         | none => s.cc.table.get c) ∧
       ∃ e, exec (.loadTableChannel tag entries) s = .next (settle (formReply (plainReply tag 3 .ok .none) e)) ∧
         e = ((s.setCc { s.cc with table := t }).setMm e.mm).setLr e.lr ∧ e.mm.count = s.mm.count ∧
         e.lr.strobe = s.lr.strobe ∧
         ∀ m,
           let x := s.mm.mods.get m
           let before := ∃ c, (s.cc.table.get c).enabled = true ∧ (s.cc.table.get c).module = m
           let now := ∃ c, (t.get c).enabled = true ∧ (t.get c).module = m
           (before → ¬ now → e.lr.slots.get m = [] ∧ e.mm.mods.get m =
             { x with
               state := .disabled, good := 0, bad := 0, accepted := 0, duplicate := 0, stray := 0, fault := false }) ∧
           (¬ before → now → e.lr.slots.get m = s.lr.slots.get m ∧ e.mm.mods.get m =
             { x with state := .unqualified, good := 0, bad := 0, joined := true }) ∧
           ((before ↔ now) → e.lr.slots.get m = s.lr.slots.get m ∧ e.mm.mods.get m = x)) ∧
     (∀ (entries : List PassArg) (t : PerModule PassMode), (Instr.loadTablePass tag entries).fits = true →
       passWith s.cc.pass entries = some t → (entries.map PassArg.module).Nodup →
       (∀ m, t.get m =
         match entries.find? fun a => a.module.toNat == m.val with
         | some a =>
           if a.mode = 0 then .drop else if a.mode = 1 then .all
           else if a.mode = 2 then .decimate a.divisor.toNat else .duringCapture
         | none => s.cc.pass.get m) ∧
       exec (.loadTablePass tag entries) s =
         .next (settle (formReply (plainReply tag 3 .ok .none) (s.setCc { s.cc with pass := t })))) ∧
     (∀ entries : List LimitArg, (Instr.loadTableLimit tag entries).fits = true → limitsValid s entries = true →
       exec (.loadTableLimit tag entries) s =
         .next (settle (formReply (plainReply tag 3 .ok .none)
           (if s.ia.state = .stopped then
             s.setEd { s.ed with limits := candidateLimits s entries, pendingLimits := none }
           else s.setEd { s.ed with pendingLimits := some (candidateLimits s entries) })))) ∧
     (∀ (lists : List GridArg) (g : GridTable), s.ia.state = .stopped → (Instr.loadTableGrid tag lists).fits = true →
       gridsWith s.ed.grid lists = some g → (lists.map GridArg.list).Nodup →
       exec (.loadTableGrid tag lists) s =
         .next (settle (formReply (plainReply tag 3 .ok .none) (s.setEd { s.ed with grid := g }))))) ∧
  (∀ (s : State) (tag : Byte), Ready s →
     (∀ entries : List ChannelArg, s.ia.state ≠ .stopped → (Instr.loadTableChannel tag entries).fits = true →
       exec (.loadTableChannel tag entries) s =
         .next (settle (formReply (plainReply tag 3 .refused .wrongState) s))) ∧
     (∀ entries : List ChannelArg, s.ia.state = .stopped → 1 ≤ entries.length → entries.length ≤ 8 →
       let placed := fun (c : Channel) =>
         match entries.find? fun a => a.role.toNat == c.code with
         | some a => (a.module.toNat, a.slot == 1, a.enabled == 1)
         | none => ((s.cc.table.get c).module.val, (s.cc.table.get c).slotB, (s.cc.table.get c).enabled)
       (∃ a ∈ entries, 7 < a.role.toNat ∨ 3 < a.module.toNat ∨ 1 < a.slot.toNat) ∨
         ¬ (entries.map ChannelArg.role).Nodup ∨
         (∃ c d, c ≠ d ∧ placed c = placed d ∧ (placed c).2.2 = true) →
       exec (.loadTableChannel tag entries) s =
         .next (settle (formReply (plainReply tag 3 .refused .invalid) s))) ∧
     (∀ entries : List PassArg, 1 ≤ entries.length → entries.length ≤ 4 →
       (∃ a ∈ entries, 3 < a.module.toNat ∨ 3 < a.mode.toNat ∨ (a.mode = 2 ∧ (a.divisor.toNat < 2 ∨ 64 < a.divisor.toNat))) ∨
         ¬ (entries.map PassArg.module).Nodup →
       exec (.loadTablePass tag entries) s =
         .next (settle (formReply (plainReply tag 3 .refused .invalid) s))) ∧
     (∀ lists : List GridArg, s.ia.state ≠ .stopped → (Instr.loadTableGrid tag lists).fits = true →
       exec (.loadTableGrid tag lists) s =
         .next (settle (formReply (plainReply tag 3 .refused .wrongState) s))) ∧
     (∀ lists : List GridArg, s.ia.state = .stopped →
       (Instr.loadTableGrid tag lists).fits = true ∧
           (gridsWith s.ed.grid lists = none ∨ ¬ (lists.map GridArg.list).Nodup) ∨
         (∃ a ∈ lists, a.list ≠ 2 ∧ ∃ e ∈ a.entries, 65536 ≤ e.toNat) →
       exec (.loadTableGrid tag lists) s =
         .next (settle (formReply (plainReply tag 3 .refused .invalid) s))) ∧
     (∀ entries : List LimitArg, (Instr.loadTableLimit tag entries).fits = true → limitsValid s entries = false →
       exec (.loadTableLimit tag entries) s =
         .next (settle (formReply (plainReply tag 3 .refused .invalid) s))))

/-! ## The campaign and its orders (sections 6.4, 7.3) -/

/-- START is taken in STOPPED with the store MOUNTED and a sequence left: campaign number one up (1 after 65,535), summary,
grids and campaign loss count zero, the CAMPAIGN_START and the SETTINGS record numbered in turn, and ARMING from an arm timer
of 0, or RUNNING at once when the campaign is ready; otherwise it is refused WRONG_STATE (R127, R128). -/
def Obligations.StartEntersArming : Prop :=
  ∀ (s : State) (tag : Byte), Ready s →
    (s.ia.state ≠ .stopped ∨ s.sr.state ≠ .mounted ∨ s.rq.next = .exhausted →
      exec (.start tag) s = .next (settle (formReply (plainReply tag 5 .refused .wrongState) s))) ∧
    (∀ n, s.ia.state = .stopped → s.sr.state = .mounted → s.rq.next = .number n → n < 4294967294 →
      s.rq.entries.length < 14 →
      ∃ e, exec (.start tag) s = .next (settle (formReply (plainReply tag 5 .ok .none) e)) ∧
        e.ia.number = (if s.ia.number < 65535 then s.ia.number + 1 else 1) ∧ e.ia.summary = .zero ∧
        e.ed.dipCells = List.replicate 30 0 ∧ e.ed.swellCells = List.replicate 18 0 ∧ e.rq.campaignLoss = 0 ∧
        e.rq.next = .number (n + 2) ∧
        (∃ x ∈ e.rq.entries, x.record.sequence = n ∧ x.record.campaign = e.ia.number ∧
          x.record.body = .campaignStart
            { nominal := s.sl.settings.nominalFreq, cycles := s.sl.settings.windowCycles,
              declared := s.sl.settings.declaredCounts, table := s.cc.table, grid := s.ed.grid,
              modules := s.mm.mods.map ModMon.state }) ∧
        (∃ x ∈ e.rq.entries, x.record.sequence = n + 1 ∧ ∃ b, x.record.body = .settings b ∧ b.cause = .start) ∧
        e.ia.armTimer = 0 ∧
        (if campaignReady s then e.ia.state = .running ∧ e.ia.interval.isSome = true else e.ia.state = .arming) ∧
        e.lr = s.lr ∧ e.mm = s.mm ∧ e.cc = s.cc ∧ e.ct = s.ct ∧ e.tb = s.tb ∧ e.sr = s.sr ∧ e.mb = s.mb ∧ e.sl = s.sl)

/-- STOP is taken in ARMING and RUNNING: open events are closed, a capture being collected is cut, the window is abandoned
and the interval closed; with the store MOUNTED and room for the records, the end record is queued and the campaign waits for
it in STOPPING with the order's tag kept. In STOPPED and STOPPING it is refused WRONG_STATE (R130). -/
def Obligations.StopEndsTheCampaign : Prop :=
  ∀ (s : State) (tag : Byte), Ready s →
    (s.ia.state = .stopped ∨ s.ia.state = .stopping →
      exec (.stop tag) s = .next (settle (formReply (plainReply tag 6 .refused .wrongState) s))) ∧
    (s.ia.state = .arming ∨ s.ia.state = .running →
      ∃ e, exec (.stop tag) s = .next (settle e) ∧
        (e.ia.state = .stopping ∨ e.ia.state = .stopped) ∧
        (EventsWf s → s.ed.lastBoundary.isSome = true → e.ed.dip = none ∧ e.ed.swell = none) ∧
        ((s.cu.state = .collecting → s.cu.hand.isSome = true) → e.cu.state ≠ .collecting) ∧ e.mu.window = none ∧
        (s.sl.linkUp = true → ∃ more, e.sl.replies = s.sl.replies ++ plainReply tag 6 .accepted .none :: more) ∧
        (s.ia.state = .running → e.ia.interval = none) ∧
        e.lr = s.lr ∧ e.mm = s.mm ∧ e.ct = s.ct ∧ e.tb = s.tb ∧ e.mb = s.mb ∧
        (∀ n, s.sr.state = .mounted → s.rq.next = .number n → n < 4294967280 → s.rq.entries.length ≤ 9 →
          e.ia.state = .stopping ∧ e.ia.stopTag = some tag ∧
          ∃ x ∈ e.rq.entries, e.ia.endSeq = some x.record.sequence ∧ x.record.body.isEnd = true))

/-- RESTART is taken in every campaign state and answered OK: the campaign is STOPPED with nothing pending and a waiting STOP
answered (R132, R193), the slots stay open without their frames, the monitor window starts afresh and every module that is not
DISABLED is UNQUALIFIED (R17), the sample buffer is empty (R33), the tracker is in FREERUN with its last boundary kept (R54),
the window is abandoned (R74), a bus transaction is to be cut (R184); strobe index, time and store state stay. In ARMING and
RUNNING no event and no capture being collected is left, and in RUNNING no interval. With the store MOUNTED and room in the
queue the records of the one event are numbered and queued in order: the open dip-family and swell event closed at the last
boundary with the cause RESTART (R88, R90), the capture CUT (R110), in RUNNING the interval, PARTIAL, and the SETTINGS record of
the pending set unless HOLD is on, the CAMPAIGN_END record with the reason RESTART, the summary and grids as they then stand
(R133), and after it the SETTINGS record of what is still pending (R132). That the first SETTINGS record has the cause RESTART
too is the model's choice (notes/assumptions/40.md). -/
def Obligations.RestartKeepsStrobeAndTime : Prop :=
  ∀ (s : State) (tag : Byte), Ready s →
    ∃ e, exec (.restart tag) s = .next (settle (formReply (plainReply tag 7 .ok .none) e)) ∧
      e.ia.state = .stopped ∧ e.ia.number = s.ia.number ∧ pendingMask e = 0 ∧
      (s.ia.state = .stopping → e.ia.stopTag = none ∧ e.ia.endSeq = none) ∧
      e.lr.strobe = s.lr.strobe ∧
      (∀ m, e.lr.slots.get m = (s.lr.slots.get m).map fun x => { x with frame := none }) ∧
      e.mm.count = 0 ∧
      (∀ m, (e.mm.mods.get m).state = (if (s.mm.mods.get m).state = .disabled then .disabled else .unqualified) ∧
        (e.mm.mods.get m).accepted = 0) ∧
      e.cc.buffer = [] ∧ e.cc.held = none ∧
      e.ct = { s.ct with
        state := .freerun, reference := none, held := none, run := [], align := 0, revertPhase := none, revertCount := 0,
        timer := none } ∧
      e.mu.window = none ∧ e.mu.counter = s.mu.counter ∧
      e.tb = s.tb ∧ e.sr = s.sr ∧ e.mb = { s.mb with cut := s.mb.transaction.isSome } ∧
      (s.ia.state = .arming ∨ s.ia.state = .running →
        (EventsWf s → s.ed.lastBoundary.isSome = true → e.ed.dip = none ∧ e.ed.swell = none) ∧
        ((s.cu.state = .collecting → s.cu.hand.isSome = true) → e.cu.state ≠ .collecting) ∧
        (s.ia.state = .running → e.ia.interval = none) ∧
        ∀ (n : Nat) (b : Boundary) (stamp : Stamp),
          EventsWf s → (s.ed.dip = none ∧ s.ed.swell = none) ∨ s.ed.lastBoundary = some (b, stamp) →
          (s.cu.state = .collecting → s.cu.hand.isSome = true) →
          s.sr.state = .mounted → s.rq.next = .number n → n < 4294967280 → s.rq.entries.length ≤ 8 →
          (∀ x ∈ s.rq.entries, x.stored = false ∨ x.emitted = false) →
          let ended := fun (o : Option OpenEvent) (l : List RecordBody) =>
            (o = none → l = []) ∧
            ∀ x, o = some x → ∃ y, l = [.event y] ∧ y.event = x.closeSub b.position ∧ y.cause = .restart ∧
              y.endNumber = b.number ∧ y.endStamp = stamp
          let running := s.ia.state = .running
          let hold := s.sl.settings.hold
          let applies := fun (now : Prop) (l : List RecordBody) =>
            (now ∧ pendingMask s ≠ 0 → ∃ y, l = [.settings y] ∧ y.cause = .restart ∧ y.applied = pendingMask s) ∧
            (¬ now ∨ pendingMask s = 0 → l = [])
          ∃ dips swells cuts intervals applied later entries y,
            ended s.ed.dip dips ∧ ended s.ed.swell swells ∧
            (s.cu.state ≠ .collecting → cuts = []) ∧
            (∀ h, s.cu.state = .collecting → s.cu.hand = some h → ∃ z, cuts = [.capture z] ∧ z.cut = true ∧
              z.truncated = false ∧ z.postEnd = h.postEnd ∧ z.startStrobe = h.startStrobe ∧ z.triggers = h.triggers) ∧
            (¬ running ∨ s.ia.interval = none → intervals = []) ∧
            (∀ x, running → s.ia.interval = some x → ∃ z, intervals = [.interval z] ∧ z.number = x.number ∧
              z.start = x.start ∧ z.stop = nowStamp s ∧ z.partialMark = true ∧ z.early = false) ∧
            applies (running ∧ hold = false) applied ∧ applies (¬ running ∨ hold = true) later ∧
            y.restart = true ∧ y.summary = e.ia.summary ∧ y.dipCells = e.ed.dipCells ∧ y.swellCells = e.ed.swellCells ∧
            y.lost = s.rq.campaignLoss ∧
            e.rq.entries = s.rq.entries ++ entries ∧
            entries.map (fun x => x.record.sequence) = List.range' n entries.length ∧
            entries.map (fun x => x.record.body) =
              dips ++ swells ++ cuts ++ intervals ++ applied ++ [.campaignEnd y] ++ later)

/-- The CAPTURE order is taken while RUNNING and makes a trigger at the index of the next set the Capture Unit takes; the
reply carries the trigger's outcome. In the other campaign states it is refused WRONG_STATE without a trigger (R102). -/
def Obligations.CaptureOrderTriggers : Prop :=
  ∀ (s : State) (tag : Byte), Ready s →
    (s.ia.state ≠ .running →
      exec (.capture tag) s = .next (settle (formReply (plainReply tag 8 .refused .wrongState) s))) ∧
    (s.ia.state = .running →
      let r := trigger .order 0 (s.lr.strobe - 3) s
      exec (.capture tag) s =
        .next (settle (formReply { plainReply tag 8 .ok .none with body := leBytes 1 r.1.code } r.2))) ∧
    (∀ k, setAtIssue s = some k → s.lr.strobe + 1 < 281474976710656 → k = s.lr.strobe - 3)

/-! ## The store orders (chapters 8 and 9) -/

/-- A record handed over takes the next sequence while the store is MOUNTED or FAULTED, enters at the back with the stored
mark of a FAULTED store, the emitted mark of a link that is down or of LIVE_RECORDS off, or is lost when no slot is free: then
RECORD_LOSS is latched and the loss counts rise. It is not created otherwise (R136, R137, R138, R139). An INTERVAL record that
takes a number sets the interval loss count to 0 as it is created, and one that is not created leaves it: the model's reading
(notes/assumptions/25.md). -/
def Obligations.RecordsNumberedAndQueued : Prop :=
  ∀ (s : State) (body : RecordBody),
    let r := handRecord body s
    let slot := s.rq.entries.length < 16 ∧
      (body.isEnd = true ∨ (s.rq.entries.filter fun e => !e.record.body.isEnd).length < 15)
    let loss := if body.isInterval then 0 else s.rq.intervalLoss
    (((s.sr.state ≠ .mounted ∧ s.sr.state ≠ .faulted) ∨ ∀ n, s.rq.next ≠ .number n) →
      r = (.notCreated, s.setRq { s.rq with notCreated := satSucc 65535 s.rq.notCreated })) ∧
    (∀ n, s.sr.state = .mounted ∨ s.sr.state = .faulted → s.rq.next = .number n →
      r.2.rq.next = (if n < 4294967295 then .number (n + 1) else .exhausted) ∧
      (slot → r.1 = .entered n ∧ r.2.rq.intervalLoss = loss ∧ r.2.sl = s.sl ∧
        ∃ e, e.record.sequence = n ∧ e.record.body = body ∧ e.record.campaign = s.ia.number ∧
          e.record.quality = s.tb.quality ∧ e.appended = 0 ∧ e.programmed = 0 ∧
          (e.stored = true ↔ s.sr.state = .faulted) ∧
          (e.emitted = true ↔ s.sl.settings.liveRecords = false ∨ s.sl.linkUp = false) ∧
          r.2.rq.entries = (s.rq.entries ++ [e]).filter fun x => !(x.stored && x.emitted)) ∧
      (¬ slot → r.1 = .lost n ∧ r.2.rq.entries = s.rq.entries ∧ r.2.rq.intervalLoss = min 65535 (loss + 1) ∧
        r.2.rq.campaignLoss = min 4294967295 (s.rq.campaignLoss + 1) ∧
        r.2.rq.totalLoss = min 4294967295 (s.rq.totalLoss + 1) ∧ r.2.sl.latched = s.sl.latched ||| 0x8000))

/-- MOUNT and FORMAT are taken in UNMOUNTED: ACCEPTED, with the geometry read, the cache empty and the scan or the first
sector to come (R141, R155, R160). MAP LOAD is taken in UNMOUNTED, ACCEPTED, with MAP_MODE MAPPED when its entries lie in
range, are distinct and follow the map fill; an entry that does not is refused INVALID, the DIRECT mode WRONG_STATE (R156),
which is judged first, the model's choice (notes/assumptions/77.md). In MOUNTED and FAULTED all three are refused WRONG_STATE,
in FORMATTING, MOUNTING and UNMOUNTING BUSY. A MAP LOAD reply carries its body in every status (section 12.4); that it is the
count 0 in a refused or accepted one is the model's reading (notes/assumptions/31.md). -/
def Obligations.MountFormatAndMapLoadTaken : Prop :=
  (∀ (s : State) (tag : Byte), Ready s → s.sl.storeOrder = none →
     let geometry := fun (e : State) =>
       e.cache = [] ∧ e.sw.usable = 0 ∧ e.sw.mode = s.sl.settings.mapMode ∧ e.sw.sectors = s.sl.settings.storeSectors ∧
       e.sw.logical = (match s.sl.settings.mapMode with
         | .direct => s.sl.settings.storeSectors
         | .mapped => min s.sl.settings.logSectors (s.sl.settings.storeSectors - 1)) ∧
       e.rq = s.rq ∧ e.ia = s.ia ∧ StoreFrame s e
     let taken := fun (o : LongOrder) (kind : Byte) =>
       { acceptedLink (plainReply tag kind .accepted .none) s with storeOrder := some (o, tag) }
     (s.sr.state = .unmounted →
       (∃ e, exec (.mount tag) s = .next (settle e) ∧ e.sr.state = .mounting ∧ e.sr.job = .mount .start ∧
         e.sl = taken .mount 11 ∧ geometry e) ∧
       (∃ e, exec (.format tag) s = .next (settle e) ∧ e.sr.state = .formatting ∧ e.sr.job = .format 0 false none ∧
         e.sl = taken .format 12 ∧ geometry e)) ∧
     (s.sr.state ≠ .unmounted →
       let reason : Reason := if s.sr.state = .mounted ∨ s.sr.state = .faulted then .wrongState else .busy
       exec (.mount tag) s = .next (settle (formReply (plainReply tag 11 .refused reason) s)) ∧
       exec (.format tag) s = .next (settle (formReply (plainReply tag 12 .refused reason) s)))) ∧
  (∀ (s : State) (tag : Byte) (start : BitVec 16) (sectors : List (BitVec 16)), Ready s → s.sl.storeOrder = none →
     1 ≤ sectors.length → sectors.length ≤ 64 →
     let list := sectors.map BitVec.toNat
     let inRange := start.toNat + list.length ≤ 1024 ∧ list.Nodup ∧
       ∀ p ∈ list, p ≠ 0 ∧ p < s.sl.settings.storeSectors
     let follows := start = 0 ∨ ∃ n members, s.sw.mapFill = some (n, members) ∧ start.toNat = n ∧ ∀ p ∈ list, p ∉ members
     let refused := fun (r : Reason) =>
       exec (.mapLoad tag start sectors) s =
         .next (settle (formReply { plainReply tag 13 .refused r with body := [0] } s))
     (s.sr.state = .unmounted → s.sl.settings.mapMode = .mapped → inRange → follows →
       ∃ e, exec (.mapLoad tag start sectors) s = .next (settle e) ∧
         e.sr.state = .unmounted ∧ e.sr.job = .mapLoad start.toNat (start == 0) list 0 ∧ e.cache = [] ∧
         e.sl =
           { acceptedLink { plainReply tag 13 .accepted .none with body := [0] } s with storeOrder := some (.mapLoad, tag) } ∧
         e.sw.mapFill = s.sw.mapFill ∧ e.rq = s.rq ∧ StoreFrame s e) ∧
     (s.sr.state = .unmounted → s.sl.settings.mapMode = .mapped → ¬ (inRange ∧ follows) → refused .invalid) ∧
     (s.sr.state = .unmounted → s.sl.settings.mapMode = .direct → refused .wrongState) ∧
     (s.sr.state = .mounted ∨ s.sr.state = .faulted → refused .wrongState) ∧
     (s.sr.state = .formatting ∨ s.sr.state = .mounting ∨ s.sr.state = .unmounting → refused .busy))

/-- UNMOUNT is taken in MOUNTED and FAULTED with the campaign STOPPED. From FAULTED the store is UNMOUNTED at once, with the
cache empty and DONE answered; from MOUNTED it is UNMOUNTING, the page buffer discarded when the head is not erased or the
stop mark is set, else to be flushed, and ACCEPTED stands in the reply queue, behind it the replies of the readbacks that end
with it (R172). It is refused WRONG_STATE with a campaign under way, NOT_MOUNTED in UNMOUNTED, BUSY in the other states
(R157). A long store order dispatched while one is in flight is refused BUSY, whatever the store state (R187); a MAP LOAD
reply carries its body in every status (section 12.4), and that it is the count 0 in this refused one is the model's reading
(notes/assumptions/31.md). -/
def Obligations.UnmountTakenOneAtATime : Prop :=
  (∀ (s : State) (tag : Byte), Ready s → s.sl.storeOrder = none →
     let refused := fun (r : Reason) =>
       exec (.unmount tag) s = .next (settle (formReply (plainReply tag 14 .refused r) s))
     (s.sr.state = .unmounted → refused .notMounted) ∧
     (s.sr.state = .formatting ∨ s.sr.state = .mounting ∨ s.sr.state = .unmounting → refused .busy) ∧
     (s.sr.state = .mounted ∨ s.sr.state = .faulted → s.ia.state ≠ .stopped → refused .wrongState) ∧
     (s.sr.state = .faulted → s.ia.state = .stopped →
       ∃ e, exec (.unmount tag) s = .next (settle e) ∧ e.sr.state = .unmounted ∧ e.cache = [] ∧ e.sw.stopMark = none ∧
         e.sw.buffer = [] ∧ e.sl.storeOrder = none ∧ e.sl.reserved = s.sl.reserved ∧ e.rq = s.rq ∧ StoreFrame s e ∧
         (s.sl.linkUp = true →
           e.sl.replies = s.sl.replies ++ [plainReply tag 14 .accepted .none, plainReply tag 14 .done .none])) ∧
     (s.sr.state = .mounted → s.ia.state = .stopped →
       ∃ e, exec (.unmount tag) s = .next (settle e) ∧ e.sr.state = .unmounting ∧
         e.sl.storeOrder = some (.unmount, tag) ∧ e.rq = s.rq ∧ e.sr.flight.isSome = s.sr.flight.isSome ∧
         StoreFrame s e ∧
         (if s.sw.stopMark.isSome = true ∨ s.sw.headErased = false then e.sw.buffer = []
           else e.sw.buffer = s.sw.buffer ∧ e.sw.flushDue = true) ∧
         (s.sr.queue = [] → e.sr.queue = [] ∧ e.sl.reserved = s.sl.reserved + 1) ∧
         (s.sl.linkUp = true → ∃ more,
           e.sl.replies = s.sl.replies ++ plainReply tag 14 .accepted .none :: more ∧ (s.sr.queue = [] → more = [])))) ∧
  (∀ (s : State) (tag : Byte) (start : BitVec 16) (sectors : List (BitVec 16)), Ready s →
     s.sl.storeOrder.isSome = true → 1 ≤ sectors.length → sectors.length ≤ 64 →
     exec (.mount tag) s = .next (settle (formReply (plainReply tag 11 .refused .busy) s)) ∧
     exec (.format tag) s = .next (settle (formReply (plainReply tag 12 .refused .busy) s)) ∧
     exec (.unmount tag) s = .next (settle (formReply (plainReply tag 14 .refused .busy) s)) ∧
     exec (.mapLoad tag start sectors) s =
       .next (settle (formReply { plainReply tag 13 .refused .busy with body := [0] } s)))

/-- RELEASE is taken in MOUNTED: the watermark becomes W unless W lies below it (INVALID); at or above the kept last sequence
it clears the stop mark, and the tail moves to the next sector in ring order, whether that is USABLE being settled by the task
seekTail (notes/assumptions/38.md). It is refused FAULT in FAULTED and NOT_MOUNTED in the other states (R150). -/
def Obligations.ReleaseMovesTheWatermark : Prop :=
  ∀ (s : State) (tag : Byte) (w : BitVec 32), Ready s →
    (s.sr.state ≠ .mounted →
      exec (.release tag w) s = .next (settle (formReply
        (plainReply tag 15 .refused (if s.sr.state = .faulted then .fault else .notMounted)) s))) ∧
    (s.sr.state = .mounted → w.toNat < s.sw.watermark →
      exec (.release tag w) s = .next (settle (formReply (plainReply tag 15 .refused .invalid) s))) ∧
    (s.sr.state = .mounted → s.sw.watermark ≤ w.toNat →
      ((∀ kept, s.sw.stopMark = some kept → w.toNat < kept) →
        exec (.release tag w) s = .next (settle (formReply (plainReply tag 15 .ok .none)
          (s.setSw { s.sw with watermark := w.toNat })))) ∧
      (∀ kept h, s.sw.stopMark = some kept → kept ≤ w.toNat → s.sw.head = some h →
        ∃ e, exec (.release tag w) s = .next (settle (formReply (plainReply tag 15 .ok .none) e)) ∧
          e.sw.watermark = w.toNat ∧ e.sw.stopMark = none ∧ e.sw.tail = some (nextSector s h.sector) ∧
          e.sw.tasks = [.seekTail, .readTail, .erase] ∧ e.rq = s.rq ∧ e.sl = s.sl ∧ StoreFrame s e))

/-- READ RECORDS is taken in MOUNTED with fewer than 4 readbacks held and a count from 1 to 256: ACCEPTED, it joins the back
of the readback queue and, when no other is current, begins; its refusals are INVALID, FULL, FAULT and NOT_MOUNTED (R165),
judged in the order NOT_MOUNTED or FAULT, INVALID, FULL, the model's choice, as is the store state before INVALID at a CANCEL
READ (notes/assumptions/77.md). CANCEL READ of a tag that no readback carries is refused INVALID. Otherwise it is answered
ACCEPTED; the readbacks behind the front that carry it leave the queue, each answered DONE with every count at 0 and the
cancelled flag; a current one that carries it ends at once, answered DONE with its counts so far and the cancelled flag, or
keeps the cancel mark and the order's tag while a record of it is in progress; the CANCEL READ is answered DONE when the last
order it cancelled has been answered (R171). That the queued ones are answered before the current one is the model's reading
(notes/assumptions/58.md). That a record whose header is not yet classified is none in progress is the model's choice
(notes/assumptions/71.md). -/
def Obligations.ReadbackOrders : Prop :=
  (∀ (s : State) (tag : Byte) (first : BitVec 32) (count : BitVec 16), Ready s →
     let refused := fun (r : Reason) =>
       exec (.readRecords tag first count) s = .next (settle (formReply (plainReply tag 16 .refused r) s))
     (s.sr.state = .faulted → refused .fault) ∧
     (s.sr.state ≠ .mounted → s.sr.state ≠ .faulted → refused .notMounted) ∧
     (s.sr.state = .mounted → count = 0 ∨ 256 < count.toNat → refused .invalid) ∧
     (s.sr.state = .mounted → 1 ≤ count.toNat → count.toNat ≤ 256 →
       (4 ≤ s.sr.queue.length → refused .full) ∧
       (s.sr.queue.length < 4 →
         ∃ e, exec (.readRecords tag first count) s = .next (settle e) ∧
           e.sr.queue = s.sr.queue ++ [⟨tag, first.toNat, count.toNat⟩] ∧
           e.sr.current = (match s.sr.current, s.sr.queue with
             | some r, _ => some r
             | none, [] => some
               { phase := .settle, wanted := first.toNat, outcomes := .zero, record := none, cancel := false,
                 waiters := [], translation := none }
             | none, o :: _ => some (Readback.begin o)) ∧
           e.sl = acceptedLink (plainReply tag 16 .accepted .none) s ∧
           e.rq = s.rq ∧ e.sw = s.sw ∧ e.ia = s.ia ∧ StoreFrame s e))) ∧
  (∀ (s : State) (tag target : Byte), Ready s →
     let refused := fun (r : Reason) =>
       exec (.cancelRead tag target) s = .next (settle (formReply (plainReply tag 17 .refused r) s))
     (s.sr.state = .faulted → refused .fault) ∧
     (s.sr.state ≠ .mounted → s.sr.state ≠ .faulted → refused .notMounted) ∧
     (s.sr.state = .mounted → (∀ o ∈ s.sr.queue, o.tag ≠ target) → refused .invalid) ∧
     (∀ o rest, s.sr.state = .mounted → s.sr.queue = o :: rest → (∃ x ∈ o :: rest, x.tag = target) →
       let cancelled := fun (x : ReadOrder) (n : Outcomes) =>
         { plainReply x.tag 16 .done .none with cancelled := true, body := readbackBody x n }
       let gone := (rest.filter fun x => x.tag == target).map fun x => cancelled x .zero
       let answered := fun (e : State) (more : List Reply) =>
         s.sl.linkUp = true → e.sl.replies = s.sl.replies ++ plainReply tag 17 .accepted .none :: (gone ++ more)
       let ends := fun (t : Byte) => plainReply t 17 .done .none
       ∃ e, exec (.cancelRead tag target) s = .next (settle e) ∧
         e.rq = s.rq ∧ e.sw = s.sw ∧ e.ia = s.ia ∧ StoreFrame s e ∧
         (o.tag ≠ target →
           e.sr.queue = o :: rest.filter (fun x => x.tag != target) ∧ e.sr.current = s.sr.current ∧ answered e [ends tag]) ∧
         (∀ r, o.tag = target → s.sr.current = some r →
           (recordInProgress s = true →
             e.sr.queue = o :: rest.filter (fun x => x.tag != target) ∧
             e.sr.current = some { r with cancel := true, waiters := r.waiters ++ [tag] } ∧ answered e []) ∧
           (recordInProgress s = false →
             e.sr.queue = rest.filter (fun x => x.tag != target) ∧
             e.sr.current = e.sr.queue.head?.map Readback.begin ∧
             answered e (cancelled o r.outcomes :: (r.waiters ++ [tag]).map ends)))))

/-! ## The module bus orders (chapter 10) -/

/-- MODULE READ and MODULE WRITE: INVALID for an address, a count or a span outside the ranges, WRONG_STATE while the owner is
AUTO, HUNG, BUSY, in this order; otherwise ACCEPTED, and the transaction begins, unless the data line is found low: then the
bus is HUNG and the order FAILED (R181, R182). The level of the data line is free (notes/assumptions/5.md). -/
def Obligations.StationTransactionsBegin : Prop :=
  ∀ (s : State) (tag address offset count : Byte) (data : List Byte), Ready s → 1 ≤ data.length → data.length ≤ 16 →
    let taken := fun (kind : Byte) (t : Transaction) (e : State) =>
      let a := formReply (plainReply tag kind .accepted .none) s
      (Config.dataLineLow s.draws = false ∧ e.mb = { s.mb with state := .busy, transaction := some t } ∧
        e.sl = { a.sl with reserved := a.sl.reserved + 1 }) ∨
      (Config.dataLineLow s.draws = true ∧ e.mb.state = .hung ∧ e.mb.transaction = none ∧
        e.sl = (formReply (plainReply tag kind .failed .hung) a).sl)
    let judged := fun (n most : Nat) (kind : Byte) (c : Instr) (t : Transaction) =>
      let bad := address.toNat < 0x08 ∨ 0x77 < address.toNat ∨ n < 1 ∨ most < n ∨ 256 < offset.toNat + n
      let refused := fun (r : Reason) => exec c s = .next (settle (formReply (plainReply tag kind .refused r) s))
      (bad → refused .invalid) ∧
      (¬ bad → s.mb.owner = .auto → refused .wrongState) ∧
      (¬ bad → s.mb.owner = .station → s.mb.state = .hung ∨ s.mb.state = .recovering → refused .hung) ∧
      (¬ bad → s.mb.owner = .station → s.mb.state = .busy ∨ s.mb.state = .idle ∧ s.mb.heldAbort.isSome = true →
        refused .busy) ∧
      (¬ bad → s.mb.owner = .station → s.mb.state = .idle → s.mb.heldAbort = none →
        ∃ e, exec c s = .next (settle e) ∧ taken kind t e ∧ SameMeasurement s e ∧ e.sr = s.sr ∧ e.rq = s.rq)
    judged count.toNat 32 18 (.moduleRead tag address offset count)
      (.read tag address.toNat offset.toNat count.toNat 0) ∧
    judged data.length 16 19 (.moduleWrite tag address offset data) (.write tag address.toNat offset.toNat data 0)

/-- MODULE FETCH: INVALID above module 3, WRONG_STATE while the owner is STATION, HUNG, BUSY while a tag waits on the module's
entry; otherwise ACCEPTED, and the module has one queue entry, forced, that holds the tag (R178); that its refusals are judged
in that order is the model's choice (notes/assumptions/77.md). MODULE ABORT: taken in IDLE and HUNG it starts the recovery, in
BUSY it is held until the transaction ends, and a second one is refused BUSY (R183). -/
def Obligations.FetchAndAbortOrders : Prop :=
  ∀ (s : State) (tag : Byte), Ready s →
    (∀ module : Byte,
      let refused := fun (r : Reason) =>
        exec (.moduleFetch tag module) s = .next (settle (formReply (plainReply tag 20 .refused r) s))
      (4 ≤ module.toNat → refused .invalid) ∧
      (∀ m : Fin 4, module.toNat = m.val →
        (s.mb.owner = .station → refused .wrongState) ∧
        (s.mb.owner = .auto → s.mb.state = .hung ∨ s.mb.state = .recovering → refused .hung) ∧
        (s.mb.owner = .auto → s.mb.state = .idle ∨ s.mb.state = .busy →
          (∀ x t, fetchEntry s m = some x → x.tag = some t → refused .busy) ∧
          ((∀ x ∈ s.mb.queue, x.module = m → x.tag = none) →
            ∃ e, exec (.moduleFetch tag module) s = .next (settle e) ∧
              (∃ x ∈ e.mb.queue, x.module = m ∧ x.forced = true ∧ x.tag = some tag) ∧
              (∀ x, x.module ≠ m → (x ∈ e.mb.queue ↔ x ∈ s.mb.queue)) ∧
              e.mb.queue.length = (if s.mb.queue.any (fun x => x.module == m) then s.mb.queue.length
                else s.mb.queue.length + 1) ∧
              e.mb.state = s.mb.state ∧ e.sl = acceptedLink (plainReply tag 20 .accepted .none) s ∧
              SameMeasurement s e ∧ e.sr = s.sr)))) ∧
    (let accepted := formReply (plainReply tag 21 .accepted .none) s
      let reserved := accepted.setSl { accepted.sl with reserved := accepted.sl.reserved + 1 }
      let refused := exec (.moduleAbort tag) s = .next (settle (formReply (plainReply tag 21 .refused .busy) s))
      (s.mb.state = .idle ∨ s.mb.state = .hung →
        exec (.moduleAbort tag) s =
          .next (settle (reserved.setMb { s.mb with state := .recovering, abortTag := some tag }))) ∧
      (s.mb.state = .busy → s.mb.heldAbort = none →
        exec (.moduleAbort tag) s = .next (settle (reserved.setMb { s.mb with heldAbort := some tag }))) ∧
      (s.mb.state = .busy → s.mb.heldAbort.isSome = true → refused) ∧
      (s.mb.state = .recovering → refused))

/-! ## The store port (section 9.7) -/

/-- The arbiter's choice with no operation in flight (R173): nobody waits, the port is free; one alone is granted, with its
tenure count one up when it holds the port and else 1, saturating at 16; of two that wait the holder, the tenure count, the bursts
and the queue occupancy against URGENT_LEVEL decide. A page of the reader is granted when it passes the check of R166. The
operations of MOUNT, FORMAT and MAP LOAD are not arbitrated: holder none, tenure count 0. An operation in flight is not
interrupted. Which of two that come together at a free port is first is free (notes/assumptions/2.md). -/
def Obligations.StorePortArbitrated : Prop :=
  ∀ s : State,
    let granted := fun (who : Requester) (op : PortOp) =>
      s.setSr { s.sr with
        holder := some who
        tenure := if s.sr.holder = some who then (if s.sr.tenure < 16 then s.sr.tenure + 1 else 16) else 1
        flight := some { op := op, requester := some who, elapsed := 0, stale := false } }
    let urgent := s.sl.settings.urgentLevel ≤ s.rq.entries.length
    (s.sr.flight.isSome = true → grantStep s = s) ∧
    (s.sr.flight = none →
      (∀ op, jobRequest s = some op →
        grantStep s = s.setSr { s.sr with
          holder := none, tenure := 0
          flight := some { op := op, requester := none, elapsed := 0, stale := false } }) ∧
      (jobRequest s = none →
        (writerRequest s = none → readerRequest s = none →
          grantStep s = s.setSr { s.sr with holder := none, tenure := 0 }) ∧
        (∀ op, writerRequest s = some op → readerRequest s = none → grantStep s = granted .writer op) ∧
        (∀ op, writerRequest s = none → readerRequest s = some op → readPasses s op = true →
          grantStep s = granted .reader op) ∧
        (∀ w r, writerRequest s = some w → readerRequest s = some r →
          (s.sr.holder = some .writer → urgent ∨ s.sr.tenure < s.sl.settings.writerBurst →
            grantStep s = granted .writer w) ∧
          (s.sr.holder = some .writer → ¬ urgent → s.sl.settings.writerBurst ≤ s.sr.tenure → readPasses s r = true →
            grantStep s = granted .reader r) ∧
          (s.sr.holder = some .reader → urgent ∨ s.sl.settings.readerBurst ≤ s.sr.tenure →
            grantStep s = granted .writer w) ∧
          (s.sr.holder = some .reader → ¬ urgent → s.sr.tenure < s.sl.settings.readerBurst → readPasses s r = true →
            grantStep s = granted .reader r) ∧
          (s.sr.holder = none → readPasses s r = true →
            ∃ who n, grantStep s =
              (granted who (if who = .writer then w else r)).setDraws n ∧ n = s.draws + 1))))

/-! ## Ends of store operations (chapters 8 and 9) -/

/-- A page program that succeeds: serial one up, streak 0, the buffer empty, the tail set when there was none, every entry's
bytes of the page programmed with the entries that now have both marks gone, and the head on the next page, or on page 0 of
the next sector with its erased mark clear (R146): the next in ring order, whether it is USABLE being settled by the task
seekHead (notes/assumptions/37.md, 38.md); the end record's last byte ends a STOPPING campaign (R131). One that fails consumes no
serial; in MAPPED the head sector is to be retired, in DIRECT the store is FAULTED with the cause PROGRAM (R151). -/
def Obligations.PageProgramEnds : Prop :=
  (∀ (s : State) (a b n : Nat) (d : List Byte) (h : PagePos), s.sr.flight = some ⟨.program a b d, some .writer, n, false⟩ →
     s.sw.head = some h →
     ∃ e, exec .pageProgramDone s = .next (settle e) ∧
       e.sr.flight = none ∧ e.sr.state = s.sr.state ∧
       (∀ k, s.sw.serial = .number k → e.sw.serial = (if k < 4294967295 then .number (k + 1) else .exhausted)) ∧
       e.sw.streak = 0 ∧ e.sw.buffer = [] ∧ e.sw.starts = 0 ∧ e.sw.firstOffset = 240 ∧ e.sw.flushDue = false ∧
       e.sw.tail = some (s.sw.tail.getD h.sector) ∧
       e.sw.tailSeq = (if s.sw.tail = none ∧ h.page = 0 then s.sw.seqRef else s.sw.tailSeq) ∧
       (h.page < 15 →
         e.sw.head = some { h with page := h.page + 1 } ∧ e.sw.headErased = s.sw.headErased ∧ e.sw.tasks = s.sw.tasks) ∧
       (15 ≤ h.page → e.sw.head = some { sector := nextSector s h.sector, page := 0 } ∧ e.sw.headErased = false ∧
         e.sw.tasks = [.seekHead]) ∧
       StoreFrame s e ∧
       (s.ia.endSeq = none →
         e.ia = s.ia ∧ e.sl = s.sl ∧
         e.rq.entries = (s.rq.entries.map fun x =>
           if x.stored = false ∧ x.programmed < x.appended then
             { x with
               programmed := x.appended, firstSector := some (x.firstSector.getD h.sector), lastSector := some h.sector,
               stored := x.appended == x.record.length (capturePoints s) }
           else x).filter fun x => !(x.stored && x.emitted)) ∧
       (∀ x ∈ s.rq.entries, s.ia.state = .stopping → s.ia.endSeq = some x.record.sequence → x.stored = false →
         x.programmed < x.appended → x.appended = x.record.length (capturePoints s) → e.ia.state = .stopped)) ∧
  (∀ (s : State) (a b n : Nat) (d : List Byte) (h : PagePos), s.sr.flight = some ⟨.program a b d, some .writer, n, false⟩ →
     s.sw.head = some h → s.sr.state ≠ .faulted →
     (s.sw.mode = .mapped →
       exec .pageProgramFailed s = .next (settle ((landed s).setSw { s.sw with tasks := [.retire h.sector true] }))) ∧
     (s.sw.mode = .direct →
       ∃ e, exec .pageProgramFailed s = .next (settle e) ∧ StoreFaulted .program s e ∧ e.sw.serial = s.sw.serial))

/-- The map program of a retirement of the writer, MOUNTED or UNMOUNTING: failed, it makes the store FAULTED with the cause MAP;
else SECTOR_RETIRED is latched, the usable count falls and the streak rises by one, a third retirement in a row or fewer than 2
usable sectors make the store FAULTED with the cause RETIREMENT, and otherwise the head moves to page 0 of the next sector in
ring order, whether that is USABLE being settled by the task seekHead (notes/assumptions/38.md, and in UNMOUNTING 37.md), after a
failed program with the buffer discarded and the entries of the sector set back (R151 to R153). After a program that fails in
UNMOUNTING there is no rewrite: the head stays, not erased (R157). One of FORMAT: SECTOR_RETIRED is latched and the usable count
falls, the streak is not raised, and the next sector follows (R155). One of a MAP LOAD: an entry more is programmed and in the
map fill; the entry is the physical sector, the state byte 0xFF and the check byte (R142, R156). -/
def Obligations.MapProgramEnds : Prop :=
  (∀ (s : State) (l n sector : Nat) (programFailed : Bool) (rest : List WriterTask) (h : PagePos),
    s.sr.flight = some ⟨.retireMap l, some .writer, n, false⟩ → s.sw.tasks = .retire sector programFailed :: rest →
    s.sw.head = some h → sector = h.sector → (s.sr.state = .mounted ∨ s.sr.state = .unmounting) →
    (∃ e, exec (.mapByteProgramEnd false) s = .next (settle e) ∧ StoreFaulted .map s e) ∧
    (3 ≤ s.sw.streak + 1 ∨ s.sw.usable < 3 →
      ∃ e, exec (.mapByteProgramEnd true) s = .next (settle e) ∧ StoreFaulted .retirement s e ∧
        e.sl.latched.getLsbD 17 = true) ∧
    (s.sw.streak + 1 < 3 → 3 ≤ s.sw.usable →
      ∃ e, exec (.mapByteProgramEnd true) s = .next (settle e) ∧
        e.sr.state = s.sr.state ∧ e.sr.flight = none ∧ e.sl.latched.getLsbD 17 = true ∧
        e.sw.usable = s.sw.usable - 1 ∧ e.sw.streak = s.sw.streak + 1 ∧ e.sw.serial = s.sw.serial ∧
        e.sw.tail = (if s.sw.tail = some sector then none else s.sw.tail) ∧ e.sw.headErased = false ∧
        (if programFailed = true ∧ s.sr.state = .unmounting then e.sw.head = some h ∧ e.sw.tasks = rest
        else e.sw.head = some { sector := nextSector s h.sector, page := 0 } ∧ e.sw.tasks = [.seekHead]) ∧
        StoreFrame s e ∧ (∀ t ∈ e.cache, t.logical = sector → t.usable = false) ∧
        (if programFailed then
          e.sw.buffer = [] ∧ e.rq.totalLoss = min 4294967295 (s.rq.totalLoss + s.sw.headDepartures) ∨
            s.sw.headDepartures = 0 ∧ e.sw.buffer = [] ∧ e.rq.totalLoss = s.rq.totalLoss
        else e.sw.buffer = s.sw.buffer ∧ e.rq = s.rq) ∧
        (programFailed = true → e.rq.entries = s.rq.entries.map fun x =>
          if x.firstSector = some sector ∨ x.lastSector = some sector ∨ x.programmed < x.appended then
            { x with appended := 0, programmed := 0, firstSector := none, lastSector := none, stored := false }
          else x))) ∧
  (∀ (s : State) (l n sector : Nat) (first : Option Nat),
    s.sr.flight = some ⟨.retireMap l, none, n, false⟩ → s.sr.job = .format sector true first → s.sr.state = .formatting →
    (∃ e, exec (.mapByteProgramEnd true) s = .next (settle e) ∧
      e.sr.state = .formatting ∧ e.sr.flight = none ∧ e.sr.job = .format (sector + 1) false first ∧
      e.sl.latched.getLsbD 17 = true ∧ e.sw.usable = s.sw.usable - 1 ∧ e.sw.streak = s.sw.streak ∧
      (∀ t ∈ e.cache, t.logical = sector → t.usable = false) ∧ e.rq = s.rq ∧ e.cu = s.cu ∧ StoreFrame s e) ∧
    ∃ e, exec (.mapByteProgramEnd false) s = .next (settle e) ∧ StoreFaulted .map s e) ∧
  (∀ (s : State) (i p n start done k : Nat) (rest members : List Nat) (entry : List Byte),
    s.sr.flight = some ⟨.loadMap i entry, none, n, false⟩ → s.sr.job = .mapLoad start false (p :: rest) done →
    s.sr.state ≠ .faulted → s.sw.mapFill = some (k, members) →
    exec (.mapByteProgramEnd true) s =
      .next (settle (((landed s).setSw { s.sw with mapFill := some (k + 1, members ++ [p]) }).setSr
        { s.sr with flight := none, job := .mapLoad start false rest (done + 1) })) ∧
    ∃ e, exec (.mapByteProgramEnd false) s = .next (settle e) ∧ StoreFaulted .map s e) ∧
  (∀ (s : State) (start p done : Nat) (rest : List Nat), s.sr.job = .mapLoad start false (p :: rest) done → p < 65536 →
    let lo := byteOf p
    let hi := byteOf (p / 256)
    jobRequest s = some (.loadMap (start + done) [lo, hi, 0xFF, 0x5A ^^^ lo ^^^ hi]))

/-- A sector erase ends. The writer's: the head erased mark is set and the departure count 0; failed, the head sector is to be
retired in MAPPED, and the store is FAULTED with the cause ERASE in DIRECT (R148, R153). FORMAT's: the next sector is to come,
or the sector is to be retired (R155). The map sector's: the map fill is 0, or the store FAULTED with the cause MAP (R156). -/
def Obligations.SectorEraseEnds : Prop :=
  ∀ (s : State) (a n : Nat), s.sr.state ≠ .faulted →
    (∀ h, s.sr.flight = some ⟨.erase a, some .writer, n, false⟩ → s.sw.head = some h →
      exec .sectorEraseDone s =
        .next (settle ((landed s).setSw { s.sw with
          headErased := true, headDepartures := 0, tasks := s.sw.tasks.drop 1 })) ∧
      (s.sw.mode = .mapped →
        exec .sectorEraseFailed s = .next (settle ((landed s).setSw { s.sw with tasks := [.retire h.sector false] }))) ∧
      (s.sw.mode = .direct → ∃ e, exec .sectorEraseFailed s = .next (settle e) ∧ StoreFaulted .erase s e)) ∧
    (∀ sector retiring first, s.sr.flight = some ⟨.erase a, none, n, false⟩ →
      s.sr.job = .format sector retiring first →
      exec .sectorEraseDone s =
        .next (settle ((landed s).setSr { s.sr with
          flight := none, job := .format (sector + 1) false (some (first.getD sector)) })) ∧
      (s.sw.mode = .mapped →
        exec .sectorEraseFailed s =
          .next (settle ((landed s).setSr { s.sr with flight := none, job := .format sector true first }))) ∧
      (s.sw.mode = .direct → ∃ e, exec .sectorEraseFailed s = .next (settle e) ∧ StoreFaulted .erase s e)) ∧
    (∀ start erase left done, s.sr.flight = some ⟨.eraseMap, none, n, false⟩ →
      s.sr.job = .mapLoad start erase left done →
      exec .sectorEraseDone s =
        .next (settle (((landed s).setSw { s.sw with mapFill := some (0, []) }).setSr
          { s.sr with flight := none, job := .mapLoad start false left 0 })) ∧
      ∃ e, exec .sectorEraseFailed s = .next (settle e) ∧ StoreFaulted .map s e)

/-- A header read of the writer ends: page 0 of the tail gives the tail sequence, a header that is not valid leaves it (R148);
page 15 of a full ring in HALT gives the last sequence, 0xFFFFFFFF when not valid, which moves the tail when it is at most the
watermark and else sets the stop mark (R149): the tail to the next sector in ring order, whether that is USABLE being settled by
the task seekTail (notes/assumptions/38.md), and whatever STORE_WRAP has become meanwhile (notes/assumptions/35.md). A map entry
read ends: it is judged by the table of R142, its translation goes to who asked for it, the writer, the current readback, or the
MOUNT or FORMAT in progress, where a sector met for the first time counts usable; and in MAPPED mode with the cache on as the read ends
(notes/assumptions/75.md) to the cache, in place or as the most recently used of at most 8 (R141, R142, R143). A read that nobody
awaits any more is judged and placed alone, and one that outlived an UNMOUNT is not placed (notes/assumptions/76.md). -/
def Obligations.WriterReadsEnd : Prop :=
  (∀ (s : State) (a b n : Nat) (header : BitVec 128) (h : PagePos) (rest : List WriterTask),
     s.sr.flight = some ⟨.readHeader a b, some .writer, n, false⟩ → s.sw.head = some h →
     let read := readHeader (bytesOf 16 header)
     let last := match read with
       | none => 4294967295
       | some x => if x.starts = 0 then x.seqRef else x.seqRef + x.starts - 1
     ∃ e, exec (.headerReadDone header) s = .next (settle e) ∧
       e.sr.flight = none ∧ e.rq = s.rq ∧ e.sl = s.sl ∧ StoreFrame s e ∧
       (s.sw.tasks = .readTail :: rest →
         e.sw = { s.sw with tasks := rest, tailSeq := (read.map PageHeader.seqRef).getD s.sw.tailSeq }) ∧
       (s.sw.tasks = .readLast :: rest → last ≤ s.sw.watermark →
         e.sw = { s.sw with tail := some (nextSector s h.sector), tasks := [.seekTail, .readTail, .erase] }) ∧
       (s.sw.tasks = .readLast :: rest → s.sw.watermark < last →
         e.sw = { s.sw with stopMark := some last, tasks := [] })) ∧
  (∀ (s : State) (l n : Nat) (lo hi mark check : Byte) (who : Option Requester) (stale : Bool),
     s.sr.flight = some ⟨.readMap l, who, n, stale⟩ →
     let physical := lo.toNat + 256 * hi.toNat
     let checked := check = 0x5A ^^^ lo ^^^ hi ∧ 0 < physical ∧ physical < s.sw.sectors
     let usable := decide (checked ∧ mark = 0xFF)
     let damaged := ¬ checked ∨ (mark ≠ 0 ∧ mark ≠ 0xFF)
     let t : Translation := { logical := l, physical := physical, usable := usable }
     let walking := ∃ j, s.sr.job = .mount j ∧ j.walking = true
     let outlived := stale = true ∧ (s.sr.state = .unmounted ∨ s.sr.state = .formatting ∨ s.sr.state = .mounting)
     ∃ e, exec (.mapEntryReadDone (check ++ mark ++ hi ++ lo)) s = .next (settle e) ∧
       e.sr.flight = none ∧
       (damaged → e.sl = { s.sl with latched := s.sl.latched ||| 0x40000 }) ∧ (¬ damaged → e.sl = s.sl) ∧
       (stale = true → e.sw = s.sw ∧ e.sr = { s.sr with flight := none }) ∧
       (stale = false → who = some .writer → e.sw = { s.sw with translation := some t } ∧ e.sr = { s.sr with flight := none }) ∧
       (stale = false → who = some .reader → e.sw = s.sw ∧
         e.sr = { s.sr with
           flight := none, current := s.sr.current.map fun r => { r with translation := some t } }) ∧
       (stale = false → who = none → e.sr = { s.sr with flight := none, jobTranslation := some t } ∧
         (usable = true ∧ ¬ walking → e.sw = { s.sw with usable := s.sw.usable + 1 }) ∧
         (usable = false ∨ walking → e.sw = s.sw)) ∧
       (s.sl.settings.mapCache = false ∨ s.sw.mode = .direct ∨ outlived → e.cache = s.cache) ∧
       (s.sl.settings.mapCache = true → s.sw.mode = .mapped → ¬ outlived → t ∈ e.cache ∧
         ((∀ x ∈ s.cache, x.logical ≠ l) → s.cache.length < 8 → e.cache = s.cache ++ [t]) ∧
         ((∀ x ∈ s.cache, x.logical ≠ l) → 8 ≤ s.cache.length → e.cache = s.cache.drop 1 ++ [t]) ∧
         ((∃ x ∈ s.cache, x.logical = l) → e.cache.length = s.cache.length)) ∧
       e.rq = s.rq ∧ StoreFrame s e)

/-- Page 0 of a sector read for the mount scan counts it EMPTY, VALID or DAMAGED, and the scan goes on with the next sector
(R161). With every sector classified, fewer than 2 USABLE sectors make the store FAULTED with the cause RETIREMENT; a VALID
sector starts the walk of the head sector at page 1; none ends the scan with the head at page 0 of the first USABLE sector and
nothing else found (R161 to R163). In the walk a page whose serial is higher becomes the head page. The scan ends at the first
EMPTY page, the head there and erased; at a page neither EMPTY nor valid, at one whose serial is not higher, and after page 15,
the head at page 0 of the next USABLE sector that the scan met, not erased, with the erase-ahead and its ring-full test (R148, R149):
under OVERWRITE the tail then stands on the next sector with the task seekTail (notes/assumptions/38.md), and under HALT the stop
mark, and with it STORE_FULL, waits for the header read (notes/assumptions/64.md). The store is MOUNTED,
with tail, next serial and watermark as found (R162 to R164); the entries of the queue are kept, those not stored set back, when
the lowest number is at least the sequence found less 1, and are discarded otherwise, those not stored counted lost (R140). -/
def Obligations.MountScanReads : Prop :=
  let sameQueue := fun (s e : State) (found : NextSeq) =>
    let n := match found with
      | .number n => n
      | _ => 4294967296
    match s.rq.entries with
    | [] => e.rq = { s.rq with next := found }
    | x :: _ =>
      if n ≤ x.record.sequence + 1 then
        e.rq = { s.rq with entries := s.rq.entries.map fun x =>
          if x.stored then x
          else { x with appended := 0, programmed := 0, firstSector := none, lastSector := none, stored := false } }
      else
        let lost := (s.rq.entries.filter fun x => !x.stored).length
        e.rq.entries = [] ∧ e.rq.next = found ∧ e.rq.notCreated = s.rq.notCreated ∧
          (lost = 0 → e.rq.totalLoss = s.rq.totalLoss) ∧
          (0 < lost →
            e.rq.totalLoss = min 4294967295 (s.rq.totalLoss + lost) ∧ e.sl.latched.getLsbD 15 = true)
  let mountedWith := fun (s e : State) =>
    e.sr.state = .mounted ∧ e.sr.job = .none ∧ e.sr.flight = none ∧ e.sw.buffer = [] ∧ e.sw.streak = 0 ∧
      e.sw.headDepartures = 0 ∧ e.sw.stopMark = none ∧ e.sl.storeOrder = none ∧ StoreFrame s e
  (∀ (s : State) (a b n : Nat) (page : BitVec 2048) (j : MountJob),
    s.sr.flight = some ⟨.readPage a b, none, n, false⟩ → s.sr.job = .mount j →
    let bytes := bytesOf 256 page
    (j.walking = false →
      ∃ k, exec (.mountPageReadDone page) s = .next (settle ((landed s).setSr { s.sr with flight := none, job := .mount k })) ∧
        k.next = j.next + 1 ∧ k.retired = j.retired ∧ k.walking = false ∧
        ((∀ x ∈ bytes, x = 0xFF) → k.empty = j.empty + 1 ∧ k.valid = j.valid ∧ k.damaged = j.damaged) ∧
        ((∃ x ∈ bytes, x ≠ 0xFF) → readHeader bytes = none →
          k.empty = j.empty ∧ k.valid = j.valid ∧ k.damaged = j.damaged + 1) ∧
        (∀ h, (∃ x ∈ bytes, x ≠ 0xFF) → readHeader bytes = some h →
          k.empty = j.empty ∧ k.valid = j.valid + 1 ∧ k.damaged = j.damaged ∧
          k.low = (match j.low with
            | some (m, l) => if h.serial < l.serial then some (j.next, h) else some (m, l)
            | none => some (j.next, h)) ∧
          k.high = (match j.high with
            | some (m, x) => if x.serial ≤ h.serial then some (j.next, h) else some (m, x)
            | none => some (j.next, h)))) ∧
    (∀ h, j.walking = true → readHeader bytes = some h → j.headHeader.serial < h.serial → j.page < 15 →
      exec (.mountPageReadDone page) s =
        .next (settle ((landed s).setSr { s.sr with
          flight := none, job := .mount { j with headPage := j.page, headHeader := h, page := j.page + 1 } }))) ∧
    (∀ low high first top, j.walking = true → 2 ≤ s.sw.usable → j.low = some (low, first) → j.high = some (high, top) →
      let found := fun (e : State) (last : PageHeader) =>
        mountedWith s e ∧ e.sw.tailSeq = first.seqRef ∧ e.sw.watermark = first.seqRef - 1 ∧
          e.sw.serial = (if last.serial < 4294967295 then .number (last.serial + 1) else .exhausted) ∧
          (let seq := if 0 < last.starts then last.seqRef + last.starts - 1 else last.seqRef
           sameQueue s e (if seq < 4294967295 then .number (seq + 1) else .exhausted))
      ((∀ x ∈ bytes, x = 0xFF) → readHeader bytes = none →
        ∃ e, exec (.mountPageReadDone page) s = .next (settle e) ∧ found e j.headHeader ∧
          e.sw.head = some { sector := high, page := j.headPage + 1 } ∧ e.sw.headErased = true ∧ e.sw.tail = some low ∧
          e.sw.tasks = []) ∧
      (∀ last : PageHeader,
        (readHeader bytes = none ∧ (∃ x ∈ bytes, x ≠ 0xFF) ∧ last = j.headHeader) ∨
          (∃ h, readHeader bytes = some h ∧ h.serial ≤ j.headHeader.serial ∧ last = j.headHeader) ∨
          (j.page = 15 ∧ readHeader bytes = some last ∧ j.headHeader.serial < last.serial) →
        let next := match j.afterHead, j.firstUsable with
          | some sector, _ => sector
          | none, some sector => sector
          | none, none => 0
        ∃ e, exec (.mountPageReadDone page) s = .next (settle e) ∧ found e last ∧
          e.sw.head = some { sector := next, page := 0 } ∧ e.sw.headErased = false ∧
          (next ≠ low → e.sw.tail = some low ∧ e.sw.tasks = [.erase]) ∧
          (next = low → s.sl.settings.storeWrap = .halt → e.sw.tail = some low ∧ e.sw.tasks = [.readLast]) ∧
          (next = low → s.sl.settings.storeWrap = .overwrite →
            e.sw.tail = some (nextSector s low) ∧ e.sw.tasks = [.seekTail, .readTail, .erase])))) ∧
  (∀ (s : State) (j : MountJob), s.sr.flight = none → s.sr.job = .mount j → s.sr.state = .mounting → j.walking = false →
    s.sw.logical ≤ j.next →
    (s.sw.usable < 2 → StoreFaulted .retirement s (jobStep s)) ∧
    (∀ high top, 2 ≤ s.sw.usable → j.high = some (high, top) →
      jobStep s = s.setSr { s.sr with
        job := .mount { j with walking := true, page := 1, headPage := 0, headHeader := top } }) ∧
    (2 ≤ s.sw.usable → j.high = none →
      let e := jobStep s
      mountedWith s e ∧ e.sw.head = some { sector := j.firstUsable.getD 0, page := 0 } ∧ e.sw.headErased = false ∧
        e.sw.tail = none ∧ e.sw.watermark = 0 ∧ e.sw.serial = .number 0 ∧ e.sw.tasks = [.erase] ∧
        sameQueue s e (.number 0)))

/-- A header or page read of the current readback ends: a probe in LOCATING raises the lower bound to a page whose seq_ref is
at or below the wanted sequence and else lowers the upper bound to it; a page stepped back to with a record start begins the
walk there, read once, and without one the step goes a page further back (R167). A valid page of the walk is parsed from its
first offset when no record is in progress, and from its start when one is and the page continues it; a page that begins one at 0
cuts the record in progress, which is TORN, or counted in no outcome when the page has its seq_ref, being a copy. A page that is
not valid is passed over, and a record in progress is TORN there (R168, R169).
The parse, by the reader's own work (`readerStep`): a byte of one of the six kinds begins a record, any other ends the page. That
a record begins with its page's last sequence as its guess, and that its header is judged once 12 of its 20 bytes are known, is the
model's reading (notes/assumptions/24.md); the judgement is the table of R168, passing the record over, serving it from its first
byte, or ending the order beyond the range (one of a length out of range ends the page in hand, also when it began on the page before:
notes/assumptions/56.md); the bytes served go out in pieces of 1,000, the last one with the mark that the CRC-32 gives (R168,
R170). A record cut at the end of the written span is PENDING when the queue holds an entry of it and TORN otherwise, and the
order ends with the sequences left PENDING or ABSENT (R169). -/
def Obligations.ReadbackReadsEnd : Prop :=
  (∀ (s : State) (a b n : Nat) (page : BitVec 2048) (r : Readback), s.sr.current = some r →
    let next := fun (p : ReadPhase) => (landed s).setSr { s.sr with flight := none, current := some { r with phase := p } }
    (s.sr.flight = some ⟨.readHeader a b, some .reader, n, false⟩ →
      let read := readHeader (bytesOf 16 page)
      (∀ lo hi starts d m, r.phase = .sectors lo hi starts (some (d, m)) →
        exec (.readbackPageReadDone page) s = .next (settle (next (match read with
          | some h => if h.seqRef ≤ r.wanted then .sectors d hi (some h.starts) none else .sectors lo d starts none
          | none => .sectors lo d starts none)))) ∧
      (∀ sector lo hi starts, r.phase = .pages sector lo hi starts →
        exec (.readbackPageReadDone page) s = .next (settle (next (match read with
          | some h =>
            if h.seqRef ≤ r.wanted then .pages sector ((lo + hi) / 2) hi (some h.starts)
            else .pages sector lo ((lo + hi) / 2) starts
          | none => .pages sector lo ((lo + hi) / 2) starts))))) ∧
    (s.sr.flight = some ⟨.readPage a b, some .reader, n, false⟩ →
      let read := readHeader (bytesOf 256 page)
      let payload := (bytesOf 256 page).drop 16
      (∀ at_ h, r.phase = .walk at_ → read = some h →
        (r.record = none →
          exec (.readbackPageReadDone page) s =
            .next (settle (next (.parse at_ h.lastSequence (payload.drop h.firstOffset))))) ∧
        (∀ p, r.record = some p → 0 < h.firstOffset →
          exec (.readbackPageReadDone page) s = .next (settle (next (.parse at_ h.lastSequence payload)))) ∧
        (∀ p total sequence o rest, r.record = some p → h.firstOffset = 0 → s.sr.queue = o :: rest →
          (p.known = some (sequence, total, true) →
            exec (.readbackPageReadDone page) s = .next (settle ((landed s).setSr { s.sr with
              flight := none
              piece := some ⟨o.tag, sequence, p.handed / 1000, true, .torn, p.bytes.drop p.handed⟩
              current := some { r with
                phase := .parse at_ h.lastSequence payload
                record := none
                wanted := if h.seqRef = sequence then r.wanted else sequence + 1
                outcomes :=
                  if h.seqRef = sequence then r.outcomes else { r.outcomes with torn := r.outcomes.torn + 1 } } }))) ∧
          (p.known = some (sequence, total, false) →
            exec (.readbackPageReadDone page) s = .next (settle ((landed s).setSr { s.sr with
              flight := none
              current := some { r with phase := .parse at_ h.lastSequence payload, record := none } }))))) ∧
      (∀ at_, r.phase = .walk at_ → read = none →
        let target : PagePos :=
          if at_.page < 15 then { at_ with page := at_.page + 1 } else { sector := nextSector s at_.sector, page := 0 }
        s.sw.head ≠ some target →
        (r.record = none → exec (.readbackPageReadDone page) s = .next (settle (next (.walk target)))) ∧
        (∀ p total sequence o rest, r.record = some p → p.known = some (sequence, total, true) → s.sr.queue = o :: rest →
          exec (.readbackPageReadDone page) s = .next (settle ((landed s).setSr { s.sr with
            flight := none
            piece := some ⟨o.tag, sequence, p.handed / 1000, true, .torn, p.bytes.drop p.handed⟩
            current := some { r with
              phase := .walk target
              record := none
              wanted := sequence + 1
              outcomes := { r.outcomes with torn := r.outcomes.torn + 1 } } })))) ∧
      (∀ distance, r.phase = .stepBack distance → r.record = none →
        exec (.readbackPageReadDone page) s = .next (settle (next (match read with
          | some h =>
            if 0 < h.starts then .parse (pageAt s distance) h.lastSequence (payload.drop h.firstOffset)
            else .stepBack (distance - 1)
          | none => .stepBack (distance - 1))))))) ∧
  (∀ (s : State) (o : ReadOrder) (rest : List ReadOrder) (r : Readback) (at_ : PagePos) (last : Nat) (bytes : List Byte),
    s.sr.queue = o :: rest → s.sr.current = some r → s.sr.piece = none → r.phase = .parse at_ last bytes →
    let put := fun (piece : Option Piece) (q : Readback) => s.setSr { s.sr with piece := piece, current := some q }
    let target : PagePos :=
      if at_.page < 15 then { at_ with page := at_.page + 1 } else { sector := nextSector s at_.sector, page := 0 }
    let ended := fun (piece : Option Piece) (n : Outcomes) =>
      formReply { plainReply o.tag 16 .done .none with
        body := leBytes 4 o.first ++ leBytes 2 o.count ++ leBytes 2 n.served ++ leBytes 2 n.damaged ++ leBytes 2 n.gone ++
          leBytes 2 n.pending ++ leBytes 2 n.torn ++ leBytes 2 n.absent }
        ((s.setSl { s.sl with reserved := s.sl.reserved - 1 }).setSr
          { s.sr with queue := [], current := none, piece := piece })
    let alone := rest = [] ∧ r.waiters = [] ∧ r.cancel = false ∧ s.sr.flight = none
    (∀ c left, r.record = none → r.cancel = false → r.wanted ≤ o.last → bytes = c :: left →
      (1 ≤ c.toNat → c.toNat ≤ 6 → readerStep s = put none { r with record := some ⟨last, [], 0, none, 0⟩ }) ∧
      (c = 0 ∨ 6 < c.toNat → s.sw.head ≠ some target → readerStep s = put none { r with phase := .walk target })) ∧
    (∀ p, r.record = some p → p.known = none → p.got < 12 → 12 ≤ p.got + bytes.length →
      let header := p.bytes ++ bytes.take (12 - p.got)
      let total := fieldNat header 4 4
      let sequence := fieldNat header 8 4
      let met := fun (served : Bool) =>
        { r with
          phase := .parse at_ last (bytes.drop (12 - p.got))
          record := some { p with bytes := header, got := 12, known := some (sequence, total, served) } }
      (total < 24 ∨ 100000 < total → s.sw.head ≠ some target →
        readerStep s = put none { r with phase := .walk target, record := none }) ∧
      (24 ≤ total → total ≤ 100000 →
        (sequence < r.wanted → readerStep s = put none (met false)) ∧
        (r.wanted ≤ sequence → sequence ≤ o.last →
          readerStep s = put none { met true with
            wanted := sequence
            outcomes := { r.outcomes with absent := r.outcomes.absent + (sequence - r.wanted) } }) ∧
        (r.wanted ≤ sequence → o.last < sequence → alone →
          readerStep s =
            ended none { r.outcomes with absent := r.outcomes.absent + (o.last + 1 - r.wanted) }))) ∧
    (∀ p sequence total, r.record = some p → p.known = some (sequence, total, true) → bytes ≠ [] →
      let n := min bytes.length (min (total - p.got) (1000 - (p.got - p.handed)))
      let q := { p with bytes := p.bytes ++ bytes.take n, got := p.got + n }
      let piece := fun (final : Bool) (mark : PieceMark) =>
        some (Piece.mk o.tag sequence (p.handed / 1000) final mark (q.bytes.drop p.handed))
      let on := { r with phase := .parse at_ last (bytes.drop n) }
      let done := { on with record := none, wanted := sequence + 1 }
      let checked := q.bytes.drop (q.bytes.length - 4) = crc32Bytes (q.bytes.take (q.bytes.length - 4))
      (total ≤ q.got → checked →
        readerStep s = put (piece true .good)
          { done with outcomes := { r.outcomes with served := r.outcomes.served + 1 } }) ∧
      (total ≤ q.got → ¬ checked →
        readerStep s = put (piece true .damaged)
          { done with outcomes := { r.outcomes with damaged := r.outcomes.damaged + 1 } }) ∧
      (q.got < total → q.got - p.handed = 1000 →
        readerStep s = put (piece false .good) { on with record := some { q with handed := p.handed + 1000 } }) ∧
      (q.got < total → q.got - p.handed < 1000 → readerStep s = put none { on with record := some q })) ∧
    (∀ p sequence total, r.record = some p → p.known = some (sequence, total, false) → bytes ≠ [] →
      let n := min bytes.length (total - p.got)
      readerStep s = put none { r with
        phase := .parse at_ last (bytes.drop n)
        record := if p.got + n < total then some { p with bytes := [], got := p.got + n } else none }) ∧
    (∀ p sequence total, r.record = some p → p.known = some (sequence, total, true) → bytes = [] →
      s.sw.head = some target → inSpan s at_ = true → alone →
      let held := fun (k : Nat) => s.rq.entries.any fun x => x.record.sequence == k
      let pending := fun (k : Nat) => held k || match s.rq.next with
        | .number n => decide (n ≤ k)
        | _ => decide (4294967296 ≤ k)
      let left := (List.range (o.last - sequence)).map (sequence + 1 + ·)
      let n := { r.outcomes with
        pending := r.outcomes.pending + (left.filter pending).length
        absent := r.outcomes.absent + (left.filter fun k => !pending k).length }
      let piece := fun (mark : PieceMark) =>
        some (Piece.mk o.tag sequence (p.handed / 1000) true mark (p.bytes.drop p.handed))
      (held sequence = true → readerStep s = ended (piece .pending) { n with pending := n.pending + 1 }) ∧
      (held sequence = false → readerStep s = ended (piece .torn) { n with torn := n.torn + 1 })))

/-- An operation that reaches its limit makes the store FAULTED with the cause TIMEOUT: no serial is consumed, no sector is
retired, and the port is free (R175, R154). That the entries of the queue take the stored mark also when the operation is one of
a mount scan is the model's choice of R175 and R154 over R164 (notes/assumptions/49.md). -/
def Obligations.StoreTimeoutFaults : Prop :=
  ∀ (s : State) (f : InFlight), s.sr.flight = some f → s.sr.state ≠ .faulted →
    ∃ e, exec .storeOperationTimeout s = .next (settle e) ∧ StoreFaulted .timeout s e ∧
      e.sr.flight = none ∧ e.sr.holder = none ∧ e.sr.tenure = 0 ∧
      e.sw.serial = s.sw.serial ∧ e.sw.usable = s.sw.usable ∧ e.cache = s.cache

/-! ## Ends on the module bus (chapter 10) -/

/-- A completed calibration fetch: a block whose CRC-16 and format version are right is GOOD, any other REJECTED with
CAL_REJECT latched; in RUNNING the result waits, forced when it or the one before was (R25). Else it is applied at once: of
the entries that name the module, one LOADED stays when the result is not forced; every other takes, of a good result, the
gain and offset of its slot and FETCHED, of a rejected one, unity and REJECTED; entries of other modules stay (R26). The
module's queue entry and its retry hold are gone, a tag that waited is answered DONE, the owner set takes effect (R177), and
the bus is IDLE, or RECOVERING when an abort was held (R179, R183). -/
def Obligations.FetchCompletes : Prop :=
  ∀ (s : State) (m : Fin 4) (d : Nat) (block : BitVec 128), s.mb.transaction = some (.fetch m d) → s.mb.state = .busy →
    s.mb.cut = false →
    let bytes := bytesOf 16 block
    let good := decide ((bytes.drop 14).take 2 = leBytes 2 (crc16 (bytes.take 14)).toNat ∧ fieldNat bytes 12 1 = 1)
    let forced := ((fetchEntry s m).map FetchEntry.forced).getD false
    let values : Option CalValues := if good then
        some { gainA := fieldNat bytes 0 2, offsetA := fieldInt bytes 2 2, gainB := fieldNat bytes 4 2,
               offsetB := fieldInt bytes 6 2 }
      else none
    ∃ e, exec (.fetchComplete block) s = .next (settle e) ∧
      (e.mb.lastFetch.get m = if good then .good else .rejected) ∧ e.mb.retryHold.get m = 0 ∧
      e.mb.queue = s.mb.queue.filter (fun x => x.module != m) ∧ e.mb.transaction = none ∧
      e.mb.owner = s.sl.settings.modbusOwner ∧
      (e.mb.state = if s.mb.heldAbort.isSome then .recovering else .idle) ∧ e.mb.heldAbort = none ∧
      (e.sl.latched = if good then s.sl.latched else s.sl.latched ||| 0x1000) ∧
      (s.ia.state = .running →
        e.cc.table = s.cc.table ∧ e.cc.pending.get m =
          some ⟨values, forced || ((s.cc.pending.get m).map CalResult.forced).getD false⟩) ∧
      (s.ia.state ≠ .running →
        e.cc = { s.cc with table := e.cc.table } ∧
        ∀ c,
          let x := s.cc.table.get c
          e.cc.table.get c =
            if x.module ≠ m ∨ (x.cal = .loaded ∧ forced = false) then x
            else if good then
              { x with
                gain := fieldNat bytes (if x.slotB then 4 else 0) 2
                offset := fieldInt bytes (if x.slotB then 6 else 2) 2
                cal := .fetched }
            else { x with gain := 32768, offset := 0, cal := .rejected }) ∧
      (∀ x tag, fetchEntry s m = some x → x.tag = some tag →
        e.sl.reserved = s.sl.reserved - 1 ∧
        (s.sl.linkUp = true →
          e.sl.replies = s.sl.replies ++ [{ plainReply tag 20 .done .none with body := leBool (!good) }])) ∧
      e.lr = s.lr ∧ e.mm = s.mm ∧ e.ct = s.ct ∧ e.tb = s.tb ∧ e.sr = s.sr ∧ e.sw = s.sw ∧ e.rq = s.rq

/-- A byte that is not acknowledged ends the transaction. A fetch's first one puts the module's entry at the back with its
attempt mark and a retry hold; its second drops the entry, with CAL_REJECT latched and a tag answered FAILED (R180). A station
transaction is FAILED with NO_ACK, and a write that touched a calibration block makes it STALE and asks for a fetch (R181). At
each of these ends the bus is IDLE and the owner set takes effect (R177), and an abort held starts its recovery (R183). -/
def Obligations.NoAckEndsTheTransaction : Prop :=
  ∀ (s : State) (acked : BitVec 5), s.mb.state = .busy → s.mb.cut = false →
    let ended := fun (queue : List FetchEntry) =>
      { s.mb with
        queue := queue, transaction := none, cut := false, owner := s.sl.settings.modbusOwner, heldAbort := none
        state := if s.mb.heldAbort.isSome then .recovering else .idle
        abortTag := if s.mb.heldAbort.isSome then s.mb.heldAbort else s.mb.abortTag }
    (∀ m d x, s.mb.transaction = some (.fetch m d) → fetchEntry s m = some x →
      let others := s.mb.queue.filter (fun y => y.module != m)
      let flagged := { s.sl with latched := s.sl.latched ||| 0x1000 }
      ∃ e, exec (.busNoAck acked) s = .next (settle e) ∧ SameMeasurement s e ∧ e.sr = s.sr ∧
        (x.attempt = false →
          e.mb = { ended (others ++ [{ x with attempt := true }]) with retryHold := s.mb.retryHold.set m 262144 } ∧
          e.sl = s.sl) ∧
        (x.attempt = true →
          e.mb = { ended others with lastFetch := s.mb.lastFetch.set m .dropped } ∧
          (x.tag = none → e.sl = flagged) ∧
          (∀ tag, x.tag = some tag →
            e.sl = (finalReply (plainReply tag 20 .failed .noAck) (s.setSl flagged)).sl ∧
            (s.sl.linkUp = true → e.sl.replies = s.sl.replies ++ [plainReply tag 20 .failed .noAck])))) ∧
    (∀ tag address offset count d, s.mb.transaction = some (.read tag address offset count d) →
      ∃ e, exec (.busNoAck acked) s = .next (settle e) ∧ e.mb = ended s.mb.queue ∧
        SameMeasurement s e ∧ e.sr = s.sr ∧ e.sl = (finalReply (plainReply tag 18 .failed .noAck) s).sl) ∧
    (∀ tag address offset data d, s.mb.transaction = some (.write tag address offset data d) →
      acked.toNat ≤ data.length →
      ∃ e, exec (.busNoAck acked) s = .next (settle e) ∧ e.mb = ended e.mb.queue ∧ e.sr = s.sr ∧
        e.sl = (finalReply (plainReply tag 19 .failed .noAck) s).sl ∧
        ∀ m : Fin 4, address = 0x50 + m.val →
          (0 < acked.toNat ∧ offset ≤ 0x2F ∧ 0x20 < offset + acked.toNat →
            (∃ y ∈ e.mb.queue, y.module = m) ∧
            ∀ c, (s.cc.table.get c).module = m → (s.cc.table.get c).cal = .fetched →
              (e.cc.table.get c).cal = .stale) ∧
          (acked = 0 ∨ 0x2F < offset ∨ offset + acked.toNat ≤ 0x20 → e.cc = s.cc ∧ e.mb.queue = s.mb.queue))

/-- A station transaction that completes is answered DONE, a read with its count and the bytes received (R181). A clock held low
makes a busy bus HUNG (R182), and the byte that a RESTART cuts ends its transaction with the bus IDLE (R184): a station order is
FAILED, HUNG or cancelled with BUSY, a write that touched a calibration block is reported to the Channel Conditioner, STALE and a
fetch requested, and a fetch's entry keeps its place and marks, a tag on it answered FAILED and cleared. At each of these ends the
owner set takes effect (R177), and an abort held starts its recovery (R183). A recovery with the data line released leaves IDLE
and answers DONE, else HUNG and FAILED, as a clock held low does (R183). A retry hold that runs out is 0 (R180). -/
def Obligations.StationTransactionsEnd : Prop :=
  ∀ (s : State) (acked : BitVec 5),
    let ended := fun (state : BusState) (queue : List FetchEntry) =>
      { s.mb with
        queue := queue, transaction := none, cut := false, owner := s.sl.settings.modbusOwner, heldAbort := none
        state := if s.mb.heldAbort.isSome then .recovering else state
        abortTag := if s.mb.heldAbort.isSome then s.mb.heldAbort else s.mb.abortTag }
    let written := fun (address offset done : Nat) (e : State) =>
      ∀ m : Fin 4, address = 0x50 + m.val →
        (0 < done ∧ offset ≤ 0x2F ∧ 0x20 < offset + done →
          (∃ y ∈ e.mb.queue, y.module = m) ∧
          ∀ c, (s.cc.table.get c).module = m → (s.cc.table.get c).cal = .fetched → (e.cc.table.get c).cal = .stale) ∧
        (done = 0 ∨ 0x2F < offset ∨ offset + done ≤ 0x20 → e.cc = s.cc ∧ e.mb.queue = s.mb.queue)
    let fails := fun (c : Instr) (state : BusState) (reason : Reason) (cancelled : Bool) =>
      let failed := fun (tag kind : Byte) =>
        (finalReply { plainReply tag kind .failed reason with cancelled := cancelled } s).sl
      (∀ tag address offset count d, s.mb.transaction = some (.read tag address offset count d) →
        ∃ e, exec c s = .next (settle e) ∧ e.mb = ended state s.mb.queue ∧ e.sl = failed tag 18 ∧
          SameMeasurement s e ∧ e.sr = s.sr) ∧
      (∀ tag address offset data d, s.mb.transaction = some (.write tag address offset data d) →
        acked.toNat ≤ data.length →
        ∃ e, exec c s = .next (settle e) ∧ e.mb = ended state e.mb.queue ∧ e.sl = failed tag 19 ∧
          written address offset acked.toNat e ∧ e.sr = s.sr) ∧
      (∀ m d x, s.mb.transaction = some (.fetch m d) → fetchEntry s m = some x →
        ∃ e, exec c s = .next (settle e) ∧ SameMeasurement s e ∧ e.sr = s.sr ∧
          (x.tag = none → e.mb = ended state s.mb.queue ∧ e.sl = s.sl) ∧
          (∀ tag, x.tag = some tag → e.sl = failed tag 20 ∧
            e.mb = ended state (s.mb.queue.map fun y => if y.module = m then { y with tag := none } else y)))
    (s.mb.state = .busy → s.mb.cut = false →
      (∀ tag address offset count d (data : BitVec 256), s.mb.transaction = some (.read tag address offset count d) →
        ∃ e, exec (.moduleReadComplete data) s = .next (settle e) ∧ e.mb = ended .idle s.mb.queue ∧
          e.sl = (finalReply { plainReply tag 18 .done .none with
            body := leBytes 1 count ++ (bytesOf 32 data).take count } s).sl ∧
          SameMeasurement s e ∧ e.sr = s.sr) ∧
      (∀ tag address offset data d, s.mb.transaction = some (.write tag address offset data d) →
        ∃ e, exec .moduleWriteComplete s = .next (settle e) ∧ e.mb = ended .idle e.mb.queue ∧
          e.sl = (finalReply (plainReply tag 19 .done .none) s).sl ∧ written address offset data.length e ∧
          e.sr = s.sr)) ∧
    (s.mb.state = .busy → fails (.busClockHeld acked) .hung .hung false) ∧
    (s.mb.cut = true → fails (.busRestartCut acked) .idle .busy true) ∧
    (∀ tag, s.mb.state = .recovering → s.mb.abortTag = some tag →
      let after := fun (state : BusState) => s.setMb { s.mb with state := state, abortTag := none }
      exec (.recoveryEnd true) s = .next (settle (finalReply (plainReply tag 21 .done .none) (after .idle))) ∧
      exec (.recoveryEnd false) s = .next (settle (finalReply (plainReply tag 21 .failed .hung) (after .hung))) ∧
      exec (.busClockHeld acked) s = .next (settle (finalReply (plainReply tag 21 .failed .hung) (after .hung)))) ∧
    ∀ m, exec (.retryHoldExpiry m) s =
      .next (settle (s.setMb { s.mb with retryHold := s.mb.retryHold.set m 0 }))
end
end

