-- ==== Sys2Proof/Laws/State.lean ====
section
/-! SUPPORT. What each setter of the state leaves in each block. -/

namespace Sys2Proof.Machine

@[simp] theorem State.setLr_lr (s : State) (x : LR) : (s.setLr x).lr = x := rfl
@[simp] theorem State.setLr_mm (s : State) (x : LR) : (s.setLr x).mm = s.mm := rfl
@[simp] theorem State.setLr_cc (s : State) (x : LR) : (s.setLr x).cc = s.cc := rfl
@[simp] theorem State.setLr_ct (s : State) (x : LR) : (s.setLr x).ct = s.ct := rfl
@[simp] theorem State.setLr_mu (s : State) (x : LR) : (s.setLr x).mu = s.mu := rfl
@[simp] theorem State.setLr_ed (s : State) (x : LR) : (s.setLr x).ed = s.ed := rfl
@[simp] theorem State.setLr_cu (s : State) (x : LR) : (s.setLr x).cu = s.cu := rfl
@[simp] theorem State.setLr_tb (s : State) (x : LR) : (s.setLr x).tb = s.tb := rfl
@[simp] theorem State.setLr_ia (s : State) (x : LR) : (s.setLr x).ia = s.ia := rfl
@[simp] theorem State.setLr_rq (s : State) (x : LR) : (s.setLr x).rq = s.rq := rfl
@[simp] theorem State.setLr_sw (s : State) (x : LR) : (s.setLr x).sw = s.sw := rfl
@[simp] theorem State.setLr_cache (s : State) (x : LR) : (s.setLr x).cache = s.cache := rfl
@[simp] theorem State.setLr_sr (s : State) (x : LR) : (s.setLr x).sr = s.sr := rfl
@[simp] theorem State.setLr_mb (s : State) (x : LR) : (s.setLr x).mb = s.mb := rfl
@[simp] theorem State.setLr_sl (s : State) (x : LR) : (s.setLr x).sl = s.sl := rfl
@[simp] theorem State.setLr_pending (s : State) (x : LR) : (s.setLr x).pending = s.pending := rfl
@[simp] theorem State.setLr_draws (s : State) (x : LR) : (s.setLr x).draws = s.draws := rfl

@[simp] theorem State.setMm_lr (s : State) (x : MM) : (s.setMm x).lr = s.lr := rfl
@[simp] theorem State.setMm_mm (s : State) (x : MM) : (s.setMm x).mm = x := rfl
@[simp] theorem State.setMm_cc (s : State) (x : MM) : (s.setMm x).cc = s.cc := rfl
@[simp] theorem State.setMm_ct (s : State) (x : MM) : (s.setMm x).ct = s.ct := rfl
@[simp] theorem State.setMm_mu (s : State) (x : MM) : (s.setMm x).mu = s.mu := rfl
@[simp] theorem State.setMm_ed (s : State) (x : MM) : (s.setMm x).ed = s.ed := rfl
@[simp] theorem State.setMm_cu (s : State) (x : MM) : (s.setMm x).cu = s.cu := rfl
@[simp] theorem State.setMm_tb (s : State) (x : MM) : (s.setMm x).tb = s.tb := rfl
@[simp] theorem State.setMm_ia (s : State) (x : MM) : (s.setMm x).ia = s.ia := rfl
@[simp] theorem State.setMm_rq (s : State) (x : MM) : (s.setMm x).rq = s.rq := rfl
@[simp] theorem State.setMm_sw (s : State) (x : MM) : (s.setMm x).sw = s.sw := rfl
@[simp] theorem State.setMm_cache (s : State) (x : MM) : (s.setMm x).cache = s.cache := rfl
@[simp] theorem State.setMm_sr (s : State) (x : MM) : (s.setMm x).sr = s.sr := rfl
@[simp] theorem State.setMm_mb (s : State) (x : MM) : (s.setMm x).mb = s.mb := rfl
@[simp] theorem State.setMm_sl (s : State) (x : MM) : (s.setMm x).sl = s.sl := rfl
@[simp] theorem State.setMm_pending (s : State) (x : MM) : (s.setMm x).pending = s.pending := rfl
@[simp] theorem State.setMm_draws (s : State) (x : MM) : (s.setMm x).draws = s.draws := rfl

@[simp] theorem State.setCc_lr (s : State) (x : CC) : (s.setCc x).lr = s.lr := rfl
@[simp] theorem State.setCc_mm (s : State) (x : CC) : (s.setCc x).mm = s.mm := rfl
@[simp] theorem State.setCc_cc (s : State) (x : CC) : (s.setCc x).cc = x := rfl
@[simp] theorem State.setCc_ct (s : State) (x : CC) : (s.setCc x).ct = s.ct := rfl
@[simp] theorem State.setCc_mu (s : State) (x : CC) : (s.setCc x).mu = s.mu := rfl
@[simp] theorem State.setCc_ed (s : State) (x : CC) : (s.setCc x).ed = s.ed := rfl
@[simp] theorem State.setCc_cu (s : State) (x : CC) : (s.setCc x).cu = s.cu := rfl
@[simp] theorem State.setCc_tb (s : State) (x : CC) : (s.setCc x).tb = s.tb := rfl
@[simp] theorem State.setCc_ia (s : State) (x : CC) : (s.setCc x).ia = s.ia := rfl
@[simp] theorem State.setCc_rq (s : State) (x : CC) : (s.setCc x).rq = s.rq := rfl
@[simp] theorem State.setCc_sw (s : State) (x : CC) : (s.setCc x).sw = s.sw := rfl
@[simp] theorem State.setCc_cache (s : State) (x : CC) : (s.setCc x).cache = s.cache := rfl
@[simp] theorem State.setCc_sr (s : State) (x : CC) : (s.setCc x).sr = s.sr := rfl
@[simp] theorem State.setCc_mb (s : State) (x : CC) : (s.setCc x).mb = s.mb := rfl
@[simp] theorem State.setCc_sl (s : State) (x : CC) : (s.setCc x).sl = s.sl := rfl
@[simp] theorem State.setCc_pending (s : State) (x : CC) : (s.setCc x).pending = s.pending := rfl
@[simp] theorem State.setCc_draws (s : State) (x : CC) : (s.setCc x).draws = s.draws := rfl

@[simp] theorem State.setCt_lr (s : State) (x : CT) : (s.setCt x).lr = s.lr := rfl
@[simp] theorem State.setCt_mm (s : State) (x : CT) : (s.setCt x).mm = s.mm := rfl
@[simp] theorem State.setCt_cc (s : State) (x : CT) : (s.setCt x).cc = s.cc := rfl
@[simp] theorem State.setCt_ct (s : State) (x : CT) : (s.setCt x).ct = x := rfl
@[simp] theorem State.setCt_mu (s : State) (x : CT) : (s.setCt x).mu = s.mu := rfl
@[simp] theorem State.setCt_ed (s : State) (x : CT) : (s.setCt x).ed = s.ed := rfl
@[simp] theorem State.setCt_cu (s : State) (x : CT) : (s.setCt x).cu = s.cu := rfl
@[simp] theorem State.setCt_tb (s : State) (x : CT) : (s.setCt x).tb = s.tb := rfl
@[simp] theorem State.setCt_ia (s : State) (x : CT) : (s.setCt x).ia = s.ia := rfl
@[simp] theorem State.setCt_rq (s : State) (x : CT) : (s.setCt x).rq = s.rq := rfl
@[simp] theorem State.setCt_sw (s : State) (x : CT) : (s.setCt x).sw = s.sw := rfl
@[simp] theorem State.setCt_cache (s : State) (x : CT) : (s.setCt x).cache = s.cache := rfl
@[simp] theorem State.setCt_sr (s : State) (x : CT) : (s.setCt x).sr = s.sr := rfl
@[simp] theorem State.setCt_mb (s : State) (x : CT) : (s.setCt x).mb = s.mb := rfl
@[simp] theorem State.setCt_sl (s : State) (x : CT) : (s.setCt x).sl = s.sl := rfl
@[simp] theorem State.setCt_pending (s : State) (x : CT) : (s.setCt x).pending = s.pending := rfl
@[simp] theorem State.setCt_draws (s : State) (x : CT) : (s.setCt x).draws = s.draws := rfl

@[simp] theorem State.setMu_lr (s : State) (x : MU) : (s.setMu x).lr = s.lr := rfl
@[simp] theorem State.setMu_mm (s : State) (x : MU) : (s.setMu x).mm = s.mm := rfl
@[simp] theorem State.setMu_cc (s : State) (x : MU) : (s.setMu x).cc = s.cc := rfl
@[simp] theorem State.setMu_ct (s : State) (x : MU) : (s.setMu x).ct = s.ct := rfl
@[simp] theorem State.setMu_mu (s : State) (x : MU) : (s.setMu x).mu = x := rfl
@[simp] theorem State.setMu_ed (s : State) (x : MU) : (s.setMu x).ed = s.ed := rfl
@[simp] theorem State.setMu_cu (s : State) (x : MU) : (s.setMu x).cu = s.cu := rfl
@[simp] theorem State.setMu_tb (s : State) (x : MU) : (s.setMu x).tb = s.tb := rfl
@[simp] theorem State.setMu_ia (s : State) (x : MU) : (s.setMu x).ia = s.ia := rfl
@[simp] theorem State.setMu_rq (s : State) (x : MU) : (s.setMu x).rq = s.rq := rfl
@[simp] theorem State.setMu_sw (s : State) (x : MU) : (s.setMu x).sw = s.sw := rfl
@[simp] theorem State.setMu_cache (s : State) (x : MU) : (s.setMu x).cache = s.cache := rfl
@[simp] theorem State.setMu_sr (s : State) (x : MU) : (s.setMu x).sr = s.sr := rfl
@[simp] theorem State.setMu_mb (s : State) (x : MU) : (s.setMu x).mb = s.mb := rfl
@[simp] theorem State.setMu_sl (s : State) (x : MU) : (s.setMu x).sl = s.sl := rfl
@[simp] theorem State.setMu_pending (s : State) (x : MU) : (s.setMu x).pending = s.pending := rfl
@[simp] theorem State.setMu_draws (s : State) (x : MU) : (s.setMu x).draws = s.draws := rfl

@[simp] theorem State.setEd_lr (s : State) (x : ED) : (s.setEd x).lr = s.lr := rfl
@[simp] theorem State.setEd_mm (s : State) (x : ED) : (s.setEd x).mm = s.mm := rfl
@[simp] theorem State.setEd_cc (s : State) (x : ED) : (s.setEd x).cc = s.cc := rfl
@[simp] theorem State.setEd_ct (s : State) (x : ED) : (s.setEd x).ct = s.ct := rfl
@[simp] theorem State.setEd_mu (s : State) (x : ED) : (s.setEd x).mu = s.mu := rfl
@[simp] theorem State.setEd_ed (s : State) (x : ED) : (s.setEd x).ed = x := rfl
@[simp] theorem State.setEd_cu (s : State) (x : ED) : (s.setEd x).cu = s.cu := rfl
@[simp] theorem State.setEd_tb (s : State) (x : ED) : (s.setEd x).tb = s.tb := rfl
@[simp] theorem State.setEd_ia (s : State) (x : ED) : (s.setEd x).ia = s.ia := rfl
@[simp] theorem State.setEd_rq (s : State) (x : ED) : (s.setEd x).rq = s.rq := rfl
@[simp] theorem State.setEd_sw (s : State) (x : ED) : (s.setEd x).sw = s.sw := rfl
@[simp] theorem State.setEd_cache (s : State) (x : ED) : (s.setEd x).cache = s.cache := rfl
@[simp] theorem State.setEd_sr (s : State) (x : ED) : (s.setEd x).sr = s.sr := rfl
@[simp] theorem State.setEd_mb (s : State) (x : ED) : (s.setEd x).mb = s.mb := rfl
@[simp] theorem State.setEd_sl (s : State) (x : ED) : (s.setEd x).sl = s.sl := rfl
@[simp] theorem State.setEd_pending (s : State) (x : ED) : (s.setEd x).pending = s.pending := rfl
@[simp] theorem State.setEd_draws (s : State) (x : ED) : (s.setEd x).draws = s.draws := rfl

@[simp] theorem State.setCu_lr (s : State) (x : CU) : (s.setCu x).lr = s.lr := rfl
@[simp] theorem State.setCu_mm (s : State) (x : CU) : (s.setCu x).mm = s.mm := rfl
@[simp] theorem State.setCu_cc (s : State) (x : CU) : (s.setCu x).cc = s.cc := rfl
@[simp] theorem State.setCu_ct (s : State) (x : CU) : (s.setCu x).ct = s.ct := rfl
@[simp] theorem State.setCu_mu (s : State) (x : CU) : (s.setCu x).mu = s.mu := rfl
@[simp] theorem State.setCu_ed (s : State) (x : CU) : (s.setCu x).ed = s.ed := rfl
@[simp] theorem State.setCu_cu (s : State) (x : CU) : (s.setCu x).cu = x := rfl
@[simp] theorem State.setCu_tb (s : State) (x : CU) : (s.setCu x).tb = s.tb := rfl
@[simp] theorem State.setCu_ia (s : State) (x : CU) : (s.setCu x).ia = s.ia := rfl
@[simp] theorem State.setCu_rq (s : State) (x : CU) : (s.setCu x).rq = s.rq := rfl
@[simp] theorem State.setCu_sw (s : State) (x : CU) : (s.setCu x).sw = s.sw := rfl
@[simp] theorem State.setCu_cache (s : State) (x : CU) : (s.setCu x).cache = s.cache := rfl
@[simp] theorem State.setCu_sr (s : State) (x : CU) : (s.setCu x).sr = s.sr := rfl
@[simp] theorem State.setCu_mb (s : State) (x : CU) : (s.setCu x).mb = s.mb := rfl
@[simp] theorem State.setCu_sl (s : State) (x : CU) : (s.setCu x).sl = s.sl := rfl
@[simp] theorem State.setCu_pending (s : State) (x : CU) : (s.setCu x).pending = s.pending := rfl
@[simp] theorem State.setCu_draws (s : State) (x : CU) : (s.setCu x).draws = s.draws := rfl

@[simp] theorem State.setTb_lr (s : State) (x : TB) : (s.setTb x).lr = s.lr := rfl
@[simp] theorem State.setTb_mm (s : State) (x : TB) : (s.setTb x).mm = s.mm := rfl
@[simp] theorem State.setTb_cc (s : State) (x : TB) : (s.setTb x).cc = s.cc := rfl
@[simp] theorem State.setTb_ct (s : State) (x : TB) : (s.setTb x).ct = s.ct := rfl
@[simp] theorem State.setTb_mu (s : State) (x : TB) : (s.setTb x).mu = s.mu := rfl
@[simp] theorem State.setTb_ed (s : State) (x : TB) : (s.setTb x).ed = s.ed := rfl
@[simp] theorem State.setTb_cu (s : State) (x : TB) : (s.setTb x).cu = s.cu := rfl
@[simp] theorem State.setTb_tb (s : State) (x : TB) : (s.setTb x).tb = x := rfl
@[simp] theorem State.setTb_ia (s : State) (x : TB) : (s.setTb x).ia = s.ia := rfl
@[simp] theorem State.setTb_rq (s : State) (x : TB) : (s.setTb x).rq = s.rq := rfl
@[simp] theorem State.setTb_sw (s : State) (x : TB) : (s.setTb x).sw = s.sw := rfl
@[simp] theorem State.setTb_cache (s : State) (x : TB) : (s.setTb x).cache = s.cache := rfl
@[simp] theorem State.setTb_sr (s : State) (x : TB) : (s.setTb x).sr = s.sr := rfl
@[simp] theorem State.setTb_mb (s : State) (x : TB) : (s.setTb x).mb = s.mb := rfl
@[simp] theorem State.setTb_sl (s : State) (x : TB) : (s.setTb x).sl = s.sl := rfl
@[simp] theorem State.setTb_pending (s : State) (x : TB) : (s.setTb x).pending = s.pending := rfl
@[simp] theorem State.setTb_draws (s : State) (x : TB) : (s.setTb x).draws = s.draws := rfl

@[simp] theorem State.setIa_lr (s : State) (x : IA) : (s.setIa x).lr = s.lr := rfl
@[simp] theorem State.setIa_mm (s : State) (x : IA) : (s.setIa x).mm = s.mm := rfl
@[simp] theorem State.setIa_cc (s : State) (x : IA) : (s.setIa x).cc = s.cc := rfl
@[simp] theorem State.setIa_ct (s : State) (x : IA) : (s.setIa x).ct = s.ct := rfl
@[simp] theorem State.setIa_mu (s : State) (x : IA) : (s.setIa x).mu = s.mu := rfl
@[simp] theorem State.setIa_ed (s : State) (x : IA) : (s.setIa x).ed = s.ed := rfl
@[simp] theorem State.setIa_cu (s : State) (x : IA) : (s.setIa x).cu = s.cu := rfl
@[simp] theorem State.setIa_tb (s : State) (x : IA) : (s.setIa x).tb = s.tb := rfl
@[simp] theorem State.setIa_ia (s : State) (x : IA) : (s.setIa x).ia = x := rfl
@[simp] theorem State.setIa_rq (s : State) (x : IA) : (s.setIa x).rq = s.rq := rfl
@[simp] theorem State.setIa_sw (s : State) (x : IA) : (s.setIa x).sw = s.sw := rfl
@[simp] theorem State.setIa_cache (s : State) (x : IA) : (s.setIa x).cache = s.cache := rfl
@[simp] theorem State.setIa_sr (s : State) (x : IA) : (s.setIa x).sr = s.sr := rfl
@[simp] theorem State.setIa_mb (s : State) (x : IA) : (s.setIa x).mb = s.mb := rfl
@[simp] theorem State.setIa_sl (s : State) (x : IA) : (s.setIa x).sl = s.sl := rfl
@[simp] theorem State.setIa_pending (s : State) (x : IA) : (s.setIa x).pending = s.pending := rfl
@[simp] theorem State.setIa_draws (s : State) (x : IA) : (s.setIa x).draws = s.draws := rfl

@[simp] theorem State.setRq_lr (s : State) (x : RQ) : (s.setRq x).lr = s.lr := rfl
@[simp] theorem State.setRq_mm (s : State) (x : RQ) : (s.setRq x).mm = s.mm := rfl
@[simp] theorem State.setRq_cc (s : State) (x : RQ) : (s.setRq x).cc = s.cc := rfl
@[simp] theorem State.setRq_ct (s : State) (x : RQ) : (s.setRq x).ct = s.ct := rfl
@[simp] theorem State.setRq_mu (s : State) (x : RQ) : (s.setRq x).mu = s.mu := rfl
@[simp] theorem State.setRq_ed (s : State) (x : RQ) : (s.setRq x).ed = s.ed := rfl
@[simp] theorem State.setRq_cu (s : State) (x : RQ) : (s.setRq x).cu = s.cu := rfl
@[simp] theorem State.setRq_tb (s : State) (x : RQ) : (s.setRq x).tb = s.tb := rfl
@[simp] theorem State.setRq_ia (s : State) (x : RQ) : (s.setRq x).ia = s.ia := rfl
@[simp] theorem State.setRq_rq (s : State) (x : RQ) : (s.setRq x).rq = x := rfl
@[simp] theorem State.setRq_sw (s : State) (x : RQ) : (s.setRq x).sw = s.sw := rfl
@[simp] theorem State.setRq_cache (s : State) (x : RQ) : (s.setRq x).cache = s.cache := rfl
@[simp] theorem State.setRq_sr (s : State) (x : RQ) : (s.setRq x).sr = s.sr := rfl
@[simp] theorem State.setRq_mb (s : State) (x : RQ) : (s.setRq x).mb = s.mb := rfl
@[simp] theorem State.setRq_sl (s : State) (x : RQ) : (s.setRq x).sl = s.sl := rfl
@[simp] theorem State.setRq_pending (s : State) (x : RQ) : (s.setRq x).pending = s.pending := rfl
@[simp] theorem State.setRq_draws (s : State) (x : RQ) : (s.setRq x).draws = s.draws := rfl

@[simp] theorem State.setSw_lr (s : State) (x : SW) : (s.setSw x).lr = s.lr := rfl
@[simp] theorem State.setSw_mm (s : State) (x : SW) : (s.setSw x).mm = s.mm := rfl
@[simp] theorem State.setSw_cc (s : State) (x : SW) : (s.setSw x).cc = s.cc := rfl
@[simp] theorem State.setSw_ct (s : State) (x : SW) : (s.setSw x).ct = s.ct := rfl
@[simp] theorem State.setSw_mu (s : State) (x : SW) : (s.setSw x).mu = s.mu := rfl
@[simp] theorem State.setSw_ed (s : State) (x : SW) : (s.setSw x).ed = s.ed := rfl
@[simp] theorem State.setSw_cu (s : State) (x : SW) : (s.setSw x).cu = s.cu := rfl
@[simp] theorem State.setSw_tb (s : State) (x : SW) : (s.setSw x).tb = s.tb := rfl
@[simp] theorem State.setSw_ia (s : State) (x : SW) : (s.setSw x).ia = s.ia := rfl
@[simp] theorem State.setSw_rq (s : State) (x : SW) : (s.setSw x).rq = s.rq := rfl
@[simp] theorem State.setSw_sw (s : State) (x : SW) : (s.setSw x).sw = x := rfl
@[simp] theorem State.setSw_cache (s : State) (x : SW) : (s.setSw x).cache = s.cache := rfl
@[simp] theorem State.setSw_sr (s : State) (x : SW) : (s.setSw x).sr = s.sr := rfl
@[simp] theorem State.setSw_mb (s : State) (x : SW) : (s.setSw x).mb = s.mb := rfl
@[simp] theorem State.setSw_sl (s : State) (x : SW) : (s.setSw x).sl = s.sl := rfl
@[simp] theorem State.setSw_pending (s : State) (x : SW) : (s.setSw x).pending = s.pending := rfl
@[simp] theorem State.setSw_draws (s : State) (x : SW) : (s.setSw x).draws = s.draws := rfl

@[simp] theorem State.setCache_lr (s : State) (x : List Translation) : (s.setCache x).lr = s.lr := rfl
@[simp] theorem State.setCache_mm (s : State) (x : List Translation) : (s.setCache x).mm = s.mm := rfl
@[simp] theorem State.setCache_cc (s : State) (x : List Translation) : (s.setCache x).cc = s.cc := rfl
@[simp] theorem State.setCache_ct (s : State) (x : List Translation) : (s.setCache x).ct = s.ct := rfl
@[simp] theorem State.setCache_mu (s : State) (x : List Translation) : (s.setCache x).mu = s.mu := rfl
@[simp] theorem State.setCache_ed (s : State) (x : List Translation) : (s.setCache x).ed = s.ed := rfl
@[simp] theorem State.setCache_cu (s : State) (x : List Translation) : (s.setCache x).cu = s.cu := rfl
@[simp] theorem State.setCache_tb (s : State) (x : List Translation) : (s.setCache x).tb = s.tb := rfl
@[simp] theorem State.setCache_ia (s : State) (x : List Translation) : (s.setCache x).ia = s.ia := rfl
@[simp] theorem State.setCache_rq (s : State) (x : List Translation) : (s.setCache x).rq = s.rq := rfl
@[simp] theorem State.setCache_sw (s : State) (x : List Translation) : (s.setCache x).sw = s.sw := rfl
@[simp] theorem State.setCache_cache (s : State) (x : List Translation) : (s.setCache x).cache = x := rfl
@[simp] theorem State.setCache_sr (s : State) (x : List Translation) : (s.setCache x).sr = s.sr := rfl
@[simp] theorem State.setCache_mb (s : State) (x : List Translation) : (s.setCache x).mb = s.mb := rfl
@[simp] theorem State.setCache_sl (s : State) (x : List Translation) : (s.setCache x).sl = s.sl := rfl
@[simp] theorem State.setCache_pending (s : State) (x : List Translation) : (s.setCache x).pending = s.pending := rfl
@[simp] theorem State.setCache_draws (s : State) (x : List Translation) : (s.setCache x).draws = s.draws := rfl

@[simp] theorem State.setSr_lr (s : State) (x : SR) : (s.setSr x).lr = s.lr := rfl
@[simp] theorem State.setSr_mm (s : State) (x : SR) : (s.setSr x).mm = s.mm := rfl
@[simp] theorem State.setSr_cc (s : State) (x : SR) : (s.setSr x).cc = s.cc := rfl
@[simp] theorem State.setSr_ct (s : State) (x : SR) : (s.setSr x).ct = s.ct := rfl
@[simp] theorem State.setSr_mu (s : State) (x : SR) : (s.setSr x).mu = s.mu := rfl
@[simp] theorem State.setSr_ed (s : State) (x : SR) : (s.setSr x).ed = s.ed := rfl
@[simp] theorem State.setSr_cu (s : State) (x : SR) : (s.setSr x).cu = s.cu := rfl
@[simp] theorem State.setSr_tb (s : State) (x : SR) : (s.setSr x).tb = s.tb := rfl
@[simp] theorem State.setSr_ia (s : State) (x : SR) : (s.setSr x).ia = s.ia := rfl
@[simp] theorem State.setSr_rq (s : State) (x : SR) : (s.setSr x).rq = s.rq := rfl
@[simp] theorem State.setSr_sw (s : State) (x : SR) : (s.setSr x).sw = s.sw := rfl
@[simp] theorem State.setSr_cache (s : State) (x : SR) : (s.setSr x).cache = s.cache := rfl
@[simp] theorem State.setSr_sr (s : State) (x : SR) : (s.setSr x).sr = x := rfl
@[simp] theorem State.setSr_mb (s : State) (x : SR) : (s.setSr x).mb = s.mb := rfl
@[simp] theorem State.setSr_sl (s : State) (x : SR) : (s.setSr x).sl = s.sl := rfl
@[simp] theorem State.setSr_pending (s : State) (x : SR) : (s.setSr x).pending = s.pending := rfl
@[simp] theorem State.setSr_draws (s : State) (x : SR) : (s.setSr x).draws = s.draws := rfl

@[simp] theorem State.setMb_lr (s : State) (x : MB) : (s.setMb x).lr = s.lr := rfl
@[simp] theorem State.setMb_mm (s : State) (x : MB) : (s.setMb x).mm = s.mm := rfl
@[simp] theorem State.setMb_cc (s : State) (x : MB) : (s.setMb x).cc = s.cc := rfl
@[simp] theorem State.setMb_ct (s : State) (x : MB) : (s.setMb x).ct = s.ct := rfl
@[simp] theorem State.setMb_mu (s : State) (x : MB) : (s.setMb x).mu = s.mu := rfl
@[simp] theorem State.setMb_ed (s : State) (x : MB) : (s.setMb x).ed = s.ed := rfl
@[simp] theorem State.setMb_cu (s : State) (x : MB) : (s.setMb x).cu = s.cu := rfl
@[simp] theorem State.setMb_tb (s : State) (x : MB) : (s.setMb x).tb = s.tb := rfl
@[simp] theorem State.setMb_ia (s : State) (x : MB) : (s.setMb x).ia = s.ia := rfl
@[simp] theorem State.setMb_rq (s : State) (x : MB) : (s.setMb x).rq = s.rq := rfl
@[simp] theorem State.setMb_sw (s : State) (x : MB) : (s.setMb x).sw = s.sw := rfl
@[simp] theorem State.setMb_cache (s : State) (x : MB) : (s.setMb x).cache = s.cache := rfl
@[simp] theorem State.setMb_sr (s : State) (x : MB) : (s.setMb x).sr = s.sr := rfl
@[simp] theorem State.setMb_mb (s : State) (x : MB) : (s.setMb x).mb = x := rfl
@[simp] theorem State.setMb_sl (s : State) (x : MB) : (s.setMb x).sl = s.sl := rfl
@[simp] theorem State.setMb_pending (s : State) (x : MB) : (s.setMb x).pending = s.pending := rfl
@[simp] theorem State.setMb_draws (s : State) (x : MB) : (s.setMb x).draws = s.draws := rfl

@[simp] theorem State.setSl_lr (s : State) (x : SL) : (s.setSl x).lr = s.lr := rfl
@[simp] theorem State.setSl_mm (s : State) (x : SL) : (s.setSl x).mm = s.mm := rfl
@[simp] theorem State.setSl_cc (s : State) (x : SL) : (s.setSl x).cc = s.cc := rfl
@[simp] theorem State.setSl_ct (s : State) (x : SL) : (s.setSl x).ct = s.ct := rfl
@[simp] theorem State.setSl_mu (s : State) (x : SL) : (s.setSl x).mu = s.mu := rfl
@[simp] theorem State.setSl_ed (s : State) (x : SL) : (s.setSl x).ed = s.ed := rfl
@[simp] theorem State.setSl_cu (s : State) (x : SL) : (s.setSl x).cu = s.cu := rfl
@[simp] theorem State.setSl_tb (s : State) (x : SL) : (s.setSl x).tb = s.tb := rfl
@[simp] theorem State.setSl_ia (s : State) (x : SL) : (s.setSl x).ia = s.ia := rfl
@[simp] theorem State.setSl_rq (s : State) (x : SL) : (s.setSl x).rq = s.rq := rfl
@[simp] theorem State.setSl_sw (s : State) (x : SL) : (s.setSl x).sw = s.sw := rfl
@[simp] theorem State.setSl_cache (s : State) (x : SL) : (s.setSl x).cache = s.cache := rfl
@[simp] theorem State.setSl_sr (s : State) (x : SL) : (s.setSl x).sr = s.sr := rfl
@[simp] theorem State.setSl_mb (s : State) (x : SL) : (s.setSl x).mb = s.mb := rfl
@[simp] theorem State.setSl_sl (s : State) (x : SL) : (s.setSl x).sl = x := rfl
@[simp] theorem State.setSl_pending (s : State) (x : SL) : (s.setSl x).pending = s.pending := rfl
@[simp] theorem State.setSl_draws (s : State) (x : SL) : (s.setSl x).draws = s.draws := rfl

@[simp] theorem State.setPending_lr (s : State) (x : List Sys2Proof.Instr) : (s.setPending x).lr = s.lr := rfl
@[simp] theorem State.setPending_mm (s : State) (x : List Sys2Proof.Instr) : (s.setPending x).mm = s.mm := rfl
@[simp] theorem State.setPending_cc (s : State) (x : List Sys2Proof.Instr) : (s.setPending x).cc = s.cc := rfl
@[simp] theorem State.setPending_ct (s : State) (x : List Sys2Proof.Instr) : (s.setPending x).ct = s.ct := rfl
@[simp] theorem State.setPending_mu (s : State) (x : List Sys2Proof.Instr) : (s.setPending x).mu = s.mu := rfl
@[simp] theorem State.setPending_ed (s : State) (x : List Sys2Proof.Instr) : (s.setPending x).ed = s.ed := rfl
@[simp] theorem State.setPending_cu (s : State) (x : List Sys2Proof.Instr) : (s.setPending x).cu = s.cu := rfl
@[simp] theorem State.setPending_tb (s : State) (x : List Sys2Proof.Instr) : (s.setPending x).tb = s.tb := rfl
@[simp] theorem State.setPending_ia (s : State) (x : List Sys2Proof.Instr) : (s.setPending x).ia = s.ia := rfl
@[simp] theorem State.setPending_rq (s : State) (x : List Sys2Proof.Instr) : (s.setPending x).rq = s.rq := rfl
@[simp] theorem State.setPending_sw (s : State) (x : List Sys2Proof.Instr) : (s.setPending x).sw = s.sw := rfl
@[simp] theorem State.setPending_cache (s : State) (x : List Sys2Proof.Instr) : (s.setPending x).cache = s.cache := rfl
@[simp] theorem State.setPending_sr (s : State) (x : List Sys2Proof.Instr) : (s.setPending x).sr = s.sr := rfl
@[simp] theorem State.setPending_mb (s : State) (x : List Sys2Proof.Instr) : (s.setPending x).mb = s.mb := rfl
@[simp] theorem State.setPending_sl (s : State) (x : List Sys2Proof.Instr) : (s.setPending x).sl = s.sl := rfl
@[simp] theorem State.setPending_pending (s : State) (x : List Sys2Proof.Instr) : (s.setPending x).pending = x := rfl
@[simp] theorem State.setPending_draws (s : State) (x : List Sys2Proof.Instr) : (s.setPending x).draws = s.draws := rfl

@[simp] theorem State.setDraws_lr (s : State) (x : Nat) : (s.setDraws x).lr = s.lr := rfl
@[simp] theorem State.setDraws_mm (s : State) (x : Nat) : (s.setDraws x).mm = s.mm := rfl
@[simp] theorem State.setDraws_cc (s : State) (x : Nat) : (s.setDraws x).cc = s.cc := rfl
@[simp] theorem State.setDraws_ct (s : State) (x : Nat) : (s.setDraws x).ct = s.ct := rfl
@[simp] theorem State.setDraws_mu (s : State) (x : Nat) : (s.setDraws x).mu = s.mu := rfl
@[simp] theorem State.setDraws_ed (s : State) (x : Nat) : (s.setDraws x).ed = s.ed := rfl
@[simp] theorem State.setDraws_cu (s : State) (x : Nat) : (s.setDraws x).cu = s.cu := rfl
@[simp] theorem State.setDraws_tb (s : State) (x : Nat) : (s.setDraws x).tb = s.tb := rfl
@[simp] theorem State.setDraws_ia (s : State) (x : Nat) : (s.setDraws x).ia = s.ia := rfl
@[simp] theorem State.setDraws_rq (s : State) (x : Nat) : (s.setDraws x).rq = s.rq := rfl
@[simp] theorem State.setDraws_sw (s : State) (x : Nat) : (s.setDraws x).sw = s.sw := rfl
@[simp] theorem State.setDraws_cache (s : State) (x : Nat) : (s.setDraws x).cache = s.cache := rfl
@[simp] theorem State.setDraws_sr (s : State) (x : Nat) : (s.setDraws x).sr = s.sr := rfl
@[simp] theorem State.setDraws_mb (s : State) (x : Nat) : (s.setDraws x).mb = s.mb := rfl
@[simp] theorem State.setDraws_sl (s : State) (x : Nat) : (s.setDraws x).sl = s.sl := rfl
@[simp] theorem State.setDraws_pending (s : State) (x : Nat) : (s.setDraws x).pending = s.pending := rfl
@[simp] theorem State.setDraws_draws (s : State) (x : Nat) : (s.setDraws x).draws = x := rfl

theorem State.setLr_self (s : State) : s.setLr s.lr = s := rfl
theorem State.setMm_self (s : State) : s.setMm s.mm = s := rfl
theorem State.setCc_self (s : State) : s.setCc s.cc = s := rfl
theorem State.setCt_self (s : State) : s.setCt s.ct = s := rfl
theorem State.setMu_self (s : State) : s.setMu s.mu = s := rfl
theorem State.setEd_self (s : State) : s.setEd s.ed = s := rfl
theorem State.setCu_self (s : State) : s.setCu s.cu = s := rfl
theorem State.setTb_self (s : State) : s.setTb s.tb = s := rfl
theorem State.setIa_self (s : State) : s.setIa s.ia = s := rfl
theorem State.setRq_self (s : State) : s.setRq s.rq = s := rfl
theorem State.setSw_self (s : State) : s.setSw s.sw = s := rfl
theorem State.setCache_self (s : State) : s.setCache s.cache = s := rfl
theorem State.setSr_self (s : State) : s.setSr s.sr = s := rfl
theorem State.setMb_self (s : State) : s.setMb s.mb = s := rfl
theorem State.setSl_self (s : State) : s.setSl s.sl = s := rfl
theorem State.setPending_self (s : State) : s.setPending s.pending = s := rfl
theorem State.setDraws_self (s : State) : s.setDraws s.draws = s := rfl

end Sys2Proof.Machine
end

