-- ==== Sys2Proof/Laws/Cache.lean ====
section
/-! SUPPORT. What asking for a translation can do, case by case, what is then asked of the store port, and what the end of a map
entry read does to the cache (R141 to R143). -/

namespace Sys2Proof.Machine

variable {inHand : Option Translation} {sector : Nat} {s : State} {t : Translation}

/-- In DIRECT mode a sector is its own physical sector, and the cache is left alone (R141, R143). -/
theorem translate_direct (h : s.sw.mode = .direct) :
    translate inHand sector s = (some { logical := sector, physical := sector, usable := true }, s) := by
  simp [translate, h]

/-- The translation in hand serves its sector, and the cache is left alone (notes/assumptions/22.md). -/
theorem translate_inHand (h : s.sw.mode = .mapped) (ht : t.logical = sector) :
    translate (some t) sector s = (some t, s) := by
  simp [translate, h, ht, Option.filter]

/-- What is in hand for another sector serves nothing. -/
theorem filter_other (hand : ∀ x, inHand = some x → x.logical ≠ sector) :
    (inHand.filter fun x => x.logical == sector) = none := by
  cases inHand <;> simp_all [Option.filter]

/-- A hit of the cache serves the sector and becomes the most recently used (R143). -/
theorem translate_hit (h : s.sw.mode = .mapped) (hand : ∀ x, inHand = some x → x.logical ≠ sector)
    (on : s.sl.settings.mapCache = true) (found : (s.cache.find? fun x => x.logical == sector) = some t) :
    translate inHand sector s =
      (some t, s.setCache ((s.cache.filter fun x => x.logical != sector) ++ [t])) := by
  simp [translate, h, filter_other hand, on, found]

/-- A sector neither in hand nor cached has no translation, and the cache is left alone (R143). -/
theorem translate_miss (h : s.sw.mode = .mapped) (hand : ∀ x, inHand = some x → x.logical ≠ sector)
    (absent : s.sl.settings.mapCache = false ∨ (s.cache.find? fun x => x.logical == sector) = none) :
    translate inHand sector s = (none, s) := by
  rcases absent with off | none
  · simp [translate, h, filter_other hand, off]
  · simp only [translate, filter_other hand, none]
    simp [h]

/-- What is asked on a sector: its map entry at a miss, or the operation on a USABLE sector whose translation is in hand. -/
theorem askOn_cases {op : Nat → PortOp} {o : PortOp} (h : askOn inHand sector op s = some o) :
    ((translate inHand sector s).1 = none ∧ o = .readMap sector) ∨
    ∃ t, (translate inHand sector s).1 = some t ∧ t.usable = true ∧ (s.sw.mode = .direct ∨ inHand = some t) ∧
      o = op t.physical := by
  unfold askOn at h
  split at h
  · exact .inl ⟨by assumption, by simpa using h.symm⟩
  · split at h
    · exact .inr ⟨_, by assumption, by simp_all, by simp_all, by simpa using h.symm⟩
    · cases h

/-- No map entry is read for a hit: nothing is asked on the sector until its requester has taken the hit (R143). -/
theorem askOn_hit (h : s.sw.mode = .mapped) (hand : ∀ x, inHand = some x → x.logical ≠ sector)
    (on : s.sl.settings.mapCache = true) (found : (s.cache.find? fun x => x.logical == sector) = some t)
    (op : Nat → PortOp) : askOn inHand sector op s = none ∧ askEntry inHand sector s = none := by
  have ht : t.logical = sector := by simpa using List.find?_some found
  have other : inHand ≠ some t := fun e => hand t e ht
  simp [askOn, askEntry, translate_hit h hand on found, h, other]

/-- The cache keeps at most 8 translations (R143). -/
theorem length_cachePlace_le {cache : List Translation} (h : cache.length ≤ 8) : (cachePlace t cache).length ≤ 8 := by
  unfold cachePlace
  split
  · simpa using h
  · split <;> simp <;> omega

variable {logical : Nat} {entry : BitVec 32}

/-- Judging an entry read leaves the cache alone (R142). -/
@[simp] theorem noteEntry_cache : (noteEntry entry s).cache = s.cache := by
  simp only [noteEntry]
  split <;> rfl

/-- Judging an entry read leaves the writer alone (R142). -/
@[simp] theorem noteEntry_sw : (noteEntry entry s).sw = s.sw := by
  simp only [noteEntry]
  split <;> rfl

/-- Judging an entry read leaves the settings alone (R142). -/
@[simp] theorem noteEntry_settings : (noteEntry entry s).sl.settings = s.sl.settings := by
  simp only [noteEntry]
  split <;> rfl

/-- What the end of a map entry read leaves in the cache: the translation placed in MAPPED mode with the cache on, and else
what was there (R143). -/
theorem mapEntryRead_cache : (mapEntryRead logical entry s).cache =
    if s.sw.mode = .mapped ∧ s.sl.settings.mapCache = true then cachePlace (entryTranslation s logical entry) s.cache
    else s.cache := by
  simp only [mapEntryRead, placeEntry, noteEntry_cache, noteEntry_sw, noteEntry_settings]
  split <;> simp [entryTranslation]

/-- In DIRECT mode the cache stays as it is, empty, whatever read ends (R143). -/
theorem mapEntryRead_direct (h : s.sw.mode = .direct) : (mapEntryRead logical entry s).cache = s.cache := by
  simp [mapEntryRead_cache, h]

/-- A read that outlived an UNMOUNT places nothing (notes/assumptions/76.md). -/
theorem strayMapRead_outlived (h : outlivedUnmount s = true) : (strayMapRead logical entry s).cache = s.cache := by
  simp [strayMapRead, h]

end Sys2Proof.Machine
end

