-- ==== Sys2Proof/Laws/Frames.lean ====
section
/-! SUPPORT. The clock of the part: lane, monitor, tracker and time base. What the other blocks do leaves it as it is. -/

namespace Sys2Proof.Machine

/-- The blocks that mark time: lane, monitor, tracker and time base. -/
def clockOf (s : State) : LR × MM × CT × TB := (s.lr, s.mm, s.ct, s.tb)

@[simp] theorem clockOf_setCc (s : State) (x : CC) : clockOf (s.setCc x) = clockOf s := rfl
@[simp] theorem clockOf_setMu (s : State) (x : MU) : clockOf (s.setMu x) = clockOf s := rfl
@[simp] theorem clockOf_setEd (s : State) (x : ED) : clockOf (s.setEd x) = clockOf s := rfl
@[simp] theorem clockOf_setCu (s : State) (x : CU) : clockOf (s.setCu x) = clockOf s := rfl
@[simp] theorem clockOf_setIa (s : State) (x : IA) : clockOf (s.setIa x) = clockOf s := rfl
@[simp] theorem clockOf_setRq (s : State) (x : RQ) : clockOf (s.setRq x) = clockOf s := rfl
@[simp] theorem clockOf_setSw (s : State) (x : SW) : clockOf (s.setSw x) = clockOf s := rfl
@[simp] theorem clockOf_setCache (s : State) (x : List Translation) : clockOf (s.setCache x) = clockOf s := rfl
@[simp] theorem clockOf_setSr (s : State) (x : SR) : clockOf (s.setSr x) = clockOf s := rfl
@[simp] theorem clockOf_setMb (s : State) (x : MB) : clockOf (s.setMb x) = clockOf s := rfl
@[simp] theorem clockOf_setSl (s : State) (x : SL) : clockOf (s.setSl x) = clockOf s := rfl
@[simp] theorem clockOf_setPending (s : State) (x : List Sys2Proof.Instr) : clockOf (s.setPending x) = clockOf s := rfl
@[simp] theorem clockOf_setDraws (s : State) (x : Nat) : clockOf (s.setDraws x) = clockOf s := rfl

/-- A fold of steps that leave the clock leaves the clock. -/
theorem clockOf_foldl {α : Type} (f : State → α → State) (h : ∀ s a, clockOf (f s a) = clockOf s) (l : List α)
    (s : State) : clockOf (l.foldl f s) = clockOf s := by
  induction l generalizing s with
  | nil => rfl
  | cons a t ih => rw [List.foldl_cons, ih, h]

/-- A step repeated leaves the clock when the step does. -/
theorem clockOf_repeatStep (f : State → State) (h : ∀ s, clockOf (f s) = clockOf s) (n : Nat) (s : State) :
    clockOf (repeatStep f n s) = clockOf s := by
  induction n generalizing s with
  | zero => rfl
  | succ n ih => rw [repeatStep, ih, h]

@[simp] theorem clockOf_latch (f : Flag) (s : State) : clockOf (latch f s) = clockOf s := by
  simp [latch]

@[simp] theorem clockOf_draw (s : State) : clockOf (draw s).2 = clockOf s := by
  simp [draw]

@[simp] theorem clockOf_formReply (r : Reply) (s : State) : clockOf (formReply r s) = clockOf s := by
  simp only [formReply]
  repeat' split
  all_goals simp

@[simp] theorem clockOf_answerOk (tag : Byte) (kind : Nat) (body : List Byte) (s : State) :
    clockOf (answerOk tag kind body s) = clockOf s := by
  simp [answerOk]

@[simp] theorem clockOf_refuse (tag : Byte) (kind : Nat) (reason : Reason) (s : State) :
    clockOf (refuse tag kind reason s) = clockOf s := by
  simp [refuse]

@[simp] theorem clockOf_accept (tag : Byte) (kind : Nat) (s : State) : clockOf (accept tag kind s) = clockOf s := by
  simp [accept]

@[simp] theorem clockOf_finalReply (r : Reply) (s : State) : clockOf (finalReply r s) = clockOf s := by
  simp [finalReply]

@[simp] theorem clockOf_replyDone (tag : Byte) (kind : Nat) (cancelled : Bool) (body : List Byte) (s : State) :
    clockOf (replyDone tag kind cancelled body s) = clockOf s := by
  simp [replyDone]

@[simp] theorem clockOf_replyFailed (tag : Byte) (kind : Nat) (reason : Reason) (body : List Byte) (s : State) :
    clockOf (replyFailed tag kind reason body s) = clockOf s := by
  simp [replyFailed]

@[simp] theorem clockOf_applyResult (m : Fin 4) (r : CalResult) (s : State) :
    clockOf (applyResult m r s) = clockOf s := by
  simp [applyResult]

@[simp] theorem clockOf_applyPendingCal (s : State) : clockOf (applyPendingCal s) = clockOf s := by
  simp only [applyPendingCal]
  refine clockOf_foldl _ (fun s a => ?_) _ _
  split <;> simp

@[simp] theorem clockOf_deliverResult (m : Fin 4) (r : CalResult) (s : State) :
    clockOf (deliverResult m r s) = clockOf s := by
  simp only [deliverResult]
  repeat' split
  all_goals simp

@[simp] theorem clockOf_markStale (m : Fin 4) (s : State) : clockOf (markStale m s) = clockOf s := by
  simp [markStale]

@[simp] theorem clockOf_pushFrame (s : State) (f : FwdFrame) : clockOf (pushFrame s f) = clockOf s := by
  simp only [pushFrame]
  repeat' split
  all_goals simp

@[simp] theorem clockOf_forward (collecting : Bool) (c : CondSet) (s : State) :
    clockOf (forward collecting c s) = clockOf s := by
  simp only [forward]
  split
  · exact clockOf_foldl _ (fun s a => by simp) _ _
  · rfl

@[simp] theorem clockOf_forwardHeld (collecting : Bool) (newest : CondSet) (s : State) :
    clockOf (forwardHeld collecting newest s) = clockOf s := by
  simp only [forwardHeld]
  repeat' split
  all_goals simp

@[simp] theorem clockOf_orderLoadPass (tag : Byte) (entries : List PassArg) (s : State) :
    clockOf (orderLoadPass tag entries s) = clockOf s := by
  simp only [orderLoadPass]
  repeat' split
  all_goals simp

@[simp] theorem clockOf_restartConditioner (s : State) : clockOf (restartConditioner s) = clockOf s := by
  simp [restartConditioner]

@[simp] theorem clockOf_State_updMb (s : State) (f : MB → MB) : clockOf (State.updMb s f) = clockOf s := by
  simp [State.updMb]

@[simp] theorem clockOf_requestFetch (m : Fin 4) (forced : Bool) (s : State) :
    clockOf (requestFetch m forced s) = clockOf s := by
  simp [requestFetch]

@[simp] theorem clockOf_mapEntry (m : Fin 4) (f : FetchEntry → FetchEntry) (s : State) :
    clockOf (mapEntry m f s) = clockOf s := by
  simp [mapEntry]

@[simp] theorem clockOf_dropEntry (m : Fin 4) (s : State) : clockOf (dropEntry m s) = clockOf s := by
  simp [dropEntry]

@[simp] theorem clockOf_afterTransaction (s : State) : clockOf (afterTransaction s) = clockOf s := by
  simp only [afterTransaction]
  repeat' split
  all_goals simp

@[simp] theorem clockOf_endTransaction (state : BusState) (s : State) :
    clockOf (endTransaction state s) = clockOf s := by
  simp [endTransaction]

@[simp] theorem clockOf_reportWrite (address offset acked : Nat) (s : State) :
    clockOf (reportWrite address offset acked s) = clockOf s := by
  simp only [reportWrite]
  repeat' split
  all_goals simp

@[simp] theorem clockOf_failStation (tag : Byte) (kind : Nat) (reason : Reason) (cancelled : Bool) (s : State) :
    clockOf (failStation tag kind reason cancelled s) = clockOf s := by
  simp [failStation]

@[simp] theorem clockOf_failFetchTag (m : Fin 4) (reason : Reason) (cancelled : Bool) (s : State) :
    clockOf (failFetchTag m reason cancelled s) = clockOf s := by
  simp only [failFetchTag]
  repeat' split
  all_goals simp

@[simp] theorem clockOf_failTransaction (reason : Reason) (cancelled : Bool) (acked : Nat) (s : State) :
    clockOf (failTransaction reason cancelled acked s) = clockOf s := by
  simp only [failTransaction]
  repeat' split
  all_goals simp

@[simp] theorem clockOf_hang (acked : Nat) (s : State) : clockOf (hang acked s) = clockOf s := by
  simp [hang]

@[simp] theorem clockOf_beginTransaction (t : Transaction) (s : State) :
    clockOf (beginTransaction t s) = clockOf s := by
  simp only [beginTransaction]
  repeat' split
  all_goals simp

@[simp] theorem clockOf_busSettle (s : State) : clockOf (busSettle s) = clockOf s := by
  simp only [busSettle]
  repeat' split
  all_goals simp

@[simp] theorem clockOf_fetchDone (m : Fin 4) (bs : List Byte) (s : State) :
    clockOf (fetchDone m bs s) = clockOf s := by
  simp only [fetchDone]
  repeat' split
  all_goals simp

@[simp] theorem clockOf_fetchNoAck (m : Fin 4) (s : State) : clockOf (fetchNoAck m s) = clockOf s := by
  simp only [fetchNoAck]
  repeat' split
  all_goals simp

@[simp] theorem clockOf_endFetch (bs : List Byte) (s : State) : clockOf (endFetch bs s) = clockOf s := by
  simp only [endFetch]
  repeat' split
  all_goals simp

@[simp] theorem clockOf_endNoAck (acked : Nat) (s : State) : clockOf (endNoAck acked s) = clockOf s := by
  simp only [endNoAck]
  repeat' split
  all_goals simp

@[simp] theorem clockOf_endRead (bs : List Byte) (s : State) : clockOf (endRead bs s) = clockOf s := by
  simp only [endRead]
  repeat' split
  all_goals simp

@[simp] theorem clockOf_endWrite (s : State) : clockOf (endWrite s) = clockOf s := by
  simp only [endWrite]
  repeat' split
  all_goals simp

@[simp] theorem clockOf_endRecovery (released : Bool) (s : State) : clockOf (endRecovery released s) = clockOf s := by
  simp only [endRecovery]
  repeat' split
  all_goals simp

@[simp] theorem clockOf_clockHeld (acked : Nat) (s : State) : clockOf (clockHeld acked s) = clockOf s := by
  simp only [clockHeld]
  repeat' split
  all_goals simp

@[simp] theorem clockOf_endCut (acked : Nat) (s : State) : clockOf (endCut acked s) = clockOf s := by
  simp only [endCut]
  repeat' split
  all_goals simp

@[simp] theorem clockOf_endHold (m : Fin 4) (s : State) : clockOf (endHold m s) = clockOf s := by
  simp [endHold]

@[simp] theorem clockOf_restartBus (s : State) : clockOf (restartBus s) = clockOf s := by
  simp [restartBus]

@[simp] theorem clockOf_orderModuleRead (tag : Byte) (address offset count : Nat) (s : State) :
    clockOf (orderModuleRead tag address offset count s) = clockOf s := by
  simp only [orderModuleRead]
  repeat' split
  all_goals simp

@[simp] theorem clockOf_orderModuleWrite (tag : Byte) (address offset : Nat) (data : List Byte) (s : State) :
    clockOf (orderModuleWrite tag address offset data s) = clockOf s := by
  simp only [orderModuleWrite]
  repeat' split
  all_goals simp

@[simp] theorem clockOf_orderModuleFetch (tag : Byte) (module : Nat) (s : State) :
    clockOf (orderModuleFetch tag module s) = clockOf s := by
  simp only [orderModuleFetch]
  repeat' split
  all_goals simp

@[simp] theorem clockOf_orderModuleAbort (tag : Byte) (s : State) : clockOf (orderModuleAbort tag s) = clockOf s := by
  simp only [orderModuleAbort]
  repeat' split
  all_goals simp

@[simp] theorem clockOf_ownerSet (s : State) : clockOf (ownerSet s) = clockOf s := by
  simp only [ownerSet]
  repeat' split
  all_goals simp

@[simp] theorem clockOf_releaseCapture (s : State) : clockOf (releaseCapture s) = clockOf s := by
  simp only [releaseCapture]
  repeat' split
  all_goals simp

@[simp] theorem clockOf_departed (s : State) (e : Entry) : clockOf (departed s e) = clockOf s := by
  simp only [departed]
  repeat' split
  all_goals simp

@[simp] theorem clockOf_sweep (s : State) : clockOf (sweep s) = clockOf s := by
  simp only [sweep]
  rw [clockOf_foldl _ (fun s a => by simp)]
  simp

@[simp] theorem clockOf_markAllStored (s : State) : clockOf (markAllStored s) = clockOf s := by
  simp [markAllStored]

@[simp] theorem clockOf_markAllEmitted (s : State) : clockOf (markAllEmitted s) = clockOf s := by
  simp [markAllEmitted]

@[simp] theorem clockOf_markEmitted (sequence : Nat) (s : State) : clockOf (markEmitted sequence s) = clockOf s := by
  simp [markEmitted]

@[simp] theorem clockOf_countLost (n : Nat) (s : State) : clockOf (countLost n s) = clockOf s := by
  simp only [countLost]
  repeat' split
  all_goals simp

@[simp] theorem clockOf_handRecord (body : RecordBody) (s : State) : clockOf (handRecord body s).2 = clockOf s := by
  simp only [handRecord]
  repeat' split
  all_goals simp

@[simp] theorem clockOf_discardEntries (s : State) : clockOf (discardEntries s) = clockOf s := by
  simp only [discardEntries]
  repeat' split
  all_goals simp

@[simp] theorem clockOf_takeSequence (found : NextSeq) (s : State) : clockOf (takeSequence found s) = clockOf s := by
  simp only [takeSequence]
  repeat' split
  all_goals simp

@[simp] theorem clockOf_settingsRecord (cause : SettingsCause) (applied : BitVec 8) (s : State) :
    clockOf (settingsRecord cause applied s) = clockOf s := by
  simp [settingsRecord]

@[simp] theorem clockOf_placePending (s : State) : clockOf (placePending s) = clockOf s := by
  simp [placePending]

@[simp] theorem clockOf_applyPending (cause : SettingsCause) (s : State) :
    clockOf (applyPending cause s) = clockOf s := by
  simp only [applyPending]
  repeat' split
  all_goals simp

@[simp] theorem clockOf_applyUnlessHold (cause : SettingsCause) (s : State) :
    clockOf (applyUnlessHold cause s) = clockOf s := by
  simp only [applyUnlessHold]
  repeat' split
  all_goals simp

@[simp] theorem clockOf_answerStop (outcome : Nat) (s : State) : clockOf (answerStop outcome s) = clockOf s := by
  simp only [answerStop]
  repeat' split
  all_goals simp

@[simp] theorem clockOf_enterStopped (outcome : Nat) (s : State) : clockOf (enterStopped outcome s) = clockOf s := by
  simp [enterStopped]

@[simp] theorem clockOf_endRecordSettled (outcome : Nat) (s : State) :
    clockOf (endRecordSettled outcome s) = clockOf s := by
  simp only [endRecordSettled]
  repeat' split
  all_goals simp

@[simp] theorem clockOf_closeCapture (truncated cut : Bool) (s : State) :
    clockOf (closeCapture truncated cut s) = clockOf s := by
  simp only [closeCapture]
  split
  · rfl
  · split <;>
    (rename_i h
     have h := congrArg (fun x => clockOf x.2) h
     simp only [clockOf_handRecord, clockOf_setCu] at h
     simp [← h])

@[simp] theorem clockOf_startCapture (cause : TrigCause) (event strobe : Nat) (s : State) :
    clockOf (startCapture cause event strobe s) = clockOf s := by
  simp [startCapture]

@[simp] theorem clockOf_trigger (cause : TrigCause) (event strobe : Nat) (s : State) :
    clockOf (trigger cause event strobe s).2 = clockOf s := by
  simp only [trigger]
  repeat' split
  all_goals simp

@[simp] theorem clockOf_collect (c : CondSet) (h : Capture) (s : State) : clockOf (collect c h s) = clockOf s := by
  simp only [collect]
  repeat' split
  all_goals simp

@[simp] theorem clockOf_captureTake (c : CondSet) (s : State) : clockOf (captureTake c s) = clockOf s := by
  simp only [captureTake]
  repeat' split
  all_goals simp

@[simp] theorem clockOf_stopCapture (s : State) : clockOf (stopCapture s) = clockOf s := by
  simp only [stopCapture]
  repeat' split
  all_goals simp

@[simp] theorem clockOf_orderCapture (tag : Byte) (s : State) : clockOf (orderCapture tag s) = clockOf s := by
  simp only [orderCapture]
  repeat' split
  all_goals simp

@[simp] theorem clockOf_emptyRing (s : State) : clockOf (emptyRing s) = clockOf s := by
  simp [emptyRing]

@[simp] theorem clockOf_updInterval (f : Interval → Interval) (s : State) : clockOf (updInterval f s) = clockOf s := by
  simp [updInterval]

@[simp] theorem clockOf_updSummary (f : Summary → Summary) (s : State) : clockOf (updSummary f s) = clockOf s := by
  simp [updSummary]

@[simp] theorem clockOf_countClose (c : EventClass) (s : State) : clockOf (countClose c s) = clockOf s := by
  simp only [countClose]
  repeat' split
  all_goals simp

@[simp] theorem clockOf_handTrigger (cause : TrigCause) (event k : Nat) (s : State) :
    clockOf (handTrigger cause event k s).2 = clockOf s := by
  simp only [handTrigger]
  repeat' split
  all_goals simp

@[simp] theorem clockOf_openDip (w : BoundaryWork) (s : State) : clockOf (openDip w s) = clockOf s := by
  simp [openDip]

@[simp] theorem clockOf_openSwell (w : BoundaryWork) (s : State) : clockOf (openSwell w s) = clockOf s := by
  simp [openSwell]

@[simp] theorem clockOf_countGrid (swell : Bool) (cell : Option (Nat × Nat)) (s : State) :
    clockOf (countGrid swell cell s) = clockOf s := by
  simp only [countGrid]
  repeat' split
  all_goals simp

@[simp] theorem clockOf_closeEvent (e : OpenEvent) (cause : CloseCause) (b : Boundary) (stamp : Stamp) (s : State) :
    clockOf (closeEvent e cause b stamp s) = clockOf s := by
  simp only [closeEvent]
  repeat' split
  all_goals simp

@[simp] theorem clockOf_escalate (w : BoundaryWork) (s : State) : clockOf (escalate w s) = clockOf s := by
  simp only [escalate]
  repeat' split
  all_goals simp

@[simp] theorem clockOf_endTests (w : BoundaryWork) (ended : Nat → Bool) (e : OpenEvent) (s : State) :
    clockOf (endTests w ended e s) = clockOf s := by
  simp only [endTests]
  repeat' split
  all_goals simp

@[simp] theorem clockOf_runDip (w : BoundaryWork) (s : State) : clockOf (runDip w s) = clockOf s := by
  simp only [runDip]
  repeat' split
  all_goals simp

@[simp] theorem clockOf_runSwell (w : BoundaryWork) (s : State) : clockOf (runSwell w s) = clockOf s := by
  simp only [runSwell]
  repeat' split
  all_goals simp

@[simp] theorem clockOf_boundaryEvents (w : BoundaryWork) (s : State) : clockOf (boundaryEvents w s).2 = clockOf s := by
  simp only [boundaryEvents]
  repeat' split
  all_goals simp

@[simp] theorem clockOf_forceClose (cause : CloseCause) (s : State) : clockOf (forceClose cause s) = clockOf s := by
  simp only [forceClose]
  repeat' split
  all_goals simp

@[simp] theorem clockOf_orderLoadLimit (tag : Byte) (entries : List LimitArg) (s : State) :
    clockOf (orderLoadLimit tag entries s) = clockOf s := by
  simp only [orderLoadLimit]
  repeat' split
  all_goals simp

@[simp] theorem clockOf_orderLoadGrid (tag : Byte) (lists : List GridArg) (s : State) :
    clockOf (orderLoadGrid tag lists s) = clockOf s := by
  simp only [orderLoadGrid]
  repeat' split
  all_goals simp

@[simp] theorem clockOf_clearGrids (s : State) : clockOf (clearGrids s) = clockOf s := by
  simp [clearGrids]

@[simp] theorem clockOf_windowArrives (w : WindowResult) (s : State) : clockOf (windowArrives w s) = clockOf s := by
  simp [windowArrives]

@[simp] theorem clockOf_closeInterval (stop : Stamp) (ended early : Bool) (s : State) :
    clockOf (closeInterval stop ended early s) = clockOf s := by
  simp only [closeInterval]
  repeat' split
  all_goals simp

@[simp] theorem clockOf_openInterval (number : Nat) (start : Stamp) (partialMark : Bool) (s : State) :
    clockOf (openInterval number start partialMark s) = clockOf s := by
  simp [openInterval]

@[simp] theorem clockOf_rolloverReport (s : State) : clockOf (rolloverReport s) = clockOf s := by
  simp only [rolloverReport]
  repeat' split
  all_goals simp

@[simp] theorem clockOf_stepReport (before after : Stamp) (s : State) :
    clockOf (stepReport before after s) = clockOf s := by
  simp only [stepReport]
  repeat' split
  all_goals simp

@[simp] theorem clockOf_enterRunning (s : State) : clockOf (enterRunning s) = clockOf s := by
  simp [enterRunning]

@[simp] theorem clockOf_readyTest (s : State) : clockOf (readyTest s) = clockOf s := by
  simp only [readyTest]
  repeat' split
  all_goals simp

@[simp] theorem clockOf_startWindow (b : Boundary) (stamp : Stamp) (event : Bool) (s : State) :
    clockOf (startWindow b stamp event s) = clockOf s := by
  simp [startWindow]

@[simp] theorem clockOf_closeWindow (w : Window) (b : Boundary) (stamp : Stamp) (flags : BitVec 8) (s : State) :
    clockOf (closeWindow w b stamp flags s) = clockOf s := by
  simp [closeWindow]

@[simp] theorem clockOf_windowWork (b : Boundary) (stamp : Stamp) (event : Bool) (values : PerChannel (Option Nat)) (s : State) :
    clockOf (windowWork b stamp event values s) = clockOf s := by
  simp only [windowWork]
  repeat' split
  all_goals simp

@[simp] theorem clockOf_boundaryWork (b : Boundary) (k : Nat) (s : State) :
    clockOf (boundaryWork b k s).2 = clockOf s := by
  simp [boundaryWork]

@[simp] theorem clockOf_latchSnapshot (b : Boundary) (values : PerChannel (Option Nat)) (s : State) :
    clockOf (latchSnapshot b values s) = clockOf s := by
  simp [latchSnapshot]

@[simp] theorem clockOf_addSet (c : CondSet) (s : State) : clockOf (addSet c s) = clockOf s := by
  simp [addSet]

@[simp] theorem clockOf_reportRefChange (s : State) : clockOf (reportRefChange s) = clockOf s := by
  simp only [reportRefChange]
  repeat' split
  all_goals simp

@[simp] theorem clockOf_reportTimeStep (s : State) : clockOf (reportTimeStep s) = clockOf s := by
  simp only [reportTimeStep]
  repeat' split
  all_goals simp

@[simp] theorem clockOf_abandonWindow (s : State) : clockOf (abandonWindow s) = clockOf s := by
  simp [abandonWindow]

@[simp] theorem clockOf_restartMagnitude (s : State) : clockOf (restartMagnitude s) = clockOf s := by
  simp [restartMagnitude]

@[simp] theorem clockOf_refChanged (changed : Bool) (s : State) : clockOf (refChanged changed s) = clockOf s := by
  simp only [refChanged]
  repeat' split
  all_goals simp

@[simp] theorem clockOf_setCampaign (c : CampaignState) (s : State) : clockOf (setCampaign c s) = clockOf s := by
  simp [setCampaign]

@[simp] theorem clockOf_beginCampaign (s : State) : clockOf (beginCampaign s) = clockOf s := by
  simp [beginCampaign]

@[simp] theorem clockOf_orderStart (tag : Byte) (s : State) : clockOf (orderStart tag s) = clockOf s := by
  simp only [orderStart]
  repeat' split
  all_goals simp

@[simp] theorem clockOf_armIssue (s : State) : clockOf (armIssue s) = clockOf s := by
  simp only [armIssue]
  repeat' split
  all_goals simp

@[simp] theorem clockOf_endCampaign (restart : Bool) (s : State) : clockOf (endCampaign restart s).2 = clockOf s := by
  simp only [endCampaign]
  repeat' split
  all_goals simp

@[simp] theorem clockOf_awaitEnd (r : HandResult) (s : State) : clockOf (awaitEnd r s) = clockOf s := by
  simp only [awaitEnd]
  repeat' split
  all_goals simp

@[simp] theorem clockOf_orderStop (tag : Byte) (s : State) : clockOf (orderStop tag s) = clockOf s := by
  simp only [orderStop]
  repeat' split
  all_goals simp

@[simp] theorem clockOf_restartCampaign (s : State) : clockOf (restartCampaign s) = clockOf s := by
  simp only [restartCampaign]
  repeat' split
  all_goals simp

@[simp] theorem clockOf_readGeometry (s : State) : clockOf (readGeometry s) = clockOf s := by
  simp only [readGeometry]
  repeat' split
  all_goals simp

@[simp] theorem clockOf_noteEntry (entry : BitVec 32) (s : State) : clockOf (noteEntry entry s) = clockOf s := by
  simp only [noteEntry]
  split <;> simp

@[simp] theorem clockOf_placeEntry (logical : Nat) (entry : BitVec 32) (s : State) :
    clockOf (placeEntry logical entry s) = clockOf s := by
  simp only [placeEntry]
  split <;> simp

@[simp] theorem clockOf_mapEntryRead (logical : Nat) (entry : BitVec 32) (s : State) :
    clockOf (mapEntryRead logical entry s) = clockOf s := by
  simp [mapEntryRead]

@[simp] theorem clockOf_translate (inHand : Option Translation) (logical : Nat) (s : State) :
    clockOf (translate inHand logical s).2 = clockOf s := by
  simp only [translate]
  repeat' split
  all_goals simp

@[simp] theorem clockOf_retireTranslation (logical : Nat) (s : State) :
    clockOf (retireTranslation logical s) = clockOf s := by
  simp [retireTranslation]

@[simp] theorem clockOf_startReadback (s : State) : clockOf (startReadback s) = clockOf s := by
  simp only [startReadback]
  repeat' split
  all_goals simp

@[simp] theorem clockOf_orphanRead (s : State) : clockOf (orphanRead s) = clockOf s := by
  simp only [orphanRead]
  repeat' split
  all_goals simp

@[simp] theorem clockOf_answerWaiters (waiters : List Byte) (s : State) :
    clockOf (answerWaiters waiters s) = clockOf s := by
  simp only [answerWaiters]
  exact clockOf_foldl _ (fun s a => by simp) _ _

@[simp] theorem clockOf_endReadback (cancelled failed : Bool) (s : State) :
    clockOf (endReadback cancelled failed s) = clockOf s := by
  simp only [endReadback]
  repeat' split
  all_goals simp

@[simp] theorem clockOf_closeRecord (mark : PieceMark) (counted : Bool) (s : State) :
    clockOf (closeRecord mark counted s) = clockOf s := by
  simp only [closeRecord]
  repeat' split
  all_goals simp

@[simp] theorem clockOf_endQueued (cancelled failed : Bool) (s : State) :
    clockOf (endQueued cancelled failed s) = clockOf s := by
  simp only [endQueued]
  rw [clockOf_foldl _ (fun s a => by split <;> simp)]
  simp

@[simp] theorem clockOf_closeDamaged (s : State) : clockOf (closeDamaged s) = clockOf s := by
  simp only [closeDamaged]
  repeat' split
  all_goals simp

@[simp] theorem clockOf_endReadbacksFaulted (s : State) : clockOf (endReadbacksFaulted s) = clockOf s := by
  simp only [endReadbacksFaulted]
  repeat' split
  all_goals simp

@[simp] theorem clockOf_endReadbacksLinkDown (s : State) : clockOf (endReadbacksLinkDown s) = clockOf s := by
  simp only [endReadbacksLinkDown]
  repeat' split
  all_goals simp

@[simp] theorem clockOf_takeStoreOrder (o : LongOrder) (tag : Byte) (s : State) :
    clockOf (takeStoreOrder o tag s) = clockOf s := by
  simp [takeStoreOrder]

@[simp] theorem clockOf_storeOrderDone (body : List Byte) (s : State) :
    clockOf (storeOrderDone body s) = clockOf s := by
  simp only [storeOrderDone]
  repeat' split
  all_goals simp

@[simp] theorem clockOf_storeOrderFailed (s : State) : clockOf (storeOrderFailed s) = clockOf s := by
  simp only [storeOrderFailed]
  repeat' split
  all_goals simp

@[simp] theorem clockOf_storeFault (cause : FaultCause) (s : State) : clockOf (storeFault cause s) = clockOf s := by
  simp only [storeFault]
  repeat' split
  all_goals simp

@[simp] theorem clockOf_enterUnmounted (s : State) : clockOf (enterUnmounted s) = clockOf s := by
  simp [enterUnmounted]

@[simp] theorem clockOf_writerAppend (s : State) : clockOf (writerAppend s) = clockOf s := by
  simp only [writerAppend]
  repeat' split
  all_goals simp

@[simp] theorem clockOf_restartLocating (s : State) : clockOf (restartLocating s) = clockOf s := by
  simp only [restartLocating]
  repeat' split
  all_goals simp

theorem clockOf_of_translate {inHand : Option Translation} {logical : Nat} {s s1 : State} {t : Option Translation}
    (h : translate inHand logical s = (t, s1)) : clockOf s1 = clockOf s := by
  rw [← clockOf_translate inHand logical s, h]

@[simp] theorem clockOf_setTail (tail : Option Nat) (s : State) : clockOf (setTail tail s) = clockOf s := by
  simp [setTail]

@[simp] theorem clockOf_headOn (s : State) : clockOf (headOn s) = clockOf s := by
  simp only [headOn]
  repeat' split
  all_goals simp

@[simp] theorem clockOf_overwriteTail (s : State) : clockOf (overwriteTail s) = clockOf s := by
  simp only [overwriteTail]
  repeat' split
  all_goals simp

@[simp] theorem clockOf_enterHead (s : State) : clockOf (enterHead s) = clockOf s := by
  simp only [enterHead]
  repeat' split
  all_goals simp

@[simp] theorem clockOf_clearStop (s : State) : clockOf (clearStop s) = clockOf s := by
  simp only [clearStop]
  repeat' split
  all_goals simp

@[simp] theorem clockOf_settleHead (s : State) : clockOf (settleHead s) = clockOf s := by
  simp only [settleHead]
  repeat' split
  all_goals simp

@[simp] theorem clockOf_judgeLast (last : Nat) (s : State) : clockOf (judgeLast last s) = clockOf s := by
  simp only [judgeLast]
  repeat' split
  all_goals simp

@[simp] theorem clockOf_rewriteEntries (sector : Nat) (s : State) : clockOf (rewriteEntries sector s) = clockOf s := by
  simp [rewriteEntries]

@[simp] theorem clockOf_sectorRetired (sector : Nat) (programFailed : Bool) (s : State) :
    clockOf (sectorRetired sector programFailed s) = clockOf s := by
  simp only [sectorRetired]
  repeat' split
  all_goals simp

@[simp] theorem clockOf_programStep (s : State) : clockOf (programStep s) = clockOf s := by
  simp only [programStep]
  repeat' split
  all_goals first
    | (simp; done)
    | simp [clockOf_of_translate (by assumption)]

@[simp] theorem clockOf_writerStep (s : State) : clockOf (writerStep s) = clockOf s := by
  simp only [writerStep]
  repeat' split
  all_goals first
    | (simp; done)
    | simp [clockOf_of_translate (by assumption)]

@[simp] theorem clockOf_writerAdvance (s : State) : clockOf (writerAdvance s) = clockOf s := by
  simp only [writerAdvance]
  repeat' split
  all_goals simp [clockOf_repeatStep _ clockOf_writerStep]

@[simp] theorem clockOf_writerMapRead (logical : Nat) (entry : BitVec 32) (s : State) :
    clockOf (writerMapRead logical entry s) = clockOf s := by
  simp [writerMapRead]

@[simp] theorem clockOf_tailHeaderRead (header : Option PageHeader) (s : State) :
    clockOf (tailHeaderRead header s) = clockOf s := by
  simp only [tailHeaderRead]
  repeat' split
  all_goals simp

@[simp] theorem clockOf_writerHeaderRead (bytes : List Byte) (s : State) :
    clockOf (writerHeaderRead bytes s) = clockOf s := by
  simp only [writerHeaderRead]
  repeat' split
  all_goals simp

@[simp] theorem clockOf_pageProgrammed (s : State) : clockOf (pageProgrammed s) = clockOf s := by
  simp only [pageProgrammed]
  repeat' split
  all_goals simp

@[simp] theorem clockOf_pageFailed (s : State) : clockOf (pageFailed s) = clockOf s := by
  simp only [pageFailed]
  repeat' split
  all_goals simp

@[simp] theorem clockOf_headErasedNow (s : State) : clockOf (headErasedNow s) = clockOf s := by
  simp [headErasedNow]

@[simp] theorem clockOf_headEraseFailed (s : State) : clockOf (headEraseFailed s) = clockOf s := by
  simp only [headEraseFailed]
  repeat' split
  all_goals simp

@[simp] theorem clockOf_retireEnded (ok : Bool) (s : State) : clockOf (retireEnded ok s) = clockOf s := by
  simp only [retireEnded]
  repeat' split
  all_goals simp

@[simp] theorem clockOf_orderRelease (tag : Byte) (w : Nat) (s : State) :
    clockOf (orderRelease tag w s) = clockOf s := by
  simp only [orderRelease]
  repeat' split
  all_goals simp

@[simp] theorem clockOf_unmountWriter (s : State) : clockOf (unmountWriter s) = clockOf s := by
  simp only [unmountWriter]
  repeat' split
  all_goals simp

@[simp] theorem clockOf_finishUnmount (s : State) : clockOf (finishUnmount s) = clockOf s := by
  simp only [finishUnmount]
  repeat' split
  all_goals simp

@[simp] theorem clockOf_endServing (s : State) : clockOf (endServing s) = clockOf s := by
  simp only [endServing]
  repeat' split
  all_goals simp

@[simp] theorem clockOf_endGone (s : State) : clockOf (endGone s) = clockOf s := by
  simp only [endGone]
  repeat' split
  all_goals simp

@[simp] theorem clockOf_endBeyond (s : State) : clockOf (endBeyond s) = clockOf s := by
  simp only [endBeyond]
  repeat' split
  all_goals simp

@[simp] theorem clockOf_withReadback (f : Readback → Readback) (s : State) :
    clockOf (withReadback f s) = clockOf s := by
  simp [withReadback]

@[simp] theorem clockOf_setPhase (p : ReadPhase) (s : State) : clockOf (setPhase p s) = clockOf s := by
  simp [setPhase]

@[simp] theorem clockOf_cutRecord (mark : PieceMark) (counted : Bool) (s : State) :
    clockOf (cutRecord mark counted s) = clockOf s := by
  simp only [cutRecord]
  repeat' split
  all_goals simp

@[simp] theorem clockOf_cutAtEnd (s : State) : clockOf (cutAtEnd s) = clockOf s := by
  simp only [cutAtEnd]
  repeat' split
  all_goals simp

@[simp] theorem clockOf_walkTo (origin target : PagePos) (s : State) :
    clockOf (walkTo origin target s) = clockOf s := by
  simp only [walkTo]
  repeat' split
  all_goals simp

@[simp] theorem clockOf_moveOn (p : PagePos) (s : State) : clockOf (moveOn p s) = clockOf s := by
  simp [moveOn]

@[simp] theorem clockOf_moveOver (p : PagePos) (s : State) : clockOf (moveOver p s) = clockOf s := by
  simp [moveOver]

@[simp] theorem clockOf_classify (at_ : PagePos) (last : Nat) (rest : List Byte) (p : RecordProgress) (o : ReadOrder) (r : Readback)
    (s : State) : clockOf (classify at_ last rest p o r s) = clockOf s := by
  simp only [classify]
  repeat' split
  all_goals simp

@[simp] theorem clockOf_parseStep (at_ : PagePos) (last : Nat) (rest : List Byte) (o : ReadOrder) (r : Readback) (s : State) :
    clockOf (parseStep at_ last rest o r s) = clockOf s := by
  simp only [parseStep]
  repeat' split
  all_goals simp

@[simp] theorem clockOf_walkPageRead (at_ : PagePos) (bytes : List Byte) (r : Readback) (s : State) :
    clockOf (walkPageRead at_ bytes r s) = clockOf s := by
  simp only [walkPageRead]
  repeat' split
  all_goals simp

@[simp] theorem clockOf_settleRange (o : ReadOrder) (r : Readback) (s : State) :
    clockOf (settleRange o r s) = clockOf s := by
  simp only [settleRange]
  repeat' split
  all_goals simp

@[simp] theorem clockOf_keepTranslation (t : Translation) (s : State) : clockOf (keepTranslation t s) = clockOf s := by
  simp [keepTranslation]

@[simp] theorem clockOf_lastSectorStep (top distance : Nat) (r : Readback) (s : State) :
    clockOf (lastSectorStep top distance r s) = clockOf s := by
  simp only [lastSectorStep]
  repeat' split
  all_goals first
    | (simp; done)
    | simp [clockOf_of_translate (by assumption)]

@[simp] theorem clockOf_sectorStep (lo hi : Nat) (starts : Option Nat) (probe : Option (Nat × Nat)) (r : Readback) (s : State) :
    clockOf (sectorStep lo hi starts probe r s) = clockOf s := by
  simp only [sectorStep]
  repeat' split
  all_goals first
    | (simp; done)
    | simp [clockOf_of_translate (by assumption)]

@[simp] theorem clockOf_pageStep (sector lo hi : Nat) (starts : Option Nat) (r : Readback) (s : State) :
    clockOf (pageStep sector lo hi starts r s) = clockOf s := by
  simp only [pageStep]
  repeat' split
  all_goals first
    | (simp; done)
    | simp [clockOf_of_translate (by assumption)]

@[simp] theorem clockOf_backStep (distance : Nat) (r : Readback) (s : State) :
    clockOf (backStep distance r s) = clockOf s := by
  simp only [backStep]
  repeat' split
  all_goals first
    | (simp; done)
    | simp [clockOf_of_translate (by assumption)]

@[simp] theorem clockOf_readerStep (s : State) : clockOf (readerStep s) = clockOf s := by
  simp only [readerStep]
  repeat' split
  all_goals first
    | (simp; done)
    | simp [clockOf_of_translate (by assumption)]

@[simp] theorem clockOf_readerAdvance (s : State) : clockOf (readerAdvance s) = clockOf s := by
  simp only [readerAdvance]
  split
  · rfl
  · exact clockOf_repeatStep _ clockOf_readerStep _ _

@[simp] theorem clockOf_readerMapRead (logical : Nat) (entry : BitVec 32) (s : State) :
    clockOf (readerMapRead logical entry s) = clockOf s := by
  simp [readerMapRead]

@[simp] theorem clockOf_readerPageRead (bytes : List Byte) (s : State) :
    clockOf (readerPageRead bytes s) = clockOf s := by
  simp only [readerPageRead]
  repeat' split
  all_goals simp

@[simp] theorem clockOf_orderReadRecords (tag : Byte) (first count : Nat) (s : State) :
    clockOf (orderReadRecords tag first count s) = clockOf s := by
  simp only [orderReadRecords]
  repeat' split
  all_goals simp

@[simp] theorem clockOf_cancelQueued (tag : Byte) (s : State) : clockOf (cancelQueued tag s) = clockOf s := by
  simp only [cancelQueued]
  rw [clockOf_foldl _ (fun s a => by simp)]
  simp

@[simp] theorem clockOf_cancelCurrent (waiters : List Byte) (s : State) :
    clockOf (cancelCurrent waiters s) = clockOf s := by
  simp only [cancelCurrent]
  repeat' split
  all_goals simp

@[simp] theorem clockOf_orderCancelRead (tag target : Byte) (s : State) :
    clockOf (orderCancelRead tag target s) = clockOf s := by
  simp only [orderCancelRead]
  repeat' split
  all_goals simp

@[simp] theorem clockOf_cancelAll (s : State) : clockOf (cancelAll s) = clockOf s := by
  simp only [cancelAll]
  repeat' split
  all_goals simp

@[simp] theorem clockOf_mountComplete (j : MountJob) (r : MountResult) (s : State) :
    clockOf (mountComplete j r s) = clockOf s := by
  simp only [mountComplete]
  repeat' split
  all_goals simp

@[simp] theorem clockOf_mountEnd (j : MountJob) (emptyStop : Bool) (s : State) :
    clockOf (mountEnd j emptyStop s) = clockOf s := by
  simp only [mountEnd]
  repeat' split
  all_goals simp

@[simp] theorem clockOf_setMount (j : MountJob) (s : State) : clockOf (setMount j s) = clockOf s := by
  simp [setMount]

@[simp] theorem clockOf_mountClassified (j : MountJob) (s : State) : clockOf (mountClassified j s) = clockOf s := by
  simp only [mountClassified]
  repeat' split
  all_goals simp

@[simp] theorem clockOf_mountWalkRead (j : MountJob) (bytes : List Byte) (s : State) :
    clockOf (mountWalkRead j bytes s) = clockOf s := by
  simp only [mountWalkRead]
  repeat' split
  all_goals simp

@[simp] theorem clockOf_mountPageRead (bytes : List Byte) (s : State) :
    clockOf (mountPageRead bytes s) = clockOf s := by
  simp only [mountPageRead]
  repeat' split
  all_goals simp

@[simp] theorem clockOf_formatComplete (first : Nat) (s : State) : clockOf (formatComplete first s) = clockOf s := by
  simp [formatComplete]

@[simp] theorem clockOf_formatErased (sector : Nat) (first : Option Nat) (ok : Bool) (s : State) :
    clockOf (formatErased sector first ok s) = clockOf s := by
  simp only [formatErased]
  repeat' split
  all_goals simp

@[simp] theorem clockOf_formatRetired (sector : Nat) (first : Option Nat) (ok : Bool) (s : State) :
    clockOf (formatRetired sector first ok s) = clockOf s := by
  simp only [formatRetired]
  repeat' split
  all_goals simp

@[simp] theorem clockOf_mapErased (start : Nat) (left : List Nat) (ok : Bool) (s : State) :
    clockOf (mapErased start left ok s) = clockOf s := by
  simp only [mapErased]
  repeat' split
  all_goals simp

@[simp] theorem clockOf_mapLoaded (start : Nat) (left : List Nat) (done : Nat) (ok : Bool) (s : State) :
    clockOf (mapLoaded start left done ok s) = clockOf s := by
  simp only [mapLoaded]
  repeat' split
  all_goals simp

@[simp] theorem clockOf_jobTranslate (sector : Nat) (first : Bool) (s : State) :
    clockOf (jobTranslate sector first s).2 = clockOf s := by
  simp only [jobTranslate]
  repeat' split
  all_goals first
    | (simp; done)
    | simp [clockOf_of_translate (by assumption)]

theorem clockOf_of_jobTranslate {sector : Nat} {first : Bool} {s s1 : State} {t : Option Translation}
    (h : jobTranslate sector first s = (t, s1)) : clockOf s1 = clockOf s := by
  rw [← clockOf_jobTranslate sector first s, h]

@[simp] theorem clockOf_jobStep (s : State) : clockOf (jobStep s) = clockOf s := by
  simp only [jobStep]
  repeat' split
  all_goals first
    | (simp; done)
    | simp [clockOf_of_jobTranslate (by assumption)]

@[simp] theorem clockOf_jobAdvance (s : State) : clockOf (jobAdvance s) = clockOf s := by
  simp only [jobAdvance]
  split
  · exact clockOf_repeatStep _ clockOf_jobStep _ _
  · rfl

@[simp] theorem clockOf_jobMapRead (logical : Nat) (entry : BitVec 32) (s : State) :
    clockOf (jobMapRead logical entry s) = clockOf s := by
  simp only [jobMapRead]
  repeat' split
  all_goals simp

@[simp] theorem clockOf_orderMount (tag : Byte) (s : State) : clockOf (orderMount tag s) = clockOf s := by
  simp only [orderMount]
  repeat' split
  all_goals simp

@[simp] theorem clockOf_orderFormat (tag : Byte) (s : State) : clockOf (orderFormat tag s) = clockOf s := by
  simp only [orderFormat]
  repeat' split
  all_goals simp

@[simp] theorem clockOf_orderMapLoad (tag : Byte) (start : Nat) (sectors : List Nat) (s : State) :
    clockOf (orderMapLoad tag start sectors s) = clockOf s := by
  simp only [orderMapLoad]
  repeat' split
  all_goals simp

@[simp] theorem clockOf_orderUnmount (tag : Byte) (s : State) : clockOf (orderUnmount tag s) = clockOf s := by
  simp only [orderUnmount]
  repeat' split
  all_goals simp

@[simp] theorem clockOf_startOp (requester : Option Requester) (op : PortOp) (s : State) :
    clockOf (startOp requester op s) = clockOf s := by
  simp [startOp]

@[simp] theorem clockOf_grantTo (r : Requester) (s : State) : clockOf (grantTo r s) = clockOf s := by
  simp only [grantTo]
  repeat' split
  all_goals simp

@[simp] theorem clockOf_chooseWaiting (s : State) : clockOf (chooseWaiting s).2 = clockOf s := by
  simp only [chooseWaiting]
  repeat' split
  all_goals simp

@[simp] theorem clockOf_grantWriter (op : PortOp) (s : State) : clockOf (grantWriter op s) = clockOf s := by
  simp [grantWriter]

@[simp] theorem clockOf_grantReader (op : PortOp) (s : State) : clockOf (grantReader op s) = clockOf s := by
  simp only [grantReader]
  repeat' split
  all_goals simp

@[simp] theorem clockOf_portFree (s : State) : clockOf (portFree s) = clockOf s := by
  simp [portFree]

@[simp] theorem clockOf_grantStep (s : State) : clockOf (grantStep s) = clockOf s := by
  simp only [grantStep]
  repeat' split
  all_goals first
    | (simp; done)
    | (rename_i h
       have h := congrArg (fun x => clockOf x.2) h
       simp only [clockOf_chooseWaiting] at h
       simp [← h])

@[simp] theorem clockOf_storePass (s : State) : clockOf (storePass s) = clockOf s := by
  simp only [storePass]
  rw [clockOf_repeatStep _ clockOf_grantStep]
  simp

@[simp] theorem clockOf_storeSettle (s : State) : clockOf (storeSettle s) = clockOf s := by
  simp only [storeSettle]
  exact clockOf_repeatStep _ clockOf_storePass _ _

@[simp] theorem clockOf_endOp (s : State) : clockOf (endOp s) = clockOf s := by
  simp [endOp]

/-- The end of an operation leaves the clock when what its requester does leaves it. -/
theorem clockOf_awaited (f : InFlight) (act : State → State) (h : ∀ s, clockOf (act s) = clockOf s) (s : State) :
    clockOf (awaited f act s) = clockOf s := by
  simp only [awaited]
  split
  · simp
  · rw [h]
    simp

@[simp] theorem clockOf_endProgramDone (s : State) : clockOf (endProgramDone s) = clockOf s := by
  simp only [endProgramDone]
  repeat' split
  all_goals first
    | simp
    | exact clockOf_awaited _ _ (fun s => by simp) _

@[simp] theorem clockOf_endProgramFailed (s : State) : clockOf (endProgramFailed s) = clockOf s := by
  simp only [endProgramFailed]
  repeat' split
  all_goals first
    | simp
    | exact clockOf_awaited _ _ (fun s => by simp) _

@[simp] theorem clockOf_endMapProgram (ok : Bool) (s : State) : clockOf (endMapProgram ok s) = clockOf s := by
  simp only [endMapProgram]
  repeat' split
  all_goals first
    | simp
    | exact clockOf_awaited _ _ (fun s => by simp) _

@[simp] theorem clockOf_endErase (ok : Bool) (s : State) : clockOf (endErase ok s) = clockOf s := by
  simp only [endErase]
  repeat' split
  all_goals first
    | simp
    | exact clockOf_awaited _ _ (fun s => by simp) _

@[simp] theorem clockOf_endHeaderRead (header : BitVec 128) (s : State) :
    clockOf (endHeaderRead header s) = clockOf s := by
  simp only [endHeaderRead]
  repeat' split
  all_goals first
    | simp
    | exact clockOf_awaited _ _ (fun s => by simp) _

@[simp] theorem clockOf_strayMapRead (logical : Nat) (entry : BitVec 32) (s : State) :
    clockOf (strayMapRead logical entry s) = clockOf s := by
  simp only [strayMapRead]
  split <;> simp

@[simp] theorem clockOf_endMapRead (entry : BitVec 32) (s : State) : clockOf (endMapRead entry s) = clockOf s := by
  simp only [endMapRead]
  repeat' split
  all_goals simp

@[simp] theorem clockOf_endMountRead (page : BitVec 2048) (s : State) : clockOf (endMountRead page s) = clockOf s := by
  simp only [endMountRead]
  repeat' split
  all_goals first
    | simp
    | exact clockOf_awaited _ _ (fun s => by simp) _

@[simp] theorem clockOf_endPageRead (page : BitVec 2048) (s : State) : clockOf (endPageRead page s) = clockOf s := by
  simp only [endPageRead]
  repeat' split
  all_goals first
    | simp
    | exact clockOf_awaited _ _ (fun s => by simp) _

@[simp] theorem clockOf_endTimeout (s : State) : clockOf (endTimeout s) = clockOf s := by
  simp only [endTimeout]
  repeat' split
  all_goals simp

@[simp] theorem clockOf_liveOff (s : State) : clockOf (liveOff s) = clockOf s := by
  simp [liveOff]

@[simp] theorem clockOf_orderGet (tag : Byte) (codes : List Byte) (s : State) :
    clockOf (orderGet tag codes s) = clockOf s := by
  simp only [orderGet]
  repeat' split
  all_goals simp

@[simp] theorem clockOf_orderStatus (tag : Byte) (s : State) : clockOf (orderStatus tag s) = clockOf s := by
  simp [orderStatus]

@[simp] theorem clockOf_orderAck (tag : Byte) (mask : BitVec 32) (s : State) :
    clockOf (orderAck tag mask s) = clockOf s := by
  simp only [orderAck]
  repeat' split
  all_goals simp

@[simp] theorem clockOf_discardedFrame (bs : List Byte) (s : State) : clockOf (discardedFrame bs s) = clockOf s := by
  simp only [discardedFrame]
  repeat' split
  all_goals simp

@[simp] theorem clockOf_liveTake (s : State) : clockOf (liveTake s) = clockOf s := by
  simp only [liveTake]
  repeat' split
  all_goals simp

@[simp] theorem clockOf_beginFrame (kind : TxKind) (frameKind : Nat) (payload : List Byte) (s : State) :
    clockOf (beginFrame kind frameKind payload s) = clockOf s := by
  simp [beginFrame]

@[simp] theorem clockOf_sendReply (s : State) : clockOf (sendReply s) = clockOf s := by
  simp only [sendReply]
  repeat' split
  all_goals simp

@[simp] theorem clockOf_sendLive (s : State) : clockOf (sendLive s) = clockOf s := by
  simp only [sendLive]
  repeat' split
  all_goals simp

@[simp] theorem clockOf_sendPiece (s : State) : clockOf (sendPiece s) = clockOf s := by
  simp only [sendPiece]
  repeat' split
  all_goals simp

@[simp] theorem clockOf_sendSamples (s : State) : clockOf (sendSamples s) = clockOf s := by
  simp [sendSamples]

@[simp] theorem clockOf_send (c : Category) (s : State) : clockOf (send c s) = clockOf s := by
  simp only [send]
  repeat' split
  all_goals simp

@[simp] theorem clockOf_sendFirst (s : State) : clockOf (sendFirst s) = clockOf s := by
  simp only [sendFirst]
  repeat' split
  all_goals simp

@[simp] theorem clockOf_txSettle (s : State) : clockOf (txSettle s) = clockOf s := by
  simp only [txSettle]
  repeat' split
  all_goals simp

@[simp] theorem clockOf_liveSent (sequence : Nat) (last : Bool) (s : State) :
    clockOf (liveSent sequence last s) = clockOf s := by
  simp only [liveSent]
  repeat' split
  all_goals simp

@[simp] theorem clockOf_transmitEnd (s : State) : clockOf (transmitEnd s) = clockOf s := by
  simp only [transmitEnd]
  repeat' split
  all_goals simp

@[simp] theorem clockOf_linkRises (s : State) : clockOf (linkRises s) = clockOf s := by
  simp only [linkRises]
  repeat' split
  all_goals simp

@[simp] theorem clockOf_linkFalls (s : State) : clockOf (linkFalls s) = clockOf s := by
  simp only [linkFalls]
  repeat' split
  all_goals simp

@[simp] theorem clockOf_quiesce (s : State) : clockOf (quiesce s) = clockOf s := by
  simp [quiesce]

@[simp] theorem clockOf_flushAge (s : State) : clockOf (flushAge s) = clockOf s := by
  simp only [flushAge]
  repeat' split
  all_goals simp

@[simp] theorem clockOf_runTimers (s : State) : clockOf (runTimers s) = clockOf s := by
  simp [runTimers]

end Sys2Proof.Machine
end

