-- ==== Sys2Proof/Laws/Lane.lean ====
section
/-! SUPPORT. The sample path, from the tracker to the forwarder, leaves the lane, the monitor and the time as they are. -/

namespace Sys2Proof.Machine

/-- Lane, monitor and time base. -/
def laneOf (s : State) : LR × MM × TB := (s.lr, s.mm, s.tb)

/-- What leaves the clock leaves the lane. -/
theorem laneOf_of_clockOf {s t : State} (h : clockOf s = clockOf t) : laneOf s = laneOf t := by
  simp only [clockOf, Prod.mk.injEq] at h
  simp [laneOf, h]

@[simp] theorem laneOf_setCt (s : State) (x : CT) : laneOf (s.setCt x) = laneOf s := rfl

@[simp] theorem laneOf_State_updCt (s : State) (f : CT → CT) : laneOf (s.updCt f) = laneOf s := by
  simp [State.updCt]

@[simp] theorem laneOf_place (position : Nat) (kind : BoundaryKind) (k : Nat) (s : State) :
    laneOf (place position kind k s).2 = laneOf s := by
  simp only [place]
  split <;> (refine (laneOf_of_clockOf (clockOf_boundaryWork _ _ _)).trans ?_; simp)

@[simp] theorem laneOf_placeDue (due k : Nat) (s : State) : laneOf (placeDue due k s).2 = laneOf s := by
  simp only [placeDue]
  repeat' split
  all_goals simp

@[simp] theorem laneOf_placeLocked (b : Boundary) (limit k : Nat) (crossing : Option Nat) (s : State) :
    laneOf (placeLocked b limit k crossing s).2 = laneOf s := by
  simp only [placeLocked]
  repeat' split
  all_goals simp

@[simp] theorem laneOf_placement (c : CondSet) (s : State) : laneOf (placement c s).2 = laneOf s := by
  simp only [placement]
  repeat' split
  all_goals simp

@[simp] theorem laneOf_refChanged (changed : Bool) (s : State) : laneOf (refChanged changed s) = laneOf s := by
  exact laneOf_of_clockOf (by simp)

@[simp] theorem laneOf_readyTest (s : State) : laneOf (readyTest s) = laneOf s := by
  exact laneOf_of_clockOf (by simp)

@[simp] theorem laneOf_draw (s : State) : laneOf (draw s).2 = laneOf s := by
  exact laneOf_of_clockOf (by simp)

@[simp] theorem laneOf_enterLocked (order : LockOrder) (s : State) : laneOf (enterLocked order s) = laneOf s := by
  cases order <;> simp [enterLocked]

@[simp] theorem laneOf_lock (c : CondSet) (position : Nat) (s : State) :
    laneOf (lock c position s).2 = laneOf s := by
  simp only [lock]
  repeat' split
  all_goals simp

@[simp] theorem laneOf_acquisition (c : CondSet) (s : State) : laneOf (acquisition c s).2 = laneOf s := by
  simp only [acquisition]
  repeat' split
  all_goals simp

@[simp] theorem laneOf_decideAcquire (s : State) (values : PerChannel (Option Nat)) (candidate : Phase) :
    laneOf (decideAcquire s values candidate) = laneOf s := by
  simp only [decideAcquire]
  repeat' split
  all_goals simp

@[simp] theorem laneOf_revert (s : State) (values : PerChannel (Option Nat)) (reference : Phase) :
    laneOf (revert s values reference) = laneOf s := by
  simp only [revert]
  repeat' split
  all_goals simp

@[simp] theorem laneOf_decideLocked (s : State) (values : PerChannel (Option Nat)) (reference : Phase) :
    laneOf (decideLocked s values reference) = laneOf s := by
  simp only [decideLocked]
  repeat' split
  all_goals simp

@[simp] theorem laneOf_decideReference (values : PerChannel (Option Nat)) (s : State) :
    laneOf (decideReference values s) = laneOf s := by
  simp only [decideReference]
  repeat' split
  all_goals simp

@[simp] theorem laneOf_decideAt (p : Placed) (s : State) : laneOf (decideAt p s) = laneOf s := by
  simp only [decideAt]
  split
  · refine (laneOf_of_clockOf (clockOf_latchSnapshot _ _ _)).trans ?_
    simp
  · rfl

@[simp] theorem laneOf_trackTake (c : CondSet) (s : State) : laneOf (trackTake c s) = laneOf s := by
  simp only [trackTake]
  simp

@[simp] theorem laneOf_addSet (c : CondSet) (s : State) : laneOf (addSet c s) = laneOf s := by
  exact laneOf_of_clockOf (by simp)

@[simp] theorem laneOf_captureTake (c : CondSet) (s : State) : laneOf (captureTake c s) = laneOf s := by
  exact laneOf_of_clockOf (by simp)

@[simp] theorem laneOf_forwardHeld (collecting : Bool) (newest : CondSet) (s : State) :
    laneOf (forwardHeld collecting newest s) = laneOf s := by
  exact laneOf_of_clockOf (by simp)

@[simp] theorem laneOf_takeSet (k : Nat) (frames : PerModule (Option LaneFrame)) (s : State) :
    laneOf (takeSet k frames s) = laneOf s := by
  simp [takeSet]

end Sys2Proof.Machine
end

