-- ==== Sys2Proof/Laws/Orders.lean ====
section
/-! SUPPORT. The parts of an order's layout read back as they were written (section 12.4), and an order that arrives at a
ready part is dispatched at once. -/

namespace Sys2Proof.Machine

/-- A little-endian field has its width. -/
@[simp] theorem leBytes_length (w n : Nat) : (leBytes w n).length = w := by
  induction w generalizing n with
  | zero => rfl
  | succ w ih => simp [leBytes, ih]

/-- A number that fits its field reads back (R199). -/
theorem leNat_leBytes (w n : Nat) (h : n < 256 ^ w) : leNat (leBytes w n) = n := by
  induction w generalizing n with
  | zero => simp at h; simp [leBytes, leNat, h]
  | succ w ih =>
    have : n / 256 < 256 ^ w := by rw [Nat.div_lt_iff_lt_mul (by omega)]; rw [Nat.pow_succ] at h; omega
    simp [leBytes, leNat, ih _ this, byteOf]; omega

/-- A byte as a field of one byte. -/
theorem leBytes_one (x : Byte) : leBytes 1 x.toNat = [x] := by simp [leBytes, byteOf]
/-- A byte from its number. -/
theorem byteOf_toNat (x : Byte) : byteOf x.toNat = x := by simp [byteOf]
/-- A count below 256 as a byte. -/
theorem byteOf_small (n : Nat) (h : n < 256) : (byteOf n).toNat = n := by simp [byteOf]; omega

/-- Entries of one width come apart as they were put together. -/
theorem pieces_flatMap {α} (w : Nat) (f : α → List Byte) (hf : ∀ a, (f a).length = w) (l : List α) :
    pieces w l.length (l.flatMap f) = some (l.map f) := by
  induction l with
  | nil => simp [pieces]
  | cons a t ih =>
    simp only [List.length_cons, List.flatMap_cons, List.map_cons, pieces]
    have h1 : ¬ ((f a ++ t.flatMap f).length < w) := by simp [hf]
    rw [if_neg h1]
    have h2 : (f a ++ t.flatMap f).drop w = t.flatMap f := by rw [← hf a]; simp
    have h3 : (f a ++ t.flatMap f).take w = f a := by rw [← hf a]; simp
    rw [h2, h3, ih]; rfl

/-- A counted list of entries of one width reads back when its count is in range. -/
theorem countedPieces_flatMap {α} (w most : Nat) (f : α → List Byte) (hf : ∀ a, (f a).length = w) (l : List α)
   (h1 : 1 ≤ l.length) (h2 : l.length ≤ most) (h3 : most < 256) :
    countedPieces w most (counted l.length (l.flatMap f)) = some (l.map f) := by
  simp only [counted, leBytes, List.cons_append, List.nil_append, countedPieces]
  rw [byteOf_small _ (by omega), if_pos ⟨h1, h2⟩, pieces_flatMap w f hf]

/-- A 2-byte field reads back. -/
theorem fieldVec16 (x : BitVec 16) : fieldVec 16 (leBytes 2 x.toNat) 0 2 = x := by
  simp only [fieldVec, fieldNat, field, List.drop_zero]
  rw [List.take_of_length_le (by simp), leNat_leBytes _ _ (by have := x.isLt; omega)]
  simp
/-- A 4-byte field reads back. -/
theorem fieldVec32 (x : BitVec 32) : fieldVec 32 (leBytes 4 x.toNat) 0 4 = x := by
  simp only [fieldVec, fieldNat, field, List.drop_zero]
  rw [List.take_of_length_le (by simp), leNat_leBytes _ _ (by have := x.isLt; omega)]
  simp
/-- A 2-byte number reads back. -/
theorem leNat_field16 (x : BitVec 16) : leNat (leBytes 2 x.toNat) = x.toNat := leNat_leBytes _ _ (by have := x.isLt; omega)
/-- A 4-byte number reads back. -/
theorem leNat_field32 (x : BitVec 32) : leNat (leBytes 4 x.toNat) = x.toNat := leNat_leBytes _ _ (by have := x.isLt; omega)

/-- Entries that each read back read back together. -/
theorem allSome_map {α β} (f : α → β) (g : β → Option α) (l : List α) (h : ∀ a ∈ l, g (f a) = some a) :
    allSome ((l.map f).map g) = some l := by
  induction l with
  | nil => rfl
  | cons a t ih =>
    simp only [List.map_cons, h a (by simp), allSome, ih (fun b hb => h b (by simp [hb]))]
    rfl

/-- A CHANNEL entry inside its codes reads back. -/
theorem readChannelArg_bytes (a : ChannelArg) (h : a.fits = true) : readChannelArg (ChannelArg.bytes a) = some a := by
  simp [ChannelArg.fits] at h
  have g := leNat_field16 a.gain
  have o := leNat_field16 a.offset
  simp only [leBytes] at g o
  have e1 : fieldVec 16 (ChannelArg.bytes a) 4 2 = a.gain := by
    simp only [fieldVec, fieldNat, field, ChannelArg.bytes, leBytes]; simp [g]
  have e2 : fieldVec 16 (ChannelArg.bytes a) 6 2 = a.offset := by
    simp only [fieldVec, fieldNat, field, ChannelArg.bytes, leBytes]; simp [o]
  simp only [readChannelArg, e1, e2]
  simp [byteAt, ChannelArg.bytes, h]

/-- A PASS entry inside its codes reads back. -/
theorem readPassArg_bytes (a : PassArg) (h : a.fits = true) : readPassArg (PassArg.bytes a) = some a := by
  simp [PassArg.fits] at h
  simp [readPassArg, PassArg.bytes, byteAt, h]

/-- A LIMIT entry reads back. -/
theorem readLimitArg_bytes (a : LimitArg) : readLimitArg (LimitArg.bytes a) = a := by
  have g1 := leNat_field16 a.dipStart
  have g2 := leNat_field16 a.intrStart
  have g3 := leNat_field16 a.swellStart
  have g4 := leNat_field16 a.hyst
  have g5 := leNat_field16 a.bandLow
  have g6 := leNat_field16 a.bandHigh
  simp only [leBytes] at *
  cases a
  simp only [readLimitArg, LimitArg.bytes, byteAt, fieldVec, fieldNat, field, leBytes, List.cons_append, List.nil_append, List.drop_succ_cons, List.drop_zero, List.take_succ_cons, List.take_zero, List.headD_cons, g1,g2,g3,g4,g5,g6]
  simp

/-- GRID lists inside their fields read back. -/
theorem readGridArgs_bytes (ls : List GridArg) (h : ∀ a ∈ ls, a.fits = true) : readGridArgs ls.length (ls.flatMap GridArg.bytes) = some ls := by
  induction ls with
  | nil => simp [readGridArgs]
  | cons a t ih =>
    have ha := h a (by simp)
    simp only [GridArg.fits, Bool.and_eq_true, countIn, decide_eq_true_eq] at ha
    obtain ⟨⟨h1, h2⟩, h3⟩ := ha
    have hw : ∀ e ∈ a.entries, (leBytes (gridWidth a.list) e.toNat).length = gridWidth a.list := by simp
    simp only [List.length_cons, List.flatMap_cons, GridArg.bytes, leBytes, List.cons_append, List.nil_append, List.append_assoc]
    simp only [readGridArgs]
    rw [byteOf_small _ (by omega)]
    have hl : (a.entries.flatMap fun e => leBytes (gridWidth a.list) e.toNat).length = gridWidth a.list * a.entries.length := by
      simp [List.length_flatMap, Nat.mul_comm]
    have ht : ((a.entries.flatMap fun e => leBytes (gridWidth a.list) e.toNat) ++ t.flatMap GridArg.bytes).take (gridWidth a.list * a.entries.length) = a.entries.flatMap fun e => leBytes (gridWidth a.list) e.toNat := by
      rw [← hl]; simp
    have hd : ((a.entries.flatMap fun e => leBytes (gridWidth a.list) e.toNat) ++ t.flatMap GridArg.bytes).drop (gridWidth a.list * a.entries.length) = t.flatMap GridArg.bytes := by
      rw [← hl]; simp
    rw [ht, hd, pieces_flatMap _ _ (by simp), ih (fun b hb => h b (by simp [hb]))]
    rw [if_pos ⟨h1, by simp only [List.length_append, hl]; omega⟩]
    simp only [List.map_map]
    congr 2
    have : List.map ((fun e => BitVec.ofNat 32 (leNat e)) ∘ fun e => leBytes (gridWidth a.list) (BitVec.toNat e)) a.entries = a.entries := by
      conv_rhs => rw [← List.map_id a.entries]
      apply List.map_congr_left
      intro e he
      have : e.toNat < 256 ^ gridWidth a.list := by
        simp only [gridWidth]
        by_cases h2 : a.list = 2
        · simp [h2]; exact e.isLt
        · simp [h2] at h3 ⊢; rcases h3 with h3 | h3; exact absurd h3 h2; rw [if_neg (by simpa using h2)]; exact h3 e he
      simp [leNat_leBytes _ _ this]
    rw [this]

/-- An empty order buffer emptied. -/
theorem setOrders_self {s : State} (h : s.sl.orders = []) : s.setSl { s.sl with orders := [] } = s := by
  cases s; rename_i sl _ _; cases sl; simp_all [State.setSl]

/-- With no order waiting and room for replies, an order is dispatched at its arrival (R186, R187). -/
theorem submit_ready {s : State} {i : Instr} {o : Order} (hr : Ready s) (ho : Machine.orderOf i = some o) :
    submit i s = dispatch o s := by
  simp only [submit, ho, submitOrder, hr.1]
  simp only [List.length_nil, Nat.zero_lt_succ, if_true, List.nil_append, dispatchFront]
  have : mayDispatch (s.setSl { s.sl with orders := [o] }) = true := by
    have := hr.2
    exact decide_eq_true this
  simp only [show (s.setSl { s.sl with orders := [o] }).sl.orders = [o] from rfl, this, if_true]
  congr 1
  exact setOrders_self hr.1

end Sys2Proof.Machine
end

