-- ==== Sys2Proof/Laws/Replies.lean ====
section
/-! SUPPORT. What the shared operations over replies, flags and records can do, said once for each. -/

namespace Sys2Proof.Machine

/-! ## Replies (R188) -/

/-- While the link is UP a reply takes its place at the back of the queue. -/
theorem formReply_up {s : State} (h : s.sl.linkUp = true) (r : Reply) :
    formReply r s = s.setSl { s.sl with replies := s.sl.replies ++ [r] } := by simp [formReply, h]

/-- While the link is DOWN a reply is discarded as it is formed. -/
theorem formReply_down {s : State} (h : s.sl.linkUp = false) (r : Reply) : formReply r s = s := by
  simp [formReply, h]

/-- A reply changes the reply queue alone. -/
theorem formReply_spec (r : Reply) (s : State) :
    ∃ l, formReply r s = s.setSl { s.sl with replies := l } ∧ (l = s.sl.replies ∨ l = s.sl.replies ++ [r]) := by
  cases h : s.sl.linkUp
  · exact ⟨s.sl.replies, formReply_down h r, .inl rfl⟩
  · exact ⟨_, formReply_up h r, .inr rfl⟩

/-- An order answered OK changes the reply queue alone. -/
theorem answerOk_spec (tag : Byte) (kind : Nat) (body : List Byte) (s : State) :
    ∃ l, answerOk tag kind body s = s.setSl { s.sl with replies := l } ∧ s.sl.replies <+: l := by
  obtain ⟨l, h, rfl | rfl⟩ := formReply_spec
    { tag := tag, kind := byteOf kind, status := .ok, reason := .none, cancelled := false, body := body } s
  · exact ⟨_, h, List.prefix_refl _⟩
  · exact ⟨_, h, List.prefix_append _ _⟩

/-- An order refused changes the reply queue alone. -/
theorem refuse_spec (tag : Byte) (kind : Nat) (reason : Reason) (s : State) :
    ∃ l, refuse tag kind reason s = s.setSl { s.sl with replies := l } ∧ s.sl.replies <+: l := by
  obtain ⟨l, h, rfl | rfl⟩ := formReply_spec
    { tag := tag, kind := byteOf kind, status := .refused, reason := reason, cancelled := false,
      body := earlyBody kind } s
  · exact ⟨_, h, List.prefix_refl _⟩
  · exact ⟨_, h, List.prefix_append _ _⟩

/-- An order accepted reserves one place for its final reply (R187). -/
theorem accept_spec (tag : Byte) (kind : Nat) (s : State) :
    ∃ l, accept tag kind s = s.setSl { s.sl with replies := l, reserved := s.sl.reserved + 1 } ∧
      s.sl.replies <+: l := by
  obtain ⟨l, h, rfl | rfl⟩ := formReply_spec
    { tag := tag, kind := byteOf kind, status := .accepted, reason := .none, cancelled := false,
      body := earlyBody kind } s
  · exact ⟨s.sl.replies, by simp only [accept, h]; rfl, List.prefix_refl _⟩
  · exact ⟨_, by simp only [accept, h]; rfl, List.prefix_append _ _⟩

/-- An order accepted changes the Station Link Interface alone: ACCEPTED at the back of the reply queue while the link is UP,
and one place more reserved (R187, R188). -/
theorem accept_eq (tag : Byte) (kind : Nat) (s : State) :
    accept tag kind s =
      s.setSl (acceptedLink { plainReply tag (byteOf kind) .accepted .none with body := earlyBody kind } s) := by
  cases h : s.sl.linkUp <;> simp [accept, formReply, acceptedLink, plainReply, State.setSl, h]

/-- A final reply releases one reserved place (R188). -/
theorem finalReply_spec (r : Reply) (s : State) :
    ∃ l, finalReply r s = s.setSl { s.sl with replies := l, reserved := s.sl.reserved - 1 } ∧
      (l = s.sl.replies ∨ l = s.sl.replies ++ [r]) := by
  obtain ⟨l, h, hl⟩ := formReply_spec r (s.setSl { s.sl with reserved := s.sl.reserved - 1 })
  exact ⟨l, h, hl⟩

/-! ## Records (R136, R137) -/

/-- A record handed while no number can be taken counts as not created, and nothing else changes (R136). -/
theorem handRecord_notCreated {s : State} (h : recordNumber s = none) (body : RecordBody) :
    handRecord body s =
      (.notCreated, s.setRq { s.rq with notCreated := satSucc 65535 s.rq.notCreated }) := by
  simp [handRecord, h]

/-- A numbered record is entered or lost under its own number (R136, R137). -/
theorem handRecord_numbered {s : State} {n : Nat} (h : recordNumber s = some n) (body : RecordBody) :
    (handRecord body s).1 = if hasSlot body.isEnd s.rq.entries then .entered n else .lost n := by
  simp only [handRecord, h]
  split <;> simp_all

/-- A number is taken only from a store that is MOUNTED or FAULTED (R136). -/
theorem recordNumber_some {s : State} {n : Nat} (h : recordNumber s = some n) :
    (s.sr.state = .mounted ∨ s.sr.state = .faulted) ∧ s.rq.next = .number n := by
  unfold recordNumber at h
  split at h <;> simp_all

/-! ## Draws -/

/-- A draw takes the next number and moves the count on. -/
theorem draw_spec (s : State) : draw s = (s.draws, s.setDraws (s.draws + 1)) := rfl

end Sys2Proof.Machine
end

