-- ==== Sys2Proof/Laws/Waiting.lean ====
section
/-! SUPPORT. Only an order that arrives or is dispatched changes the orders that wait, and only the link reports change the
link state: every other operation leaves both, and the commands that wait, as they are. -/

namespace Sys2Proof.Machine

/-- The orders that wait, the link state and the commands that wait. -/
def waitOf (s : State) : List Order × Bool × List Sys2Proof.Instr := (s.sl.orders, s.sl.linkUp, s.pending)

@[simp] theorem waitOf_setLr (s : State) (x : LR) : waitOf (s.setLr x) = waitOf s := rfl
@[simp] theorem waitOf_setMm (s : State) (x : MM) : waitOf (s.setMm x) = waitOf s := rfl
@[simp] theorem waitOf_setCc (s : State) (x : CC) : waitOf (s.setCc x) = waitOf s := rfl
@[simp] theorem waitOf_setCt (s : State) (x : CT) : waitOf (s.setCt x) = waitOf s := rfl
@[simp] theorem waitOf_setMu (s : State) (x : MU) : waitOf (s.setMu x) = waitOf s := rfl
@[simp] theorem waitOf_setEd (s : State) (x : ED) : waitOf (s.setEd x) = waitOf s := rfl
@[simp] theorem waitOf_setCu (s : State) (x : CU) : waitOf (s.setCu x) = waitOf s := rfl
@[simp] theorem waitOf_setTb (s : State) (x : TB) : waitOf (s.setTb x) = waitOf s := rfl
@[simp] theorem waitOf_setIa (s : State) (x : IA) : waitOf (s.setIa x) = waitOf s := rfl
@[simp] theorem waitOf_setRq (s : State) (x : RQ) : waitOf (s.setRq x) = waitOf s := rfl
@[simp] theorem waitOf_setSw (s : State) (x : SW) : waitOf (s.setSw x) = waitOf s := rfl
@[simp] theorem waitOf_setCache (s : State) (x : List Translation) : waitOf (s.setCache x) = waitOf s := rfl
@[simp] theorem waitOf_setSr (s : State) (x : SR) : waitOf (s.setSr x) = waitOf s := rfl
@[simp] theorem waitOf_setMb (s : State) (x : MB) : waitOf (s.setMb x) = waitOf s := rfl
@[simp] theorem waitOf_setDraws (s : State) (x : Nat) : waitOf (s.setDraws x) = waitOf s := rfl

/-- A change of the link interface, seen in what waits. -/
@[simp] theorem waitOf_setSl (s : State) (x : SL) : waitOf (s.setSl x) = (x.orders, x.linkUp, s.pending) := rfl

/-- A fold of steps that leave what waits leaves what waits. -/
theorem waitOf_foldl {α : Type} (f : State → α → State) (h : ∀ s a, waitOf (f s a) = waitOf s) (l : List α)
    (s : State) : waitOf (l.foldl f s) = waitOf s := by
  induction l generalizing s with
  | nil => rfl
  | cons a t ih => rw [List.foldl_cons, ih, h]

/-- A step repeated leaves what waits when the step does. -/
theorem waitOf_repeatStep (f : State → State) (h : ∀ s, waitOf (f s) = waitOf s) (n : Nat) (s : State) :
    waitOf (repeatStep f n s) = waitOf s := by
  induction n generalizing s with
  | zero => rfl
  | succ n ih => rw [repeatStep, ih, h]

/-- What waits, block by block. -/
theorem waitOf_eq (s : State) : (s.sl.orders, s.sl.linkUp, s.pending) = waitOf s := rfl

@[simp] theorem waitOf_State_setModule (s : State) (m : Fin 4) (x : ModMon) :
    waitOf (s.setModule m x) = waitOf s := by
  simp [State.setModule]

@[simp] theorem waitOf_latch (f : Flag) (s : State) : waitOf (latch f s) = waitOf s := by
  simp [latch, waitOf_eq]

@[simp] theorem waitOf_draw (s : State) : waitOf (draw s).2 = waitOf s := by
  simp [draw]

@[simp] theorem waitOf_formReply (r : Reply) (s : State) : waitOf (formReply r s) = waitOf s := by
  simp only [formReply]
  repeat' split
  all_goals simp [waitOf_eq]

@[simp] theorem waitOf_answerOk (tag : Byte) (kind : Nat) (body : List Byte) (s : State) :
    waitOf (answerOk tag kind body s) = waitOf s := by
  simp [answerOk]

@[simp] theorem waitOf_refuse (tag : Byte) (kind : Nat) (reason : Reason) (s : State) :
    waitOf (refuse tag kind reason s) = waitOf s := by
  simp [refuse]

@[simp] theorem waitOf_accept (tag : Byte) (kind : Nat) (s : State) : waitOf (accept tag kind s) = waitOf s := by
  simp [accept, waitOf_eq]

@[simp] theorem waitOf_finalReply (r : Reply) (s : State) : waitOf (finalReply r s) = waitOf s := by
  simp [finalReply, waitOf_eq]

@[simp] theorem waitOf_replyDone (tag : Byte) (kind : Nat) (cancelled : Bool) (body : List Byte) (s : State) :
    waitOf (replyDone tag kind cancelled body s) = waitOf s := by
  simp [replyDone]

@[simp] theorem waitOf_replyFailed (tag : Byte) (kind : Nat) (reason : Reason) (body : List Byte) (s : State) :
    waitOf (replyFailed tag kind reason body s) = waitOf s := by
  simp [replyFailed]

@[simp] theorem waitOf_applyResult (m : Fin 4) (r : CalResult) (s : State) :
    waitOf (applyResult m r s) = waitOf s := by
  simp [applyResult]

@[simp] theorem waitOf_applyPendingCal (s : State) : waitOf (applyPendingCal s) = waitOf s := by
  simp only [applyPendingCal]
  refine waitOf_foldl _ (fun s a => ?_) _ _
  split <;> simp

@[simp] theorem waitOf_deliverResult (m : Fin 4) (r : CalResult) (s : State) :
    waitOf (deliverResult m r s) = waitOf s := by
  simp only [deliverResult]
  repeat' split
  all_goals simp

@[simp] theorem waitOf_markStale (m : Fin 4) (s : State) : waitOf (markStale m s) = waitOf s := by
  simp [markStale]

@[simp] theorem waitOf_pushFrame (s : State) (f : FwdFrame) : waitOf (pushFrame s f) = waitOf s := by
  simp only [pushFrame]
  repeat' split
  all_goals simp

@[simp] theorem waitOf_forward (collecting : Bool) (c : CondSet) (s : State) :
    waitOf (forward collecting c s) = waitOf s := by
  simp only [forward]
  split
  · exact waitOf_foldl _ (fun s a => by simp) _ _
  · rfl

@[simp] theorem waitOf_forwardHeld (collecting : Bool) (newest : CondSet) (s : State) :
    waitOf (forwardHeld collecting newest s) = waitOf s := by
  simp only [forwardHeld]
  repeat' split
  all_goals simp

@[simp] theorem waitOf_moduleAfterLoad (before : PerChannel ChanEntry) (s : State) (m : Fin 4) :
    waitOf (moduleAfterLoad before s m) = waitOf s := by
  simp only [moduleAfterLoad]
  repeat' split
  all_goals simp

@[simp] theorem waitOf_orderLoadChannel (tag : Byte) (entries : List ChannelArg) (s : State) :
    waitOf (orderLoadChannel tag entries s) = waitOf s := by
  simp only [orderLoadChannel]
  repeat' split
  all_goals first
    | (simp; done)
    | (simp only [waitOf_answerOk]
       rw [waitOf_foldl _ (fun s a => by simp)]
       simp)

@[simp] theorem waitOf_orderLoadPass (tag : Byte) (entries : List PassArg) (s : State) :
    waitOf (orderLoadPass tag entries s) = waitOf s := by
  simp only [orderLoadPass]
  repeat' split
  all_goals simp

@[simp] theorem waitOf_restartConditioner (s : State) : waitOf (restartConditioner s) = waitOf s := by
  simp [restartConditioner]

@[simp] theorem waitOf_State_updMb (s : State) (f : MB → MB) : waitOf (s.updMb f) = waitOf s := by
  exact waitOf_setMb _ _

@[simp] theorem waitOf_requestFetch (m : Fin 4) (forced : Bool) (s : State) :
    waitOf (requestFetch m forced s) = waitOf s := by
  simp [requestFetch]

@[simp] theorem waitOf_mapEntry (m : Fin 4) (f : FetchEntry → FetchEntry) (s : State) :
    waitOf (mapEntry m f s) = waitOf s := by
  simp [mapEntry]

@[simp] theorem waitOf_dropEntry (m : Fin 4) (s : State) : waitOf (dropEntry m s) = waitOf s := by
  simp [dropEntry]

@[simp] theorem waitOf_afterTransaction (s : State) : waitOf (afterTransaction s) = waitOf s := by
  simp only [afterTransaction]
  repeat' split
  all_goals simp

@[simp] theorem waitOf_endTransaction (state : BusState) (s : State) :
    waitOf (endTransaction state s) = waitOf s := by
  simp [endTransaction]

@[simp] theorem waitOf_reportWrite (address offset acked : Nat) (s : State) :
    waitOf (reportWrite address offset acked s) = waitOf s := by
  simp only [reportWrite]
  repeat' split
  all_goals simp

@[simp] theorem waitOf_failStation (tag : Byte) (kind : Nat) (reason : Reason) (cancelled : Bool) (s : State) :
    waitOf (failStation tag kind reason cancelled s) = waitOf s := by
  simp [failStation]

@[simp] theorem waitOf_failFetchTag (m : Fin 4) (reason : Reason) (cancelled : Bool) (s : State) :
    waitOf (failFetchTag m reason cancelled s) = waitOf s := by
  simp only [failFetchTag]
  repeat' split
  all_goals simp

@[simp] theorem waitOf_failTransaction (reason : Reason) (cancelled : Bool) (acked : Nat) (s : State) :
    waitOf (failTransaction reason cancelled acked s) = waitOf s := by
  simp only [failTransaction]
  repeat' split
  all_goals simp

@[simp] theorem waitOf_hang (acked : Nat) (s : State) : waitOf (hang acked s) = waitOf s := by
  simp [hang]

@[simp] theorem waitOf_beginTransaction (t : Transaction) (s : State) :
    waitOf (beginTransaction t s) = waitOf s := by
  simp only [beginTransaction]
  repeat' split
  all_goals simp

@[simp] theorem waitOf_busSettle (s : State) : waitOf (busSettle s) = waitOf s := by
  simp only [busSettle]
  repeat' split
  all_goals simp

@[simp] theorem waitOf_fetchDone (m : Fin 4) (bs : List Byte) (s : State) :
    waitOf (fetchDone m bs s) = waitOf s := by
  simp only [fetchDone]
  repeat' split
  all_goals simp

@[simp] theorem waitOf_fetchNoAck (m : Fin 4) (s : State) : waitOf (fetchNoAck m s) = waitOf s := by
  simp only [fetchNoAck]
  repeat' split
  all_goals simp

@[simp] theorem waitOf_endFetch (bs : List Byte) (s : State) : waitOf (endFetch bs s) = waitOf s := by
  simp only [endFetch]
  repeat' split
  all_goals simp

@[simp] theorem waitOf_endNoAck (acked : Nat) (s : State) : waitOf (endNoAck acked s) = waitOf s := by
  simp only [endNoAck]
  repeat' split
  all_goals simp

@[simp] theorem waitOf_endRead (bs : List Byte) (s : State) : waitOf (endRead bs s) = waitOf s := by
  simp only [endRead]
  repeat' split
  all_goals simp

@[simp] theorem waitOf_endWrite (s : State) : waitOf (endWrite s) = waitOf s := by
  simp only [endWrite]
  repeat' split
  all_goals simp

@[simp] theorem waitOf_endRecovery (released : Bool) (s : State) : waitOf (endRecovery released s) = waitOf s := by
  simp only [endRecovery]
  repeat' split
  all_goals simp

@[simp] theorem waitOf_clockHeld (acked : Nat) (s : State) : waitOf (clockHeld acked s) = waitOf s := by
  simp only [clockHeld]
  repeat' split
  all_goals simp

@[simp] theorem waitOf_endCut (acked : Nat) (s : State) : waitOf (endCut acked s) = waitOf s := by
  simp only [endCut]
  repeat' split
  all_goals simp

@[simp] theorem waitOf_endHold (m : Fin 4) (s : State) : waitOf (endHold m s) = waitOf s := by
  simp [endHold]

@[simp] theorem waitOf_restartBus (s : State) : waitOf (restartBus s) = waitOf s := by
  simp [restartBus]

@[simp] theorem waitOf_orderModuleRead (tag : Byte) (address offset count : Nat) (s : State) :
    waitOf (orderModuleRead tag address offset count s) = waitOf s := by
  simp only [orderModuleRead]
  repeat' split
  all_goals simp

@[simp] theorem waitOf_orderModuleWrite (tag : Byte) (address offset : Nat) (data : List Byte) (s : State) :
    waitOf (orderModuleWrite tag address offset data s) = waitOf s := by
  simp only [orderModuleWrite]
  repeat' split
  all_goals simp

@[simp] theorem waitOf_orderModuleFetch (tag : Byte) (module : Nat) (s : State) :
    waitOf (orderModuleFetch tag module s) = waitOf s := by
  simp only [orderModuleFetch]
  repeat' split
  all_goals simp

@[simp] theorem waitOf_orderModuleAbort (tag : Byte) (s : State) : waitOf (orderModuleAbort tag s) = waitOf s := by
  simp only [orderModuleAbort]
  repeat' split
  all_goals simp

@[simp] theorem waitOf_ownerSet (s : State) : waitOf (ownerSet s) = waitOf s := by
  simp only [ownerSet]
  repeat' split
  all_goals simp

@[simp] theorem waitOf_releaseCapture (s : State) : waitOf (releaseCapture s) = waitOf s := by
  simp only [releaseCapture]
  repeat' split
  all_goals simp

@[simp] theorem waitOf_departed (s : State) (e : Entry) : waitOf (departed s e) = waitOf s := by
  simp only [departed]
  repeat' split
  all_goals simp

@[simp] theorem waitOf_sweep (s : State) : waitOf (sweep s) = waitOf s := by
  simp only [sweep]
  rw [waitOf_foldl _ (fun s a => by simp)]
  simp

@[simp] theorem waitOf_markAllStored (s : State) : waitOf (markAllStored s) = waitOf s := by
  simp [markAllStored]

@[simp] theorem waitOf_markAllEmitted (s : State) : waitOf (markAllEmitted s) = waitOf s := by
  simp [markAllEmitted]

@[simp] theorem waitOf_markEmitted (sequence : Nat) (s : State) : waitOf (markEmitted sequence s) = waitOf s := by
  simp [markEmitted]

@[simp] theorem waitOf_countLost (n : Nat) (s : State) : waitOf (countLost n s) = waitOf s := by
  simp only [countLost]
  repeat' split
  all_goals simp

@[simp] theorem waitOf_handRecord (body : RecordBody) (s : State) : waitOf (handRecord body s).2 = waitOf s := by
  simp only [handRecord]
  repeat' split
  all_goals simp

@[simp] theorem waitOf_discardEntries (s : State) : waitOf (discardEntries s) = waitOf s := by
  simp only [discardEntries]
  repeat' split
  all_goals simp

@[simp] theorem waitOf_takeSequence (found : NextSeq) (s : State) : waitOf (takeSequence found s) = waitOf s := by
  simp only [takeSequence]
  repeat' split
  all_goals simp

@[simp] theorem waitOf_settingsRecord (cause : SettingsCause) (applied : BitVec 8) (s : State) :
    waitOf (settingsRecord cause applied s) = waitOf s := by
  simp [settingsRecord]

@[simp] theorem waitOf_placePending (s : State) : waitOf (placePending s) = waitOf s := by
  simp [placePending, waitOf_eq]

@[simp] theorem waitOf_applyPending (cause : SettingsCause) (s : State) :
    waitOf (applyPending cause s) = waitOf s := by
  simp only [applyPending]
  repeat' split
  all_goals simp

@[simp] theorem waitOf_applyUnlessHold (cause : SettingsCause) (s : State) :
    waitOf (applyUnlessHold cause s) = waitOf s := by
  simp only [applyUnlessHold]
  repeat' split
  all_goals simp

@[simp] theorem waitOf_answerStop (outcome : Nat) (s : State) : waitOf (answerStop outcome s) = waitOf s := by
  simp only [answerStop]
  repeat' split
  all_goals simp

@[simp] theorem waitOf_enterStopped (outcome : Nat) (s : State) : waitOf (enterStopped outcome s) = waitOf s := by
  simp [enterStopped]

@[simp] theorem waitOf_endRecordSettled (outcome : Nat) (s : State) :
    waitOf (endRecordSettled outcome s) = waitOf s := by
  simp only [endRecordSettled]
  repeat' split
  all_goals simp

@[simp] theorem waitOf_closeCapture (truncated cut : Bool) (s : State) :
    waitOf (closeCapture truncated cut s) = waitOf s := by
  simp only [closeCapture]
  split
  · rfl
  · split <;>
    (rename_i h
     have h := congrArg (fun x => waitOf x.2) h
     simp only [waitOf_handRecord, waitOf_setCu] at h
     simp [← h])

@[simp] theorem waitOf_startCapture (cause : TrigCause) (event strobe : Nat) (s : State) :
    waitOf (startCapture cause event strobe s) = waitOf s := by
  simp [startCapture]

@[simp] theorem waitOf_trigger (cause : TrigCause) (event strobe : Nat) (s : State) :
    waitOf (trigger cause event strobe s).2 = waitOf s := by
  simp only [trigger]
  repeat' split
  all_goals simp

@[simp] theorem waitOf_collect (c : CondSet) (h : Capture) (s : State) : waitOf (collect c h s) = waitOf s := by
  simp only [collect]
  repeat' split
  all_goals simp

@[simp] theorem waitOf_captureTake (c : CondSet) (s : State) : waitOf (captureTake c s) = waitOf s := by
  simp only [captureTake]
  repeat' split
  all_goals simp

@[simp] theorem waitOf_stopCapture (s : State) : waitOf (stopCapture s) = waitOf s := by
  simp only [stopCapture]
  repeat' split
  all_goals simp

@[simp] theorem waitOf_orderCapture (tag : Byte) (s : State) : waitOf (orderCapture tag s) = waitOf s := by
  simp only [orderCapture]
  repeat' split
  all_goals simp

@[simp] theorem waitOf_emptyRing (s : State) : waitOf (emptyRing s) = waitOf s := by
  simp [emptyRing]

@[simp] theorem waitOf_updInterval (f : Interval → Interval) (s : State) : waitOf (updInterval f s) = waitOf s := by
  simp [updInterval]

@[simp] theorem waitOf_updSummary (f : Summary → Summary) (s : State) : waitOf (updSummary f s) = waitOf s := by
  exact waitOf_setIa _ _

@[simp] theorem waitOf_countClose (c : EventClass) (s : State) : waitOf (countClose c s) = waitOf s := by
  simp only [countClose]
  repeat' split
  all_goals simp

@[simp] theorem waitOf_handTrigger (cause : TrigCause) (event k : Nat) (s : State) :
    waitOf (handTrigger cause event k s).2 = waitOf s := by
  simp only [handTrigger]
  repeat' split
  all_goals simp

@[simp] theorem waitOf_openDip (w : BoundaryWork) (s : State) : waitOf (openDip w s) = waitOf s := by
  simp [openDip]

@[simp] theorem waitOf_openSwell (w : BoundaryWork) (s : State) : waitOf (openSwell w s) = waitOf s := by
  simp [openSwell]

@[simp] theorem waitOf_countGrid (swell : Bool) (cell : Option (Nat × Nat)) (s : State) :
    waitOf (countGrid swell cell s) = waitOf s := by
  simp only [countGrid]
  repeat' split
  all_goals simp

@[simp] theorem waitOf_closeEvent (e : OpenEvent) (cause : CloseCause) (b : Boundary) (stamp : Stamp) (s : State) :
    waitOf (closeEvent e cause b stamp s) = waitOf s := by
  simp only [closeEvent]
  repeat' split
  all_goals simp

@[simp] theorem waitOf_escalate (w : BoundaryWork) (s : State) : waitOf (escalate w s) = waitOf s := by
  simp only [escalate]
  repeat' split
  all_goals simp

@[simp] theorem waitOf_endTests (w : BoundaryWork) (ended : Nat → Bool) (e : OpenEvent) (s : State) :
    waitOf (endTests w ended e s) = waitOf s := by
  simp only [endTests]
  repeat' split
  all_goals simp

@[simp] theorem waitOf_runDip (w : BoundaryWork) (s : State) : waitOf (runDip w s) = waitOf s := by
  simp only [runDip]
  repeat' split
  all_goals simp

@[simp] theorem waitOf_runSwell (w : BoundaryWork) (s : State) : waitOf (runSwell w s) = waitOf s := by
  simp only [runSwell]
  repeat' split
  all_goals simp

@[simp] theorem waitOf_boundaryEvents (w : BoundaryWork) (s : State) : waitOf (boundaryEvents w s).2 = waitOf s := by
  simp only [boundaryEvents]
  repeat' split
  all_goals simp

@[simp] theorem waitOf_forceClose (cause : CloseCause) (s : State) : waitOf (forceClose cause s) = waitOf s := by
  simp only [forceClose]
  repeat' split
  all_goals simp

@[simp] theorem waitOf_orderLoadLimit (tag : Byte) (entries : List LimitArg) (s : State) :
    waitOf (orderLoadLimit tag entries s) = waitOf s := by
  simp only [orderLoadLimit]
  repeat' split
  all_goals simp

@[simp] theorem waitOf_orderLoadGrid (tag : Byte) (lists : List GridArg) (s : State) :
    waitOf (orderLoadGrid tag lists s) = waitOf s := by
  simp only [orderLoadGrid]
  repeat' split
  all_goals simp

@[simp] theorem waitOf_clearGrids (s : State) : waitOf (clearGrids s) = waitOf s := by
  simp [clearGrids]

@[simp] theorem waitOf_windowArrives (w : WindowResult) (s : State) : waitOf (windowArrives w s) = waitOf s := by
  simp [windowArrives]

@[simp] theorem waitOf_closeInterval (stop : Stamp) (ended early : Bool) (s : State) :
    waitOf (closeInterval stop ended early s) = waitOf s := by
  simp only [closeInterval]
  repeat' split
  all_goals simp

@[simp] theorem waitOf_openInterval (number : Nat) (start : Stamp) (partialMark : Bool) (s : State) :
    waitOf (openInterval number start partialMark s) = waitOf s := by
  simp [openInterval]

@[simp] theorem waitOf_rolloverReport (s : State) : waitOf (rolloverReport s) = waitOf s := by
  simp only [rolloverReport]
  repeat' split
  all_goals simp

@[simp] theorem waitOf_stepReport (before after : Stamp) (s : State) :
    waitOf (stepReport before after s) = waitOf s := by
  simp only [stepReport]
  repeat' split
  all_goals simp

@[simp] theorem waitOf_enterRunning (s : State) : waitOf (enterRunning s) = waitOf s := by
  simp [enterRunning]

@[simp] theorem waitOf_readyTest (s : State) : waitOf (readyTest s) = waitOf s := by
  simp only [readyTest]
  repeat' split
  all_goals simp

@[simp] theorem waitOf_startWindow (b : Boundary) (stamp : Stamp) (event : Bool) (s : State) :
    waitOf (startWindow b stamp event s) = waitOf s := by
  simp [startWindow]

@[simp] theorem waitOf_closeWindow (w : Window) (b : Boundary) (stamp : Stamp) (flags : BitVec 8) (s : State) :
    waitOf (closeWindow w b stamp flags s) = waitOf s := by
  simp [closeWindow]

@[simp] theorem waitOf_windowWork (b : Boundary) (stamp : Stamp) (event : Bool) (values : PerChannel (Option Nat)) (s : State) :
    waitOf (windowWork b stamp event values s) = waitOf s := by
  simp only [windowWork]
  repeat' split
  all_goals simp

@[simp] theorem waitOf_boundaryWork (b : Boundary) (k : Nat) (s : State) :
    waitOf (boundaryWork b k s).2 = waitOf s := by
  simp [boundaryWork]

@[simp] theorem waitOf_latchSnapshot (b : Boundary) (values : PerChannel (Option Nat)) (s : State) :
    waitOf (latchSnapshot b values s) = waitOf s := by
  simp [latchSnapshot]

@[simp] theorem waitOf_addSet (c : CondSet) (s : State) : waitOf (addSet c s) = waitOf s := by
  simp [addSet]

@[simp] theorem waitOf_reportRefChange (s : State) : waitOf (reportRefChange s) = waitOf s := by
  simp only [reportRefChange]
  repeat' split
  all_goals simp

@[simp] theorem waitOf_reportTimeStep (s : State) : waitOf (reportTimeStep s) = waitOf s := by
  simp only [reportTimeStep]
  repeat' split
  all_goals simp

@[simp] theorem waitOf_abandonWindow (s : State) : waitOf (abandonWindow s) = waitOf s := by
  simp [abandonWindow]

@[simp] theorem waitOf_restartMagnitude (s : State) : waitOf (restartMagnitude s) = waitOf s := by
  simp [restartMagnitude]

@[simp] theorem waitOf_State_updCt (s : State) (f : CT → CT) : waitOf (s.updCt f) = waitOf s := by
  exact waitOf_setCt _ _

@[simp] theorem waitOf_place (position : Nat) (kind : BoundaryKind) (k : Nat) (s : State) :
    waitOf (place position kind k s).2 = waitOf s := by
  simp only [place]
  repeat' split
  all_goals simp

@[simp] theorem waitOf_placeDue (due k : Nat) (s : State) : waitOf (placeDue due k s).2 = waitOf s := by
  simp only [placeDue]
  repeat' split
  all_goals simp

@[simp] theorem waitOf_placeLocked (b : Boundary) (limit k : Nat) (crossing : Option Nat) (s : State) :
    waitOf (placeLocked b limit k crossing s).2 = waitOf s := by
  simp only [placeLocked]
  repeat' split
  all_goals simp

@[simp] theorem waitOf_placement (c : CondSet) (s : State) : waitOf (placement c s).2 = waitOf s := by
  simp only [placement]
  repeat' split
  all_goals simp

@[simp] theorem waitOf_refChanged (changed : Bool) (s : State) : waitOf (refChanged changed s) = waitOf s := by
  simp only [refChanged]
  repeat' split
  all_goals simp

@[simp] theorem waitOf_enterLocked (order : LockOrder) (s : State) : waitOf (enterLocked order s) = waitOf s := by
  cases order <;> simp [enterLocked]

@[simp] theorem waitOf_lock (c : CondSet) (position : Nat) (s : State) :
    waitOf (lock c position s).2 = waitOf s := by
  simp only [lock]
  repeat' split
  all_goals simp

@[simp] theorem waitOf_acquisition (c : CondSet) (s : State) : waitOf (acquisition c s).2 = waitOf s := by
  simp only [acquisition]
  repeat' split
  all_goals simp

@[simp] theorem waitOf_decideAcquire (s : State) (values : PerChannel (Option Nat)) (candidate : Phase) :
    waitOf (decideAcquire s values candidate) = waitOf s := by
  simp only [decideAcquire]
  repeat' split
  all_goals simp

@[simp] theorem waitOf_revert (s : State) (values : PerChannel (Option Nat)) (reference : Phase) :
    waitOf (revert s values reference) = waitOf s := by
  simp only [revert]
  repeat' split
  all_goals simp

@[simp] theorem waitOf_decideLocked (s : State) (values : PerChannel (Option Nat)) (reference : Phase) :
    waitOf (decideLocked s values reference) = waitOf s := by
  simp only [decideLocked]
  repeat' split
  all_goals simp

@[simp] theorem waitOf_decideReference (values : PerChannel (Option Nat)) (s : State) :
    waitOf (decideReference values s) = waitOf s := by
  simp only [decideReference]
  repeat' split
  all_goals simp

@[simp] theorem waitOf_decideAt (p : Placed) (s : State) : waitOf (decideAt p s) = waitOf s := by
  simp only [decideAt]
  repeat' split
  all_goals simp

@[simp] theorem waitOf_trackTake (c : CondSet) (s : State) : waitOf (trackTake c s) = waitOf s := by
  simp [trackTake]

@[simp] theorem waitOf_restartTracker (s : State) : waitOf (restartTracker s) = waitOf s := by
  simp [restartTracker]

@[simp] theorem waitOf_matchFrame (m : Fin 4) (sequence : Nat) (f : LaneFrame) (s : State) :
    waitOf (matchFrame m sequence f s) = waitOf s := by
  simp only [matchFrame]
  repeat' split
  all_goals simp

@[simp] theorem waitOf_laneArrival (bs : List Byte) (s : State) : waitOf (laneArrival bs s) = waitOf s := by
  simp only [laneArrival]
  repeat' split
  all_goals simp

@[simp] theorem waitOf_expireModule (s : State) (m : Fin 4) : waitOf (expireModule s m) = waitOf s := by
  simp only [expireModule]
  repeat' split
  all_goals simp

@[simp] theorem waitOf_monitorIssue (s : State) : waitOf (monitorIssue s) = waitOf s := by
  simp only [monitorIssue]
  split
  · rw [waitOf_readyTest, waitOf_foldl _ (fun s a => by simp)]
    simp
  · simp

@[simp] theorem waitOf_restartLane (s : State) : waitOf (restartLane s) = waitOf s := by
  simp [restartLane]

@[simp] theorem waitOf_advanceTime (s : State) : waitOf (advanceTime s) = waitOf s := by
  simp [advanceTime]

@[simp] theorem waitOf_stepTime (seconds micros periods : Nat) (s : State) :
    waitOf (stepTime seconds micros periods s) = waitOf s := by
  simp [stepTime]

@[simp] theorem waitOf_acceptMark (seconds micros periods : Nat) (s : State) :
    waitOf (acceptMark seconds micros periods s) = waitOf s := by
  simp only [acceptMark]
  repeat' split
  all_goals simp

@[simp] theorem waitOf_markArrives (payload : List Byte) (periods : Nat) (s : State) :
    waitOf (markArrives payload periods s) = waitOf s := by
  simp only [markArrives]
  repeat' split
  all_goals simp

@[simp] theorem waitOf_sourceSet (old : TimeSource) (s : State) : waitOf (sourceSet old s) = waitOf s := by
  simp only [sourceSet]
  repeat' split
  all_goals simp

@[simp] theorem waitOf_setCampaign (c : CampaignState) (s : State) : waitOf (setCampaign c s) = waitOf s := by
  simp [setCampaign]

@[simp] theorem waitOf_beginCampaign (s : State) : waitOf (beginCampaign s) = waitOf s := by
  simp [beginCampaign]

@[simp] theorem waitOf_orderStart (tag : Byte) (s : State) : waitOf (orderStart tag s) = waitOf s := by
  simp only [orderStart]
  repeat' split
  all_goals simp

@[simp] theorem waitOf_armIssue (s : State) : waitOf (armIssue s) = waitOf s := by
  simp only [armIssue]
  repeat' split
  all_goals simp

@[simp] theorem waitOf_endCampaign (restart : Bool) (s : State) : waitOf (endCampaign restart s).2 = waitOf s := by
  simp only [endCampaign]
  repeat' split
  all_goals simp

@[simp] theorem waitOf_awaitEnd (r : HandResult) (s : State) : waitOf (awaitEnd r s) = waitOf s := by
  simp only [awaitEnd]
  repeat' split
  all_goals simp

@[simp] theorem waitOf_orderStop (tag : Byte) (s : State) : waitOf (orderStop tag s) = waitOf s := by
  simp only [orderStop]
  repeat' split
  all_goals simp

@[simp] theorem waitOf_restartCampaign (s : State) : waitOf (restartCampaign s) = waitOf s := by
  simp only [restartCampaign]
  repeat' split
  all_goals simp

@[simp] theorem waitOf_restartBlocks (s : State) : waitOf (restartBlocks s) = waitOf s := by
  simp [restartBlocks]

@[simp] theorem waitOf_orderRestart (tag : Byte) (s : State) : waitOf (orderRestart tag s) = waitOf s := by
  simp [orderRestart]

@[simp] theorem waitOf_readGeometry (s : State) : waitOf (readGeometry s) = waitOf s := by
  simp only [readGeometry]
  repeat' split
  all_goals simp

@[simp] theorem waitOf_noteEntry (entry : BitVec 32) (s : State) : waitOf (noteEntry entry s) = waitOf s := by
  simp only [noteEntry]
  split <;> simp

@[simp] theorem waitOf_placeEntry (logical : Nat) (entry : BitVec 32) (s : State) :
    waitOf (placeEntry logical entry s) = waitOf s := by
  simp only [placeEntry]
  split <;> simp

@[simp] theorem waitOf_mapEntryRead (logical : Nat) (entry : BitVec 32) (s : State) :
    waitOf (mapEntryRead logical entry s) = waitOf s := by
  simp [mapEntryRead]

@[simp] theorem waitOf_translate (inHand : Option Translation) (logical : Nat) (s : State) :
    waitOf (translate inHand logical s).2 = waitOf s := by
  simp only [translate]
  repeat' split
  all_goals simp

@[simp] theorem waitOf_retireTranslation (logical : Nat) (s : State) :
    waitOf (retireTranslation logical s) = waitOf s := by
  simp [retireTranslation]

@[simp] theorem waitOf_startReadback (s : State) : waitOf (startReadback s) = waitOf s := by
  simp only [startReadback]
  repeat' split
  all_goals simp

@[simp] theorem waitOf_orphanRead (s : State) : waitOf (orphanRead s) = waitOf s := by
  simp only [orphanRead]
  repeat' split
  all_goals simp

@[simp] theorem waitOf_answerWaiters (waiters : List Byte) (s : State) :
    waitOf (answerWaiters waiters s) = waitOf s := by
  simp only [answerWaiters]
  exact waitOf_foldl _ (fun s a => by simp) _ _

@[simp] theorem waitOf_endReadback (cancelled failed : Bool) (s : State) :
    waitOf (endReadback cancelled failed s) = waitOf s := by
  simp only [endReadback]
  repeat' split
  all_goals simp

@[simp] theorem waitOf_closeRecord (mark : PieceMark) (counted : Bool) (s : State) :
    waitOf (closeRecord mark counted s) = waitOf s := by
  simp only [closeRecord]
  repeat' split
  all_goals simp

@[simp] theorem waitOf_endQueued (cancelled failed : Bool) (s : State) :
    waitOf (endQueued cancelled failed s) = waitOf s := by
  simp only [endQueued]
  rw [waitOf_foldl _ (fun s a => by split <;> simp)]
  simp

@[simp] theorem waitOf_closeDamaged (s : State) : waitOf (closeDamaged s) = waitOf s := by
  simp only [closeDamaged]
  repeat' split
  all_goals simp

@[simp] theorem waitOf_endReadbacksFaulted (s : State) : waitOf (endReadbacksFaulted s) = waitOf s := by
  simp only [endReadbacksFaulted]
  repeat' split
  all_goals simp

@[simp] theorem waitOf_endReadbacksLinkDown (s : State) : waitOf (endReadbacksLinkDown s) = waitOf s := by
  simp only [endReadbacksLinkDown]
  repeat' split
  all_goals simp

@[simp] theorem waitOf_takeStoreOrder (o : LongOrder) (tag : Byte) (s : State) :
    waitOf (takeStoreOrder o tag s) = waitOf s := by
  simp [takeStoreOrder, waitOf_eq]

@[simp] theorem waitOf_storeOrderDone (body : List Byte) (s : State) :
    waitOf (storeOrderDone body s) = waitOf s := by
  simp only [storeOrderDone]
  repeat' split
  all_goals simp [waitOf_eq]

@[simp] theorem waitOf_storeOrderFailed (s : State) : waitOf (storeOrderFailed s) = waitOf s := by
  simp only [storeOrderFailed]
  repeat' split
  all_goals simp [waitOf_eq]

@[simp] theorem waitOf_storeFault (cause : FaultCause) (s : State) : waitOf (storeFault cause s) = waitOf s := by
  simp only [storeFault]
  repeat' split
  all_goals simp

@[simp] theorem waitOf_enterUnmounted (s : State) : waitOf (enterUnmounted s) = waitOf s := by
  simp [enterUnmounted]

@[simp] theorem waitOf_writerAppend (s : State) : waitOf (writerAppend s) = waitOf s := by
  simp only [writerAppend]
  repeat' split
  all_goals simp

@[simp] theorem waitOf_restartLocating (s : State) : waitOf (restartLocating s) = waitOf s := by
  simp only [restartLocating]
  repeat' split
  all_goals simp

theorem waitOf_of_translate {inHand : Option Translation} {logical : Nat} {s s1 : State} {t : Option Translation}
    (h : translate inHand logical s = (t, s1)) : waitOf s1 = waitOf s := by
  rw [← waitOf_translate inHand logical s, h]

@[simp] theorem waitOf_setTail (tail : Option Nat) (s : State) : waitOf (setTail tail s) = waitOf s := by
  simp [setTail]

@[simp] theorem waitOf_headOn (s : State) : waitOf (headOn s) = waitOf s := by
  simp only [headOn]
  repeat' split
  all_goals simp

@[simp] theorem waitOf_overwriteTail (s : State) : waitOf (overwriteTail s) = waitOf s := by
  simp only [overwriteTail]
  repeat' split
  all_goals simp

@[simp] theorem waitOf_enterHead (s : State) : waitOf (enterHead s) = waitOf s := by
  simp only [enterHead]
  repeat' split
  all_goals simp

@[simp] theorem waitOf_clearStop (s : State) : waitOf (clearStop s) = waitOf s := by
  simp only [clearStop]
  repeat' split
  all_goals simp

@[simp] theorem waitOf_settleHead (s : State) : waitOf (settleHead s) = waitOf s := by
  simp only [settleHead]
  repeat' split
  all_goals simp

@[simp] theorem waitOf_judgeLast (last : Nat) (s : State) : waitOf (judgeLast last s) = waitOf s := by
  simp only [judgeLast]
  repeat' split
  all_goals simp

@[simp] theorem waitOf_rewriteEntries (sector : Nat) (s : State) : waitOf (rewriteEntries sector s) = waitOf s := by
  simp [rewriteEntries]

@[simp] theorem waitOf_sectorRetired (sector : Nat) (programFailed : Bool) (s : State) :
    waitOf (sectorRetired sector programFailed s) = waitOf s := by
  simp only [sectorRetired]
  repeat' split
  all_goals simp

@[simp] theorem waitOf_programStep (s : State) : waitOf (programStep s) = waitOf s := by
  simp only [programStep]
  repeat' split
  all_goals first
    | (simp; done)
    | simp [waitOf_of_translate (by assumption)]

@[simp] theorem waitOf_writerStep (s : State) : waitOf (writerStep s) = waitOf s := by
  simp only [writerStep]
  repeat' split
  all_goals first
    | (simp; done)
    | simp [waitOf_of_translate (by assumption)]

@[simp] theorem waitOf_writerAdvance (s : State) : waitOf (writerAdvance s) = waitOf s := by
  simp only [writerAdvance]
  repeat' split
  all_goals simp [waitOf_repeatStep _ waitOf_writerStep]

@[simp] theorem waitOf_writerMapRead (logical : Nat) (entry : BitVec 32) (s : State) :
    waitOf (writerMapRead logical entry s) = waitOf s := by
  simp [writerMapRead]

@[simp] theorem waitOf_tailHeaderRead (header : Option PageHeader) (s : State) :
    waitOf (tailHeaderRead header s) = waitOf s := by
  simp only [tailHeaderRead]
  repeat' split
  all_goals simp

@[simp] theorem waitOf_writerHeaderRead (bytes : List Byte) (s : State) :
    waitOf (writerHeaderRead bytes s) = waitOf s := by
  simp only [writerHeaderRead]
  repeat' split
  all_goals simp

@[simp] theorem waitOf_pageProgrammed (s : State) : waitOf (pageProgrammed s) = waitOf s := by
  simp only [pageProgrammed]
  repeat' split
  all_goals simp

@[simp] theorem waitOf_pageFailed (s : State) : waitOf (pageFailed s) = waitOf s := by
  simp only [pageFailed]
  repeat' split
  all_goals simp

@[simp] theorem waitOf_headErasedNow (s : State) : waitOf (headErasedNow s) = waitOf s := by
  simp [headErasedNow]

@[simp] theorem waitOf_headEraseFailed (s : State) : waitOf (headEraseFailed s) = waitOf s := by
  simp only [headEraseFailed]
  repeat' split
  all_goals simp

@[simp] theorem waitOf_retireEnded (ok : Bool) (s : State) : waitOf (retireEnded ok s) = waitOf s := by
  simp only [retireEnded]
  repeat' split
  all_goals simp

@[simp] theorem waitOf_orderRelease (tag : Byte) (w : Nat) (s : State) :
    waitOf (orderRelease tag w s) = waitOf s := by
  simp only [orderRelease]
  repeat' split
  all_goals simp

@[simp] theorem waitOf_unmountWriter (s : State) : waitOf (unmountWriter s) = waitOf s := by
  simp only [unmountWriter]
  repeat' split
  all_goals simp

@[simp] theorem waitOf_finishUnmount (s : State) : waitOf (finishUnmount s) = waitOf s := by
  simp only [finishUnmount]
  repeat' split
  all_goals simp

@[simp] theorem waitOf_endServing (s : State) : waitOf (endServing s) = waitOf s := by
  simp only [endServing]
  repeat' split
  all_goals simp

@[simp] theorem waitOf_endGone (s : State) : waitOf (endGone s) = waitOf s := by
  simp only [endGone]
  repeat' split
  all_goals simp

@[simp] theorem waitOf_endBeyond (s : State) : waitOf (endBeyond s) = waitOf s := by
  simp only [endBeyond]
  repeat' split
  all_goals simp

@[simp] theorem waitOf_withReadback (f : Readback → Readback) (s : State) :
    waitOf (withReadback f s) = waitOf s := by
  simp [withReadback]

@[simp] theorem waitOf_setPhase (p : ReadPhase) (s : State) : waitOf (setPhase p s) = waitOf s := by
  simp [setPhase]

@[simp] theorem waitOf_cutRecord (mark : PieceMark) (counted : Bool) (s : State) :
    waitOf (cutRecord mark counted s) = waitOf s := by
  simp only [cutRecord]
  repeat' split
  all_goals simp

@[simp] theorem waitOf_cutAtEnd (s : State) : waitOf (cutAtEnd s) = waitOf s := by
  simp only [cutAtEnd]
  repeat' split
  all_goals simp

@[simp] theorem waitOf_walkTo (origin target : PagePos) (s : State) :
    waitOf (walkTo origin target s) = waitOf s := by
  simp only [walkTo]
  repeat' split
  all_goals simp

@[simp] theorem waitOf_moveOn (p : PagePos) (s : State) : waitOf (moveOn p s) = waitOf s := by
  simp [moveOn]

@[simp] theorem waitOf_moveOver (p : PagePos) (s : State) : waitOf (moveOver p s) = waitOf s := by
  simp [moveOver]

@[simp] theorem waitOf_classify (at_ : PagePos) (last : Nat) (rest : List Byte) (p : RecordProgress) (o : ReadOrder) (r : Readback)
    (s : State) : waitOf (classify at_ last rest p o r s) = waitOf s := by
  simp only [classify]
  repeat' split
  all_goals simp

@[simp] theorem waitOf_parseStep (at_ : PagePos) (last : Nat) (rest : List Byte) (o : ReadOrder) (r : Readback) (s : State) :
    waitOf (parseStep at_ last rest o r s) = waitOf s := by
  simp only [parseStep]
  repeat' split
  all_goals simp

@[simp] theorem waitOf_walkPageRead (at_ : PagePos) (bytes : List Byte) (r : Readback) (s : State) :
    waitOf (walkPageRead at_ bytes r s) = waitOf s := by
  simp only [walkPageRead]
  repeat' split
  all_goals simp

@[simp] theorem waitOf_settleRange (o : ReadOrder) (r : Readback) (s : State) :
    waitOf (settleRange o r s) = waitOf s := by
  simp only [settleRange]
  repeat' split
  all_goals simp

@[simp] theorem waitOf_keepTranslation (t : Translation) (s : State) : waitOf (keepTranslation t s) = waitOf s := by
  simp [keepTranslation]

@[simp] theorem waitOf_lastSectorStep (top distance : Nat) (r : Readback) (s : State) :
    waitOf (lastSectorStep top distance r s) = waitOf s := by
  simp only [lastSectorStep]
  repeat' split
  all_goals first
    | (simp; done)
    | simp [waitOf_of_translate (by assumption)]

@[simp] theorem waitOf_sectorStep (lo hi : Nat) (starts : Option Nat) (probe : Option (Nat × Nat)) (r : Readback) (s : State) :
    waitOf (sectorStep lo hi starts probe r s) = waitOf s := by
  simp only [sectorStep]
  repeat' split
  all_goals first
    | (simp; done)
    | simp [waitOf_of_translate (by assumption)]

@[simp] theorem waitOf_pageStep (sector lo hi : Nat) (starts : Option Nat) (r : Readback) (s : State) :
    waitOf (pageStep sector lo hi starts r s) = waitOf s := by
  simp only [pageStep]
  repeat' split
  all_goals first
    | (simp; done)
    | simp [waitOf_of_translate (by assumption)]

@[simp] theorem waitOf_backStep (distance : Nat) (r : Readback) (s : State) :
    waitOf (backStep distance r s) = waitOf s := by
  simp only [backStep]
  repeat' split
  all_goals first
    | (simp; done)
    | simp [waitOf_of_translate (by assumption)]

@[simp] theorem waitOf_readerStep (s : State) : waitOf (readerStep s) = waitOf s := by
  simp only [readerStep]
  repeat' split
  all_goals first
    | (simp; done)
    | simp [waitOf_of_translate (by assumption)]

@[simp] theorem waitOf_readerAdvance (s : State) : waitOf (readerAdvance s) = waitOf s := by
  simp only [readerAdvance]
  split
  · rfl
  · exact waitOf_repeatStep _ waitOf_readerStep _ _

@[simp] theorem waitOf_readerMapRead (logical : Nat) (entry : BitVec 32) (s : State) :
    waitOf (readerMapRead logical entry s) = waitOf s := by
  simp [readerMapRead]

@[simp] theorem waitOf_readerPageRead (bytes : List Byte) (s : State) :
    waitOf (readerPageRead bytes s) = waitOf s := by
  simp only [readerPageRead]
  repeat' split
  all_goals simp

@[simp] theorem waitOf_orderReadRecords (tag : Byte) (first count : Nat) (s : State) :
    waitOf (orderReadRecords tag first count s) = waitOf s := by
  simp only [orderReadRecords]
  repeat' split
  all_goals simp

@[simp] theorem waitOf_cancelQueued (tag : Byte) (s : State) : waitOf (cancelQueued tag s) = waitOf s := by
  simp only [cancelQueued]
  rw [waitOf_foldl _ (fun s a => by simp)]
  simp

@[simp] theorem waitOf_cancelCurrent (waiters : List Byte) (s : State) :
    waitOf (cancelCurrent waiters s) = waitOf s := by
  simp only [cancelCurrent]
  repeat' split
  all_goals simp

@[simp] theorem waitOf_orderCancelRead (tag target : Byte) (s : State) :
    waitOf (orderCancelRead tag target s) = waitOf s := by
  simp only [orderCancelRead]
  repeat' split
  all_goals simp

@[simp] theorem waitOf_cancelAll (s : State) : waitOf (cancelAll s) = waitOf s := by
  simp only [cancelAll]
  repeat' split
  all_goals simp

@[simp] theorem waitOf_mountComplete (j : MountJob) (r : MountResult) (s : State) :
    waitOf (mountComplete j r s) = waitOf s := by
  simp only [mountComplete]
  repeat' split
  all_goals simp

@[simp] theorem waitOf_mountEnd (j : MountJob) (emptyStop : Bool) (s : State) :
    waitOf (mountEnd j emptyStop s) = waitOf s := by
  simp only [mountEnd]
  repeat' split
  all_goals simp

@[simp] theorem waitOf_setMount (j : MountJob) (s : State) : waitOf (setMount j s) = waitOf s := by
  simp [setMount]

@[simp] theorem waitOf_mountClassified (j : MountJob) (s : State) : waitOf (mountClassified j s) = waitOf s := by
  simp only [mountClassified]
  repeat' split
  all_goals simp

@[simp] theorem waitOf_mountWalkRead (j : MountJob) (bytes : List Byte) (s : State) :
    waitOf (mountWalkRead j bytes s) = waitOf s := by
  simp only [mountWalkRead]
  repeat' split
  all_goals simp

@[simp] theorem waitOf_mountPageRead (bytes : List Byte) (s : State) :
    waitOf (mountPageRead bytes s) = waitOf s := by
  simp only [mountPageRead]
  repeat' split
  all_goals simp

@[simp] theorem waitOf_formatComplete (first : Nat) (s : State) : waitOf (formatComplete first s) = waitOf s := by
  simp [formatComplete]

@[simp] theorem waitOf_formatErased (sector : Nat) (first : Option Nat) (ok : Bool) (s : State) :
    waitOf (formatErased sector first ok s) = waitOf s := by
  simp only [formatErased]
  repeat' split
  all_goals simp

@[simp] theorem waitOf_formatRetired (sector : Nat) (first : Option Nat) (ok : Bool) (s : State) :
    waitOf (formatRetired sector first ok s) = waitOf s := by
  simp only [formatRetired]
  repeat' split
  all_goals simp

@[simp] theorem waitOf_mapErased (start : Nat) (left : List Nat) (ok : Bool) (s : State) :
    waitOf (mapErased start left ok s) = waitOf s := by
  simp only [mapErased]
  repeat' split
  all_goals simp

@[simp] theorem waitOf_mapLoaded (start : Nat) (left : List Nat) (done : Nat) (ok : Bool) (s : State) :
    waitOf (mapLoaded start left done ok s) = waitOf s := by
  simp only [mapLoaded]
  repeat' split
  all_goals simp

@[simp] theorem waitOf_jobTranslate (sector : Nat) (first : Bool) (s : State) :
    waitOf (jobTranslate sector first s).2 = waitOf s := by
  simp only [jobTranslate]
  repeat' split
  all_goals first
    | (simp; done)
    | simp [waitOf_of_translate (by assumption)]

theorem waitOf_of_jobTranslate {sector : Nat} {first : Bool} {s s1 : State} {t : Option Translation}
    (h : jobTranslate sector first s = (t, s1)) : waitOf s1 = waitOf s := by
  rw [← waitOf_jobTranslate sector first s, h]

@[simp] theorem waitOf_jobStep (s : State) : waitOf (jobStep s) = waitOf s := by
  simp only [jobStep]
  repeat' split
  all_goals first
    | (simp; done)
    | simp [waitOf_of_jobTranslate (by assumption)]

@[simp] theorem waitOf_jobAdvance (s : State) : waitOf (jobAdvance s) = waitOf s := by
  simp only [jobAdvance]
  split
  · exact waitOf_repeatStep _ waitOf_jobStep _ _
  · rfl

@[simp] theorem waitOf_jobMapRead (logical : Nat) (entry : BitVec 32) (s : State) :
    waitOf (jobMapRead logical entry s) = waitOf s := by
  simp only [jobMapRead]
  repeat' split
  all_goals simp

@[simp] theorem waitOf_orderMount (tag : Byte) (s : State) : waitOf (orderMount tag s) = waitOf s := by
  simp only [orderMount]
  repeat' split
  all_goals simp

@[simp] theorem waitOf_orderFormat (tag : Byte) (s : State) : waitOf (orderFormat tag s) = waitOf s := by
  simp only [orderFormat]
  repeat' split
  all_goals simp

@[simp] theorem waitOf_orderMapLoad (tag : Byte) (start : Nat) (sectors : List Nat) (s : State) :
    waitOf (orderMapLoad tag start sectors s) = waitOf s := by
  simp only [orderMapLoad]
  repeat' split
  all_goals simp

@[simp] theorem waitOf_orderUnmount (tag : Byte) (s : State) : waitOf (orderUnmount tag s) = waitOf s := by
  simp only [orderUnmount]
  repeat' split
  all_goals simp

@[simp] theorem waitOf_startOp (requester : Option Requester) (op : PortOp) (s : State) :
    waitOf (startOp requester op s) = waitOf s := by
  simp [startOp]

@[simp] theorem waitOf_grantTo (r : Requester) (s : State) : waitOf (grantTo r s) = waitOf s := by
  simp only [grantTo]
  repeat' split
  all_goals simp

@[simp] theorem waitOf_chooseWaiting (s : State) : waitOf (chooseWaiting s).2 = waitOf s := by
  simp only [chooseWaiting]
  repeat' split
  all_goals simp

@[simp] theorem waitOf_grantWriter (op : PortOp) (s : State) : waitOf (grantWriter op s) = waitOf s := by
  simp [grantWriter]

@[simp] theorem waitOf_grantReader (op : PortOp) (s : State) : waitOf (grantReader op s) = waitOf s := by
  simp only [grantReader]
  repeat' split
  all_goals simp

@[simp] theorem waitOf_portFree (s : State) : waitOf (portFree s) = waitOf s := by
  simp [portFree]

@[simp] theorem waitOf_grantStep (s : State) : waitOf (grantStep s) = waitOf s := by
  simp only [grantStep]
  repeat' split
  all_goals first
    | (simp; done)
    | (rename_i h
       have h := congrArg (fun x => waitOf x.2) h
       simp only [waitOf_chooseWaiting] at h
       simp [← h])

@[simp] theorem waitOf_storePass (s : State) : waitOf (storePass s) = waitOf s := by
  simp only [storePass]
  rw [waitOf_repeatStep _ waitOf_grantStep]
  simp

@[simp] theorem waitOf_storeSettle (s : State) : waitOf (storeSettle s) = waitOf s := by
  simp only [storeSettle]
  exact waitOf_repeatStep _ waitOf_storePass _ _

@[simp] theorem waitOf_endOp (s : State) : waitOf (endOp s) = waitOf s := by
  simp [endOp]

/-- The end of an operation leaves what waits when what its requester does leaves it. -/
theorem waitOf_awaited (f : InFlight) (act : State → State) (h : ∀ s, waitOf (act s) = waitOf s) (s : State) :
    waitOf (awaited f act s) = waitOf s := by
  simp only [awaited]
  split
  · simp
  · rw [h]
    simp

@[simp] theorem waitOf_endProgramDone (s : State) : waitOf (endProgramDone s) = waitOf s := by
  simp only [endProgramDone]
  repeat' split
  all_goals first
    | simp
    | exact waitOf_awaited _ _ (fun s => by simp) _

@[simp] theorem waitOf_endProgramFailed (s : State) : waitOf (endProgramFailed s) = waitOf s := by
  simp only [endProgramFailed]
  repeat' split
  all_goals first
    | simp
    | exact waitOf_awaited _ _ (fun s => by simp) _

@[simp] theorem waitOf_endMapProgram (ok : Bool) (s : State) : waitOf (endMapProgram ok s) = waitOf s := by
  simp only [endMapProgram]
  repeat' split
  all_goals first
    | simp
    | exact waitOf_awaited _ _ (fun s => by simp) _

@[simp] theorem waitOf_endErase (ok : Bool) (s : State) : waitOf (endErase ok s) = waitOf s := by
  simp only [endErase]
  repeat' split
  all_goals first
    | simp
    | exact waitOf_awaited _ _ (fun s => by simp) _

@[simp] theorem waitOf_endHeaderRead (header : BitVec 128) (s : State) :
    waitOf (endHeaderRead header s) = waitOf s := by
  simp only [endHeaderRead]
  repeat' split
  all_goals first
    | simp
    | exact waitOf_awaited _ _ (fun s => by simp) _

@[simp] theorem waitOf_strayMapRead (logical : Nat) (entry : BitVec 32) (s : State) :
    waitOf (strayMapRead logical entry s) = waitOf s := by
  simp only [strayMapRead]
  split <;> simp

@[simp] theorem waitOf_endMapRead (entry : BitVec 32) (s : State) : waitOf (endMapRead entry s) = waitOf s := by
  simp only [endMapRead]
  repeat' split
  all_goals simp

@[simp] theorem waitOf_endMountRead (page : BitVec 2048) (s : State) : waitOf (endMountRead page s) = waitOf s := by
  simp only [endMountRead]
  repeat' split
  all_goals first
    | simp
    | exact waitOf_awaited _ _ (fun s => by simp) _

@[simp] theorem waitOf_endPageRead (page : BitVec 2048) (s : State) : waitOf (endPageRead page s) = waitOf s := by
  simp only [endPageRead]
  repeat' split
  all_goals first
    | simp
    | exact waitOf_awaited _ _ (fun s => by simp) _

@[simp] theorem waitOf_endTimeout (s : State) : waitOf (endTimeout s) = waitOf s := by
  simp only [endTimeout]
  repeat' split
  all_goals simp

@[simp] theorem waitOf_liveOff (s : State) : waitOf (liveOff s) = waitOf s := by
  simp [liveOff, waitOf_eq]

@[simp] theorem waitOf_ownerActs (old : Settings) (k : Setting) (s : State) :
    waitOf (ownerActs old k s) = waitOf s := by
  simp only [ownerActs]
  repeat' split
  all_goals simp

@[simp] theorem waitOf_placeValue (k : Setting) (v : Nat) (s : State) : waitOf (placeValue k v s) = waitOf s := by
  simp only [placeValue]
  repeat' split
  all_goals simp [waitOf_eq]

@[simp] theorem waitOf_setItem (code : Byte) (v : Nat) (s : State) : waitOf (setItem code v s).2 = waitOf s := by
  simp only [setItem]
  repeat' split
  all_goals simp

@[simp] theorem waitOf_setItems (items : List (Byte × BitVec 32)) (s : State) :
    waitOf (setItems items s).2 = waitOf s := by
  induction items generalizing s with
  | nil => rfl
  | cons i rest ih =>
    obtain ⟨code, v⟩ := i
    simp [setItems, ih]

@[simp] theorem waitOf_orderSet (tag : Byte) (items : List (Byte × BitVec 32)) (s : State) :
    waitOf (orderSet tag items s) = waitOf s := by
  simp [orderSet]

@[simp] theorem waitOf_orderGet (tag : Byte) (codes : List Byte) (s : State) :
    waitOf (orderGet tag codes s) = waitOf s := by
  simp only [orderGet]
  repeat' split
  all_goals simp

@[simp] theorem waitOf_orderStatus (tag : Byte) (s : State) : waitOf (orderStatus tag s) = waitOf s := by
  simp [orderStatus]

@[simp] theorem waitOf_orderAck (tag : Byte) (mask : BitVec 32) (s : State) :
    waitOf (orderAck tag mask s) = waitOf s := by
  simp only [orderAck]
  repeat' split
  all_goals simp [waitOf_eq]

@[simp] theorem waitOf_markFrame (bs : List Byte) (periods : Nat) (s : State) :
    waitOf (markFrame bs periods s) = waitOf s := by
  simp only [markFrame]
  repeat' split
  all_goals simp

@[simp] theorem waitOf_discardedFrame (bs : List Byte) (s : State) : waitOf (discardedFrame bs s) = waitOf s := by
  simp only [discardedFrame]
  repeat' split
  all_goals simp

@[simp] theorem waitOf_liveTake (s : State) : waitOf (liveTake s) = waitOf s := by
  simp only [liveTake]
  repeat' split
  all_goals simp [waitOf_eq]

@[simp] theorem waitOf_beginFrame (kind : TxKind) (frameKind : Nat) (payload : List Byte) (s : State) :
    waitOf (beginFrame kind frameKind payload s) = waitOf s := by
  simp [beginFrame, waitOf_eq]

@[simp] theorem waitOf_sendReply (s : State) : waitOf (sendReply s) = waitOf s := by
  simp only [sendReply]
  repeat' split
  all_goals simp [waitOf_eq]

@[simp] theorem waitOf_sendLive (s : State) : waitOf (sendLive s) = waitOf s := by
  simp only [sendLive]
  repeat' split
  all_goals simp [waitOf_eq]

@[simp] theorem waitOf_sendPiece (s : State) : waitOf (sendPiece s) = waitOf s := by
  simp only [sendPiece]
  repeat' split
  all_goals simp

@[simp] theorem waitOf_sendSamples (s : State) : waitOf (sendSamples s) = waitOf s := by
  simp [sendSamples]

@[simp] theorem waitOf_send (c : Category) (s : State) : waitOf (send c s) = waitOf s := by
  simp only [send]
  repeat' split
  all_goals simp

@[simp] theorem waitOf_sendFirst (s : State) : waitOf (sendFirst s) = waitOf s := by
  simp only [sendFirst]
  repeat' split
  all_goals simp

@[simp] theorem waitOf_txSettle (s : State) : waitOf (txSettle s) = waitOf s := by
  simp only [txSettle]
  repeat' split
  all_goals simp

@[simp] theorem waitOf_liveSent (sequence : Nat) (last : Bool) (s : State) :
    waitOf (liveSent sequence last s) = waitOf s := by
  simp only [liveSent]
  repeat' split
  all_goals simp [waitOf_eq]

@[simp] theorem waitOf_transmitEnd (s : State) : waitOf (transmitEnd s) = waitOf s := by
  simp only [transmitEnd]
  repeat' split
  all_goals simp [waitOf_eq]

@[simp] theorem waitOf_quiesce (s : State) : waitOf (quiesce s) = waitOf s := by
  simp [quiesce]

@[simp] theorem waitOf_takeSet (k : Nat) (frames : PerModule (Option LaneFrame)) (s : State) :
    waitOf (takeSet k frames s) = waitOf s := by
  simp [takeSet]

@[simp] theorem waitOf_flushAge (s : State) : waitOf (flushAge s) = waitOf s := by
  simp only [flushAge]
  repeat' split
  all_goals simp

@[simp] theorem waitOf_issueLane (s : State) : waitOf (issueLane s) = waitOf s := by
  simp [issueLane]

@[simp] theorem waitOf_runTimers (s : State) : waitOf (runTimers s) = waitOf s := by
  simp [runTimers]

@[simp] theorem waitOf_issueFirst (s : State) : waitOf (issueFirst s) = waitOf s := by
  simp [issueFirst]

@[simp] theorem waitOf_issuePart (set : Option (Nat × PerModule (Option LaneFrame))) (rolled : Bool) (s : State)
    (p : IssuePart) : waitOf (issuePart set rolled s p) = waitOf s := by
  cases p <;> simp only [issuePart]
  all_goals first
    | simp
    | (split <;> simp)

@[simp] theorem waitOf_strobeIssueWith (chosen : List IssuePart) (s : State) :
    waitOf (strobeIssueWith chosen s) = waitOf s := by
  simp only [strobeIssueWith]
  rw [waitOf_foldl _ (fun s a => by simp)]
  simp

@[simp] theorem waitOf_strobeIssue (s : State) : waitOf (strobeIssue s) = waitOf s := by
  simp [strobeIssue]

/-- The body of an order leaves what waits. -/
@[simp] theorem waitOf_carryOut (i : Instr) (s : State) : waitOf (carryOut i s) = waitOf s := by
  cases i <;> simp [carryOut]

end Sys2Proof.Machine
end

