-- ==== Sys2Proof/Tests/Slice0.lean ====
section
/-! SUPPORT. The model's own tests: the smoke tests of WellFormed, the figures of the manual's tables and worked examples,
small tests of the commands, and for every statement with hypotheses a witness that meets them. -/

namespace Sys2Proof.Tests

open Sys2Proof Sys2Proof.Machine

set_option Elab.async false

/-! ## Well-formed commands (section 12.4): one ill-formed term per check -/

theorem test_fits_unknown_kind : (Instr.orderUnknownKind 1 22 []).fits = true := by decide
theorem test_unfit_known_kind : (Instr.orderUnknownKind 1 21 []).fits = false := by decide
theorem test_unfit_set_empty : (Instr.set 1 []).fits = false := by decide
theorem test_unfit_set_seventeen : (Instr.set 1 (List.replicate 17 (1, 50))).fits = false := by decide
theorem test_unfit_get_empty : (Instr.get 1 []).fits = false := by decide
theorem test_unfit_channel_role : (Instr.loadTableChannel 1 [⟨8, 0, 0, 1, 1, 0⟩]).fits = false := by decide
theorem test_unfit_channel_slot : (Instr.loadTableChannel 1 [⟨0, 0, 2, 1, 1, 0⟩]).fits = false := by decide
theorem test_unfit_channel_enabled : (Instr.loadTableChannel 1 [⟨0, 0, 0, 2, 1, 0⟩]).fits = false := by decide
theorem test_unfit_channel_nine : (Instr.loadTableChannel 1 (List.replicate 9 ⟨0, 0, 0, 1, 1, 0⟩)).fits = false := by
  decide
theorem test_unfit_pass_mode : (Instr.loadTablePass 1 [⟨0, 4, 0⟩]).fits = false := by decide
theorem test_unfit_pass_five : (Instr.loadTablePass 1 (List.replicate 5 ⟨0, 0, 0⟩)).fits = false := by decide
theorem test_unfit_limit_empty : (Instr.loadTableLimit 1 []).fits = false := by decide
theorem test_unfit_grid_list : (Instr.loadTableGrid 1 [⟨3, [1]⟩]).fits = false := by decide
theorem test_unfit_grid_width : (Instr.loadTableGrid 1 [⟨0, [65536]⟩]).fits = false := by decide
theorem test_fits_grid_duration : (Instr.loadTableGrid 1 [⟨2, [65536]⟩]).fits = true := by decide
theorem test_unfit_grid_four : (Instr.loadTableGrid 1 (List.replicate 4 ⟨0, [1]⟩)).fits = false := by decide
theorem test_unfit_map_load : (Instr.mapLoad 1 0 (List.replicate 65 1)).fits = false := by decide +kernel
theorem test_unfit_module_write : (Instr.moduleWrite 1 0x50 0 (List.replicate 17 0)).fits = false := by decide

/-! ## Figures of the manual -/

/-- The check values of section 12.1 over the nine ASCII bytes 1 to 9. -/
theorem test_checks :
    crc8 [0x31, 0x32, 0x33, 0x34, 0x35, 0x36, 0x37, 0x38, 0x39] = 0xF4 ∧
    crc16 [0x31, 0x32, 0x33, 0x34, 0x35, 0x36, 0x37, 0x38, 0x39] = 0x29B1 ∧
    crc32 [0x31, 0x32, 0x33, 0x34, 0x35, 0x36, 0x37, 0x38, 0x39] = 0xCBF43926 := by decide +kernel

/-- The four cases of section 2.3. -/
theorem test_calibrate :
    calibrate 1000000 120 33100 = 1010011 ∧ calibrate (-3) 0 16384 = -2 ∧
    calibrate 8000000 (-32768) 40000 = 8388606 ∧ calibrate (-8388608) 0 32768 = -8388607 := by decide

/-- The cycles of section 4.7. -/
theorem test_root :
    isqrt 18000000000000 = 4242640 ∧ isqrt 11250000000000 = 3354101 ∧ isqrt 4500000000000 = 2121320 ∧
    magnitudeOf 4242640 5000000 = 8485 ∧ magnitudeOf 3354101 5000000 = 6708 := by decide +kernel

/-- The windows of section 4.8. -/
theorem test_window_frequency :
    windowFrequency 10 655360 = 50000 ∧ windowFrequency 10 655100 = 50020 ∧ windowFrequency 10 546140 = 59999 ∧
    windowFrequency 10 819200 = 40000 := by decide

/-- Section 6.5 and section 5.11: 491,520 fine units are 150,000 µs, and the rise from 400,000 to 700,000 is 7,500. -/
theorem test_duration_and_rise : microsOf 491520 = 150000 ∧ riseOf 400000 700000 = 7500 := by decide

/-- Section 5.11: 150 ms with an extreme of 8,485 is cell (0, 2). -/
theorem test_grid_cell : gridColumn .reset 150000 = 2 ∧ dipRow .reset 8485 = 0 := by decide

/-- Section 7.5: a slew remainder of 6,553,600 ticks gives 102,400 ticks at a rollover. -/
theorem test_slew :
    (TB.advance { seconds := 9, sub := 2047900000, quality := .synced, age := some 0, slew := 6553600 }) =
      { seconds := 10, sub := 60000 + 102400, quality := .synced, age := some 0, slew := 6451200 } := by decide

/-- Section 1.3, the table of R10 with the default margins 0 and 4. -/
theorem test_verdicts :
    verdictOf 0 4 false 128 = .accepted ∧ verdictOf 0 4 false 127 = .neutral ∧ verdictOf 0 4 false 124 = .neutral ∧
    verdictOf 0 4 false 123 = .rejected ∧ verdictOf 0 4 true 128 = .rejected := by decide

/-- The table of R173: an urgent writer, the bursts, and the change of holder. -/
theorem test_arbiter :
    chooseBoth .reader 1 4 2 true = .writer ∧ chooseBoth .writer 3 4 2 false = .writer ∧
    chooseBoth .writer 4 4 2 false = .reader ∧ chooseBoth .reader 1 4 2 false = .reader ∧
    chooseBoth .reader 2 4 2 false = .writer := by decide

/-! ## Small states -/

/-- The state after a command. -/
def after (c : Instr) (s : State) : State :=
  match exec c s with
  | .next t => t
  | .fault _ => s
  | .refused _ => s

/-- Power-on with the link UP. -/
def up : State := State.reset.setSl { State.reset.sl with linkUp := true }

/-- A DIRECT store of 8 sectors MOUNTED, head at page 6 of sector 2 and erased, tail at sector 3 (section 9.8), next sequence
4,499. -/
def mounted : State :=
  let s := up.setSw { up.sw with
    head := some ⟨2, 6⟩, headErased := true, tail := some 3, tailSeq := 4020, serial := .number 1142, watermark := 4019,
    sectors := 8, logical := 8, usable := 8 }
  let s := s.setRq { s.rq with next := .number 4499 }
  s.setSr { s.sr with state := .mounted }

/-- The same store in MAPPED mode. -/
def mapped : State := mounted.setSw { mounted.sw with mode := .mapped }

/-- A store state. -/
def inStore (x : StoreState) (s : State) : State := s.setSr { s.sr with state := x }

/-- A campaign state. -/
def inCampaign (x : CampaignState) (s : State) : State := s.setIa { s.ia with state := x }

/-- An operation in flight. -/
def flying (op : PortOp) (who : Option Requester) (s : State) : State :=
  s.setSr { s.sr with flight := some ⟨op, who, 0, false⟩ }

/-- Writer tasks. -/
def tasked (l : List WriterTask) (s : State) : State := s.setSw { s.sw with tasks := l }

/-- A job of the store. -/
def working (j : StoreJob) (s : State) : State := s.setSr { s.sr with job := j }

/-- A transaction in flight. -/
def busy (t : Transaction) (s : State) : State := s.setMb { s.mb with state := .busy, transaction := some t }

/-- The owner of the bus is the station. -/
def stationOwned (s : State) : State :=
  (s.setMb { s.mb with owner := .station }).setSl { s.sl with settings := { s.sl.settings with modbusOwner := .station } }

/-- A module's monitor state, as given. -/
def withModule (m : Fin 4) (x : ModMon) (s : State) : State := s.setModule m x

/-- An UNQUALIFIED and a QUALIFIED module. -/
def unqualified : ModMon := { ModMon.reset with state := .unqualified }
def qualified : ModMon := { ModMon.reset with state := .qualified }

/-- The payload of the frame that a command leaves in transmission. -/
def answer (c : Instr) (s : State) : List Byte :=
  match (after c s).sl.tx with
  | some f => field f.bytes 3 (fieldNat f.bytes 1 2)
  | none => []

/-! ## Commands

A reply begins with its tag, kind, status, reason and flags (section 12.4); the codes are those of section 12.1. -/

theorem test_power_on : (after .powerOn mounted).sr.state = .unmounted ∧ (after .powerOn mounted).sl.linkUp = false := by
  decide +kernel

/-- AM3 before the issue of strobe 600 (section 1.7). -/
def strobe599 : State :=
  let filled : Option LaneFrame := some ⟨0, 0, false, false, false⟩
  let s := up.setLr { strobe := 599, slots := ⟨[], [], [], [⟨596, filled⟩, ⟨597, filled⟩, ⟨598, none⟩, ⟨599, none⟩]⟩ }
  withModule 3 qualified s

theorem test_strobe_issue_slots :
    ((issueFirst strobe599).lr.slots.get 3).map Slot.index = [597, 598, 599, 600] ∧
    (closingFrames 600 strobe599).get 3 = some ⟨0, 0, false, false, false⟩ := by decide

theorem test_lane_frame_accepted :
    let s := issueFirst strobe599
    let t := after (.laneFrameArrival (laneBytes 3 86 0 5 (-5))) s
    ((t.lr.slots.get 3).find? fun x => x.index == 598) = some ⟨598, some ⟨5, -5, false, false, false⟩⟩ ∧
    (t.mm.mods.get 3).accepted = 1 := by decide +kernel

theorem test_lane_frame_stray :
    ((after (.laneFrameArrival (laneBytes 3 84 0 5 (-5))) (issueFirst strobe599)).mm.mods.get 3).stray = 1 := by
  decide +kernel

/-- FREERUN with a boundary at 0: the next one is due 32,768 fine units on, with the set of strobe 128. -/
def freerun (k : Nat) : State :=
  let s := up.setLr { up.lr with strobe := k }
  s.setCt { s.ct with last := some ⟨7, 0, .synthetic⟩ }

theorem test_freerun_boundary :
    (strobeIssueWith [] (freerun 131)).ct.last = some ⟨8, 32768, .synthetic⟩ ∧
    (strobeIssueWith [] (freerun 130)).ct.last = some ⟨7, 0, .synthetic⟩ := by decide +kernel

/-- HOLDOVER with a held half-period of 30,000. -/
def holdover : State :=
  let s := up.setLr { up.lr with strobe := 121 }
  s.setCt { s.ct with
    state := .holdover, reference := some .p1, held := some 30000, last := some ⟨7, 0, .synthetic⟩, timer := some 0 }

theorem test_held_boundary : (strobeIssueWith [] holdover).ct.last = some ⟨8, 30000, .synthetic⟩ := by decide +kernel

theorem test_holdover_timer :
    let s := holdover.setCt { holdover.ct with timer := some (32768000 - 256) }
    (strobeIssueWith [] s).ct.state = .freerun ∧ (strobeIssueWith [] s).ct.held = none := by decide +kernel

/-- LOCKED with a held half-period of 32,000: the loss limit is 40,000 fine units after a crossing. -/
def losing : State :=
  let s := up.setLr { up.lr with strobe := 160 }
  s.setCt { s.ct with
    state := .locked, reference := some .p1, held := some 32000, last := some ⟨7, 0, .crossing⟩ }

theorem test_crossing_timeout :
    crossingDue losing = true ∧ (strobeIssueWith [] losing).ct.last = some ⟨8, 40000, .synthetic⟩ ∧
    (strobeIssueWith [] losing).ct.state = .holdover := by decide +kernel

theorem test_holdoff_end :
    let s := (freerun 20).setCu { state := .holdoff, ring := [], hand := none, holdoff := 1 }
    (strobeIssueWith [] s).cu.state = .filling := by decide +kernel

theorem test_monitor_window :
    let s := withModule 1 { unqualified with accepted := 128, good := 2 } (up.setMm { up.mm with count := 127 })
    let t := strobeIssueWith [] s
    (t.mm.mods.get 1).state = .qualified ∧ (t.mm.mods.get 1).lastAccepted = 128 ∧ t.mm.count = 0 ∧
    t.mb.queue.map FetchEntry.module = [1] := by decide +kernel

theorem test_arm_timeout :
    let s := inCampaign .arming (up.setIa { up.ia with armTimer := 383999 })
    (strobeIssueWith [] s).ia.state = .running := by decide +kernel

/-- The rollover into second 600 of the day, in RUNNING with interval 3 open. -/
def rolling : State :=
  let s := up.setTb { up.tb with seconds := 599, sub := 2047840000 }
  s.setIa { s.ia with state := .running, interval := some (.opened 3 ⟨0, 0⟩ false) }

theorem test_second_rollover :
    let t := strobeIssueWith [] rolling
    t.tb.seconds = 600 ∧ t.tb.sub = 0 ∧ t.ia.interval.map Interval.number = some 4 ∧ t.ia.summary.intervals = 1 := by
  decide +kernel

theorem test_drifting :
    let s := up.setTb { up.tb with quality := .synced, age := some 3840000 }
    (strobeIssueWith [] s).tb.quality = .drifting := by decide +kernel

theorem test_flush_age :
    let s := (mounted.setLr { mounted.lr with strobe := 63999 }).setSw { mounted.sw with buffer := [1], oldest := 0 }
    (strobeIssueWith [] s).sw.flushDue = true := by decide +kernel

/-- Section 7.5: a mark 3,200 µs ahead slews by 6,553,600 ticks; one 25 ms ahead steps the time. -/
def at12h31 : State := up.setTb { up.tb with seconds := 45060, sub := 0, quality := .synced, age := some 9 }

theorem test_mark_slews :
    (after (.markArrival (inboundFrame 2 (markPayload 45060 3200)) 0) at12h31).tb =
      { seconds := 45060, sub := 0, quality := .synced, age := some 0, slew := 6553600 } := by decide +kernel

theorem test_mark_steps :
    let t := after (.markArrival (inboundFrame 2 (markPayload 45060 25000)) 0) at12h31
    t.tb.sub = 25000 * 2048 ∧ t.tb.slew = 0 ∧ t.sl.latched = 0x2000 := by decide +kernel

theorem test_link_up : (after .linkUp State.reset).sl.linkUp = true := by decide +kernel

theorem test_link_down :
    let s := up.setSl { up.sl with replies := [plainReply 1 2 .ok .none] }
    (after .linkDown s).sl.linkUp = false ∧ (after .linkDown s).sl.replies = [] := by decide +kernel

theorem test_frame_discard : (after (.inboundFrameDiscard [1, 2, 3]) up).sl.latched = 0x80000 := by decide +kernel

/-- An ORDER frame with the CAPTURE order, refused WRONG_STATE in STOPPED. -/
theorem test_order_arrival : answer (.orderArrival (inboundFrame 1 [9, 8])) up = [9, 8, 5, 2, 0] := by decide +kernel

theorem test_unknown_kind : answer (.orderUnknownKind 9 22 [1]) up = [9, 22, 5, 4, 0] := by decide +kernel

/-- TRACK_FLOOR takes at most 10,000. R192: a QUAL_ACCEPT item is clamped against the QUAL_REJECT before it, over an unknown item
that is refused. -/
theorem test_set_clamps :
    answer (.set 3 [(12, 10001)]) up = [3, 1, 1, 0, 0, 12, 1, 0, 0x10, 0x27, 0, 0] ∧
    (after (.set 3 [(12, 10001)]) up).sl.settings.trackFloor = 10000 ∧
    answer (.set 3 [(15, 10), (41, 0), (14, 20)]) up =
      [3, 1, 5, 4, 0, 15, 0, 0, 10, 0, 0, 0, 41, 5, 4, 0xFF, 0xFF, 0xFF, 0xFF, 14, 1, 0, 10, 0, 0, 0] := by decide +kernel

/-- Section 11.10: ATTRIB_FLOOR 0 is clamped to 1 and waits in the pending set. -/
theorem test_set_pending :
    let t := after (.set 42 [(7, 0)]) (inCampaign .running up)
    t.sl.pending.attribFloor = some 1 ∧ t.sl.settings.attribFloor = 10000 := by decide +kernel

/-- R194: a name outside the catalogue is UNKNOWN for its item, and the reply REFUSED with UNKNOWN. -/
theorem test_get :
    answer (.get 4 [1]) up = [4, 2, 0, 0, 0, 1, 0, 50, 0, 0, 0, 0, 0, 0, 0, 0] ∧
    answer (.get 4 [41, 1]) up =
      [4, 2, 5, 4, 0, 41, 4, 0xFF, 0xFF, 0xFF, 0xFF, 0, 0, 0, 0, 0, 1, 0, 50, 0, 0, 0, 0, 0, 0, 0, 0] := by decide +kernel

theorem test_load_channel :
    let t := after (.loadTableChannel 1 [⟨0, 2, 1, 0, 0x8000, 0xFFFF⟩]) up
    t.cc.table.get .v1 = ⟨2, true, false, 32768, -1, .loaded⟩ := by decide +kernel

theorem test_load_pass :
    (after (.loadTablePass 1 [⟨2, 2, 64⟩]) up).cc.pass.get 2 = .decimate 64 ∧
    answer (.loadTablePass 1 [⟨2, 2, 65⟩]) up = [1, 3, 5, 3, 0] := by decide +kernel

theorem test_load_limit :
    let e : LimitArg := ⟨1, 8500, 400, 11500, 100, 9100, 10900⟩
    (after (.loadTableLimit 1 [e]) up).ed.limits.p1 = ⟨8500, 400, 11500, 100, 9100, 10900⟩ ∧
    (after (.loadTableLimit 1 [e]) (inCampaign .running up)).ed.limits.p1 = .reset := by decide +kernel

theorem test_load_grid :
    (after (.loadTableGrid 1 [⟨1, [12500, 15000]⟩]) up).ed.grid.swell = [12500, 15000] := by decide +kernel

/-- Section 5.2: 73,536 lies outside 1 to 10,000, so the list is refused INVALID and the table stays. -/
theorem test_load_grid_wide :
    answer (.loadTableGrid 1 [⟨0, [73536, 7000, 4000, 500]⟩]) up = [1, 3, 5, 3, 0] ∧
    (after (.loadTableGrid 1 [⟨0, [73536, 7000, 4000, 500]⟩]) up).ed.grid = .reset := by decide +kernel

/-- DROP entries have no divisor: 0xFF (R199). -/
theorem test_read_pass : answer (.readTablePass 5) up = [5, 4, 0, 0, 0, 0, 0, 0xFF, 1, 0, 0xFF, 2, 0, 0xFF, 3, 0, 0xFF] := by
  decide +kernel

/-- V1 by default: module 0, slot A, enabled, gain 32,768, offset 0, DEFAULT. -/
theorem test_read_channel :
    (answer (.readTableChannel 5) up).take 14 = [5, 4, 0, 0, 0, 0, 0, 0, 1, 0, 0x80, 0, 0, 0] := by decide +kernel

/-- dip_start 9,000 is 0x2328, intr_start 500 is 0x01F4. -/
theorem test_read_limit : (answer (.readTableLimit 5) up).take 9 = [5, 4, 0, 0, 0, 0x28, 0x23, 0xF4, 0x01] := by
  decide +kernel

/-- The first residual threshold is 8,000, 0x1F40. -/
theorem test_read_grid : (answer (.readTableGrid 5) up).take 7 = [5, 4, 0, 0, 0, 0x40, 0x1F] := by decide +kernel

theorem test_start :
    let t := after (.start 1) (mounted.setSl State.reset.sl)
    t.ia.state = .arming ∧ t.ia.number = 1 ∧ t.rq.next = .number 4501 := by decide +kernel

theorem test_start_refused : answer (.start 1) up = [1, 5, 5, 2, 0] := by decide +kernel

theorem test_stop :
    let t := after (.stop 2) (inCampaign .arming (mounted.setSl State.reset.sl))
    t.ia.state = .stopping ∧ t.ia.endSeq = some 4499 ∧ t.ia.stopTag = some 2 := by decide +kernel

theorem test_restart :
    let t := after (.restart 2) (inCampaign .running (withModule 1 qualified losing))
    t.ia.state = .stopped ∧ t.ct.state = .freerun ∧ t.ct.last = some ⟨7, 0, .crossing⟩ ∧
    (t.mm.mods.get 1).state = .unqualified ∧ t.lr.strobe = 160 := by decide +kernel

/-- In RUNNING and FILLING the capture starts at set 157 after strobe 160, and ends 6 × 256 strobes on. -/
theorem test_capture :
    let t := after (.capture 7) (inCampaign .running losing)
    t.cu.state = .collecting ∧ t.cu.hand.map Capture.postEnd = some 1693 ∧
    answer (.capture 7) (inCampaign .running losing) = [7, 8, 0, 0, 0, 1] := by decide +kernel

theorem test_ack :
    let s := up.setSl { up.sl with latched := 0x1800 }
    (after (.ack 1 0x0830) s).sl.latched = 0x1000 ∧ answer (.ack 1 0x0830) s = [1, 9, 0, 0, 0, 0x30, 0, 0, 0] := by
  decide +kernel

theorem test_status : (answer (.status 6) up).length = 5 + 322 ∧ (answer (.status 6) up).take 5 = [6, 10, 0, 0, 0] := by
  decide +kernel

/-- R199 and section 12.5: the places of an empty fetch queue hold no module, no mark and no tag. -/
theorem test_status_fetch_queue :
    ((statusBus up).drop 3).take 13 = [0, 0xFF, 0, 0, 0xFF, 0, 0, 0xFF, 0, 0, 0xFF, 0, 0] := by decide

/-- R199 and section 12.5: a mark age that reads as none, a post end outside COLLECTING, the number of no boundary and of no
interval are 0, since all ones is a value of each. -/
theorem test_status_absent :
    ((statusTime up).drop 8).take 5 = [0, 0, 0, 0, 0] ∧ (statusCapture up).drop 9 = [0, 0, 0, 0, 0xFF, 0xFF, 0xFF, 0xFF, 0xFF] ∧
    (boundaryBytes none).take 5 = [0, 0, 0, 0, 0xFF] ∧ ((statusCampaign up).drop 7).take 5 = [0, 0, 0, 0, 0xFF] := by decide

theorem test_mount :
    (after (.mount 1) up).sr.state = .mounting ∧ (after (.mount 1) up).sw.logical = 4096 ∧
    (after (.mount 1) up).sr.flight.map InFlight.op = some (.readPage 0 0) := by decide +kernel

theorem test_format :
    (after (.format 1) up).sr.state = .formatting ∧
    (after (.format 1) up).sr.flight.map InFlight.op = some (.erase 0) := by decide +kernel

theorem test_map_load :
    let s := up.setSl { up.sl with settings := { up.sl.settings with mapMode := .mapped } }
    (after (.mapLoad 1 0 [5, 6]) s).sr.flight.map InFlight.op = some .eraseMap ∧
    answer (.mapLoad 1 0 [5, 5]) s = [1, 13, 5, 3, 0, 0] := by decide +kernel

theorem test_unmount :
    (after (.unmount 1) mounted).sr.state = .unmounted ∧
    answer (.unmount 1) (inCampaign .running mounted) = [1, 14, 5, 2, 0] := by decide +kernel

theorem test_release :
    (after (.release 1 5000) mounted).sw.watermark = 5000 ∧ answer (.release 1 4018) mounted = [1, 15, 5, 3, 0] := by
  decide +kernel

/-- Section 9.9: the first probe of the bisection is the header of page 0 of sector 7. -/
theorem test_read_records :
    (after (.readRecords 9 4300 3) mounted).sr.flight.map InFlight.op = some (.readHeader 7 0) := by decide +kernel

theorem test_cancel_read :
    answer (.cancelRead 1 9) mounted = [1, 17, 5, 3, 0] ∧
    (after (.cancelRead 1 9) (after (.readRecords 9 4300 3) mounted)).sr.queue = [] := by decide +kernel

theorem test_module_read_refused :
    answer (.moduleRead 1 0x78 0 1) (stationOwned up) = [1, 18, 5, 3, 0] ∧
    answer (.moduleRead 1 0x50 0 1) up = [1, 18, 5, 2, 0] := by decide +kernel

theorem test_module_write_refused :
    answer (.moduleWrite 1 0x50 255 [1, 2]) (stationOwned up) = [1, 19, 5, 3, 0] := by decide +kernel

theorem test_module_fetch_refused :
    answer (.moduleFetch 1 4) up = [1, 20, 5, 3, 0] ∧ answer (.moduleFetch 1 0) (stationOwned up) = [1, 20, 5, 2, 0] := by
  decide +kernel

theorem test_module_abort :
    (after (.moduleAbort 1) up).mb.state = .recovering ∧ answer (.moduleAbort 1) up = [1, 21, 2, 0, 0] := by decide +kernel

theorem test_transmit_end :
    let s := up.setSl { up.sl with
      tx := some ⟨.reply, []⟩, replies := [plainReply 7 2 .ok .none, plainReply 8 2 .ok .none] }
    answer .frameTransmitEnd s = [7, 2, 0, 0, 0] ∧ (after .frameTransmitEnd s).sl.replies = [plainReply 8 2 .ok .none] := by
  decide +kernel

/-- A page program in flight at the head. -/
def programming (s : State) : State := flying (.program 2 6 []) (some .writer) s

theorem test_program_done :
    (after .pageProgramDone (programming mounted)).sw.head = some ⟨2, 7⟩ ∧
    (after .pageProgramDone (programming mounted)).sw.serial = .number 1143 := by decide +kernel

theorem test_program_failed :
    (after .pageProgramFailed (programming mounted)).sr.cause = some .program ∧
    (after .pageProgramFailed (programming mapped)).sr.flight.map InFlight.op = some (.retireMap 2) := by decide +kernel

theorem test_map_program :
    let s := tasked [.retire 2 true] (flying (.retireMap 2) (some .writer) mapped)
    (after (.mapByteProgramEnd true) s).sw.streak = 1 ∧ (after (.mapByteProgramEnd true) s).sw.head = some ⟨3, 0⟩ ∧
    (after (.mapByteProgramEnd false) s).sr.cause = some .map := by decide +kernel

theorem test_erase_done :
    let s := tasked [.erase] (flying (.erase 2) (some .writer) (mounted.setSw { mounted.sw with headErased := false }))
    (after .sectorEraseDone s).sw.headErased = true ∧ (after .sectorEraseFailed s).sr.cause = some .erase := by
  decide +kernel

/-- A page header of section 12.6 with seq_ref 4,402, starts 2. -/
def header4402 : List Byte := PageHeader.bytes ⟨false, 1120, 4402, 2, 0⟩

/-- Bytes as one vector, byte 0 in the low bits. -/
def pack (w : Nat) (bs : List Byte) : BitVec w := BitVec.ofNat w (leNat bs)

theorem test_header_read :
    let s := tasked [.readTail, .erase] (flying (.readHeader 3 0) (some .writer) mounted)
    (after (.headerReadDone (pack 128 header4402)) s).sw.tailSeq = 4402 := by decide +kernel

/-- Map entry: sector 5, USABLE; its check byte is 0x5A XOR 0x05 = 0x5F (R142). -/
theorem test_map_entry :
    let s := tasked [.seekHead] (flying (.readMap 2) (some .writer) mapped)
    (after (.mapEntryReadDone 0x5FFF0005) s).cache = [⟨2, 5, true⟩] ∧
    (after (.mapEntryReadDone 0x5EFF0005) s).sl.latched = 0x40000 := by decide +kernel

/-- A map entry read that its requester no longer awaits. -/
def strayRead (s : State) : State := s.setSr { s.sr with flight := some ⟨.readMap 2, some .reader, 0, true⟩ }

/-- A map entry read of a readback that a store fault ended goes to the cache of the MAPPED store it was asked for, and after an
UNMOUNT leaves the cache of a MOUNT in DIRECT or MAPPED mode empty (R143). -/
theorem test_stray_map_entry :
    let done := fun s => (after (.mapEntryReadDone 0x5FFF0005) (strayRead s)).cache
    done (inStore .faulted mapped) = [⟨2, 5, true⟩] ∧ done (working (.mount .start) (inStore .mounting mounted)) = [] ∧
    done (working (.mount .start) (inStore .mounting mapped)) = [] ∧ done (inStore .unmounted mapped) = [] := by
  decide +kernel

/-- An all-0xFF page 0 of the first sector is EMPTY (R161). -/
theorem test_mount_page :
    let s := after (.mount 1) up
    let t := after (.mountPageReadDone (BitVec.allOnes 2048)) s
    t.sr.flight.map InFlight.op = some (.readPage 1 0) := by decide +kernel

/-- Section 9.9: sector 7 has key 4,275 ≤ 4,300, so the next probe is sector 1. -/
theorem test_readback_page :
    let s := after (.readRecords 9 4300 3) mounted
    let t := after (.readbackPageReadDone (pack 2048 (PageHeader.bytes ⟨false, 1088, 4275, 2, 0⟩))) s
    t.sr.flight.map InFlight.op = some (.readHeader 1 0) := by decide +kernel

/-- A MAPPED store of 4 sectors in MOUNTING, the first three EMPTY and cached, with the map entry of the last being read. -/
def blankScan : State :=
  let s := mapped.setSw { mapped.sw with sectors := 16, logical := 4, head := none, headErased := false, tail := none, usable := 3 }
  let s := s.setCache [⟨0, 5, true⟩, ⟨1, 6, true⟩, ⟨2, 7, true⟩]
  working (.mount { MountJob.start with next := 3, empty := 3, firstUsable := some 0 })
    (flying (.readMap 3) none (inStore .mounting s))

/-- The mount ends at a last sector that reads RETIRED; the erase-ahead of sector 0 uses its cached translation, which becomes
the most recently used (R143). The map entry: sector 8, state byte 0x00, check byte 0x5A XOR 0x08 = 0x52. -/
theorem test_mount_end_hit :
    let t := after (.mapEntryReadDone 0x52000008) blankScan
    t.sr.state = .mounted ∧ t.sr.flight.map InFlight.op = some (.erase 5) ∧
    t.cache.map Translation.logical = [1, 2, 3, 0] := by decide +kernel

/-- A flush is due in a sector found RETIRED: the head goes on to the next sector, whose cached translation is used without
another read of its map entry (R143). -/
theorem test_head_hit_not_read :
    let s := mapped.setSw { mapped.sw with head := some ⟨4, 6⟩, buffer := [1], flushDue := true }
    let t := storeSettle (s.setCache [⟨5, 9, true⟩, ⟨4, 8, false⟩])
    t.sw.head = some ⟨5, 0⟩ ∧ t.sr.flight.map InFlight.op = some (.erase 9) ∧
    t.cache.map Translation.logical = [4, 5] := by decide +kernel

/-- A readback in LOCATING with the head at page 0 of sector 6, the tail at sector 3 and sector 5 RETIRED or not. -/
def locating (cache : List Translation) : State :=
  let s := mapped.setSw { mapped.sw with head := some ⟨6, 0⟩ }
  (s.setCache cache).setSr { s.sr with queue := [⟨9, 4300, 3⟩], current := some (Readback.begin ⟨9, 4300, 3⟩) }

/-- The span's last page lies in sector 4 when sector 5 is RETIRED, so D is 1 and the first probe is at distance 1; D is 2 when
sector 5 is USABLE; and its map entry is read when it is not cached (R167). -/
theorem test_locate_last_sector :
    let phase := fun s : State => (readerAdvance s).sr.current.map Readback.phase
    phase (locating [⟨4, 8, true⟩, ⟨5, 9, false⟩]) = some (.sectors 0 2 none (some (1, 1))) ∧
    phase (locating [⟨4, 8, true⟩, ⟨5, 9, true⟩]) = some (.sectors 0 3 none (some (1, 1))) ∧
    readerRequest (readerAdvance (locating [⟨4, 8, true⟩])) = some (.readMap 5) := by decide +kernel

theorem test_store_timeout :
    (after .storeOperationTimeout (programming mounted)).sr.cause = some .timeout ∧
    (after .storeOperationTimeout (programming mounted)).sw.serial = .number 1142 := by decide +kernel

/-- A calibration block of section 10: gains 0x8001 and 0x8002, offsets 3 and −4, format version 1. -/
def calBlock : List Byte :=
  let b : List Byte := [0x01, 0x80, 3, 0, 0x02, 0x80, 0xFC, 0xFF, 0, 0, 0, 0, 1, 0]
  b ++ crc16Bytes b

theorem test_fetch_complete :
    let s := busy (.fetch 2 15) (up.setMb { up.mb with queue := [⟨2, true, false, none⟩] })
    let t := after (.fetchComplete (pack 128 calBlock)) s
    (t.cc.table.get .v3).gain = 0x8001 ∧ (t.cc.table.get .neutral).cal = .default ∧ t.mb.lastFetch.get 2 = .good ∧
    (after (.fetchComplete 0) s).sl.latched = 0x1000 := by decide +kernel

theorem test_no_ack :
    let s := busy (.fetch 2 0) (up.setMb { up.mb with queue := [⟨2, true, false, none⟩] })
    (after (.busNoAck 0) s).mb.queue = [⟨2, true, true, none⟩] ∧ (after (.busNoAck 0) s).mb.retryHold.get 2 = 262144 := by
  decide +kernel

theorem test_hold_expiry :
    let s := stationOwned (up.setMb { up.mb with retryHold := ⟨0, 0, 99, 0⟩ })
    (after (.retryHoldExpiry 2) s).mb.retryHold.get 2 = 0 := by decide +kernel

theorem test_read_complete :
    answer (.moduleReadComplete 0x030201) (busy (.read 4 0x50 0 2 2) (stationOwned up)) = [4, 18, 3, 0, 0, 2, 1, 2] := by
  decide +kernel

theorem test_write_complete :
    let s := busy (.write 4 0x51 0x1F [1, 2] 2) (stationOwned up)
    answer .moduleWriteComplete s = [4, 19, 3, 0, 0] ∧ (after .moduleWriteComplete s).mb.queue.map FetchEntry.module = [1] := by
  decide +kernel

theorem test_clock_held :
    let s := busy (.read 4 0x50 0 2 1) (stationOwned up)
    (after (.busClockHeld 0) s).mb.state = .hung ∧ answer (.busClockHeld 0) s = [4, 18, 4, 7, 0] := by decide +kernel

theorem test_recovery :
    let s := up.setMb { up.mb with state := .recovering, abortTag := some 8 }
    answer (.recoveryEnd true) s = [8, 21, 3, 0, 0] ∧ (after (.recoveryEnd false) s).mb.state = .hung := by decide +kernel

theorem test_restart_cut :
    let s := busy (.read 4 0x50 0 2 1) (stationOwned up)
    answer (.busRestartCut 0) (s.setMb { s.mb with cut := true }) = [4, 18, 4, 1, 1] := by decide +kernel

theorem test_idle_step : step up = .next up := rfl


/-! ## Witnesses

For every statement with hypotheses, states and operands that meet them together, clause by clause. -/

theorem witness_StepRunsFrontCommand :
    (up.setPending [.linkUp]).pending = [.linkUp] ∧ State.reset.pending = [] := by decide

theorem witness_SettleKeepsCalmStatesAndClock :
    Calm up = true ∧ Calm (mounted.setSw { mounted.sw with buffer := [1] }) = true ∧ mounted.sl.orders = [] := by
  decide +kernel

theorem witness_RangesStayWellFormed :
    let s := (up.setPending [.linkDown]).setTb { up.tb with seconds := 4294967295, sub := 2047999999 }
    TimeWf s ∧ MonitorWf (s.setMm { s.mm with count := 127 }) ∧ FetchWf s ∧ ReadbackWf s ∧ EventsWf s ∧
      ∃ t, step s = .next t := by
  refine ⟨?_, ?_, ?_, ?_, ?_, ⟨_, rfl⟩⟩ <;> decide

/-- A record of 20 + 4 bytes and more, all of them appended and none programmed. -/
def endEntry : Entry :=
  let r : Record := { quality := .unset, campaign := 1, sequence := 4499, stamp := ⟨0, 0⟩
                      body := .campaignEnd (endBody false State.reset) }
  ⟨r, r.length [], 0, none, none, false, true⟩

/-- A SETTINGS record that waits with sequence n. -/
def settingsEntry (n : Nat) : Entry :=
  let body : SettingsBody :=
    { cause := .start, applied := 0, intervalSeconds := 600, activeProfile := 0, attribThreshold := 5000,
      attribFloor := 10000, profile := .reset }
  ⟨{ quality := .unset, campaign := 1, sequence := n, stamp := ⟨0, 0⟩, body := .settings body }, 0, 0, none, none,
    false, false⟩

/-- A capture in hand with 8 triggers listed. -/
def fullCapture : Capture :=
  { channels := 255, decim := 1, pre := 2, post := 6, extend := true, limit := 4096, points := [], prePoints := 0,
    postEnd := 2000, triggers := List.replicate 8 ⟨.order, 0, 1, .started⟩, overflow := 254, startStrobe := 1,
    startStamp := ⟨0, 0⟩, truncated := false, cut := false }

/-- Every buffer full, an inbound frame on its way. -/
def brimming : State :=
  let s := up.setPending [.inboundFrameDiscard []]
  let s := s.setSl { s.sl with orders := List.replicate 4 ⟨1, 10, [], true⟩ }
  let s := s.setCc { s.cc with buffer := List.replicate 32 ⟨1, 0, 0, 0, 0, .freerun⟩ }
  let s := s.setRq { s.rq with entries := List.replicate 15 (settingsEntry 1) ++ [endEntry] }
  let s := s.setSr { s.sr with
    queue := List.replicate 4 ⟨9, 4300, 3⟩, current := some (Readback.begin ⟨9, 4300, 3⟩) }
  let s := s.setSw { s.sw with buffer := List.replicate 240 0, mode := .mapped }
  let s := s.setCache ((List.range 8).map fun n => ⟨n, n + 1, true⟩)
  s.setCu { s.cu with hand := some fullCapture }

theorem witness_BuffersStayInBounds : BuffersWf brimming ∧ ∃ t, step brimming = .next t := by
  refine ⟨⟨?_, ?_, ?_, ?_, ?_, ?_, ?_, ?_, ?_, ?_⟩, ⟨_, rfl⟩⟩ <;> decide +kernel

/-- The reply queue full: 27 replies and a place for each of an UNMOUNT, a readback, a CANCEL READ, a fetch and a
transaction. -/
def owing : State :=
  let s := up.setPending [.busNoAck 0]
  let s := s.setSl { s.sl with
    replies := List.replicate 27 (plainReply 1 10 .ok .none), reserved := 5, storeOrder := some (.unmount, 4) }
  let s := s.setSr { s.sr with
    queue := [⟨9, 4300, 3⟩], current := some { Readback.begin ⟨9, 4300, 3⟩ with cancel := true, waiters := [8] } }
  s.setMb { s.mb with
    state := .busy, transaction := some (.read 4 0x50 0 2 1), queue := [⟨2, true, false, some 7⟩] }

theorem witness_RepliesKeepTheirPlaces : RepliesWf owing ∧ ∃ t, step owing = .next t := by
  refine ⟨⟨?_, ?_, ?_, ?_, ?_, ?_, ?_, ?_, ?_⟩, ⟨_, rfl⟩⟩ <;> decide

theorem witness_StrobeIndexMovesOnlyAtIssues : ∃ t, exec .strobeIssue up = .next t := ⟨_, rfl⟩

theorem witness_OrderFormsRoundTrip :
    (∃ o, Machine.orderOf (.readRecords 255 0xFFFFFFFF 256) = some o) ∧ (Instr.readRecords 255 0xFFFFFFFF 256).fits = true ∧
    (∃ o, Machine.orderOf (.orderUnknownKind 1 255 []) = some o) ∧ (Instr.orderUnknownKind 1 255 []).fits = true ∧
    (∃ o, Machine.orderOf (.mapLoad 1 1023 (List.replicate 64 0xFFFF)) = some o) ∧
    (Instr.mapLoad 1 1023 (List.replicate 64 0xFFFF)).fits = true := by
  refine ⟨⟨_, rfl⟩, ?_, ⟨_, rfl⟩, ?_, ⟨_, rfl⟩, ?_⟩ <;> decide +kernel

theorem witness_LayoutsReadBack :
    (List.replicate 1024 (0 : Byte)).length ≤ 1024 ∧ 15 < 16 ∧ 255 < 256 ∧ (-8388608 : Int) ≤ -8388608 ∧
    (8388607 : Int) ≤ 8388607 ∧ 4294967295 < 4294967296 ∧
    readLinkFrame (inboundFrame 3 [1, 2]) = .discard ∧
    readHeader (PageHeader.bytes ⟨true, 4294967295, 4294967295, 255, 240⟩) =
      some ⟨true, 4294967295, 4294967295, 255, 240⟩ := by decide +kernel

/-- A frame whose check byte is wrong. -/
def badLane : List Byte := (laneBytes 3 86 0 1 2).take 9 ++ [0]

theorem witness_LaneFrameOutcomes :
    readLaneFrame (laneBytes 3 86 0 (-8388608) 8388607) = some (3, 86, ⟨-8388608, 8388607, false, false, false⟩) ∧
    (strobe599.mm.mods.get 3).state ≠ .disabled ∧
    (((issueFirst strobe599).lr.slots.get 3).find? fun x => x.index % 256 == 86) = some ⟨598, none⟩ ∧
    (((issueFirst strobe599).lr.slots.get 3).find? fun x => x.index % 256 == 85).isSome = true ∧
    (((issueFirst strobe599).lr.slots.get 3).find? fun x => x.index % 256 == 84) = none ∧
    crc8 (badLane.take 9) ≠ (badLane.drop 9).headD 0 ∧ ([] : List Byte).length ≠ 10 ∧
    4 ≤ fieldNat [4, 0, 0, 0, 0, 0, 0, 0, 0, 0] 0 1 ∧
    ((withModule 3 { qualified with state := .disabled } up).mm.mods.get 3).state = .disabled := by decide +kernel

theorem witness_LaneFrameMatchesModulo256 :
    ((512 : Nat) : Int) - (0 : Nat) = 256 * 2 ∧ (State.reset.mm.mods.get 0).state ≠ .disabled ∧
    { index := 0, frame := none } ∈ State.reset.lr.slots.get 0 ∧
    ∀ z ∈ State.reset.lr.slots.get 0, z.index % 256 = 0 % 256 → z = { index := 0, frame := none } := by decide

theorem witness_MonitorWindowExpiryJudges :
    unqualified.state = .unqualified ∧ qualified.state = .qualified ∧ (up.setMm { up.mm with count := 127 }).mm.count = 127 ∧ (unqualified.state ≠ .qualified) := by decide

theorem witness_StrobeIssueMovesTheLane :
    up.lr.strobe + 1 < 281474976710656 ∧ 281474976710654 + 1 < 281474976710656 := by decide

theorem witness_DueBoundariesPlaced :
    (freerun 131).ct.state = .freerun ∧ (freerun 131).ct.last = some ⟨7, 0, .synthetic⟩ ∧ 4 ≤ nextStrobe (freerun 131) ∧
    32768 ≤ (nextStrobe (freerun 131) - 4) * 256 ∧ (nextStrobe (freerun 131) - 4) * 256 < 32768 + 256 ∧
    (let s := up.setLr { up.lr with strobe := 3 }; s.ct.state = .freerun ∧ s.ct.last = none ∧ nextStrobe s = 4) ∧
    holdover.ct.state = .holdover ∧ holdover.ct.last = some ⟨7, 0, .synthetic⟩ ∧ 4 ≤ nextStrobe holdover ∧
    30000 ≤ (nextStrobe holdover - 4) * 256 ∧ (nextStrobe holdover - 4) * 256 < 30000 + 256 ∧
    (freerun 131).mm.count < 127 ∧ holdover.mm.count < 127 := by decide

/-- Section 3.9 with offset 0 at position 0: set 5,970 brings V1's crossing at 1,528,304, from −15 to 1. -/
def crossed (x : TrackState) (last : Boundary) (run : List Nat) : State :=
  let s := up.setLr { strobe := 5973, slots := ⟨[⟨5970, some ⟨1, 0, false, false, false⟩⟩], [], [], []⟩ }
  s.setCt { s.ct with
    state := x, reference := some .p1, lastLocked := some .p1, held := some 32768, last := some last, run := run,
    previous := ⟨some (-15), none, none⟩, timer := if x = .acquire then some 1486000 else none }

/-- The set that the next strobe issue brings there. -/
def crossedSet (s : State) : CondSet :=
  condition s.cc.table 5970 (PerModule.of fun m => ((s.lr.slots.get m).find? fun x => x.index + 4 == nextStrobe s).bind Slot.frame)

/-- Section 3.9: the fourth entry locks on V1, too early after boundary 1,046 to be placed; then a crossing 32,768 after a
CROSSING boundary is the held half-period. -/
theorem test_lock_and_accept :
    let t := enterLocked .readyReportPlace (crossed .acquire ⟨1046, 1515520, .synthetic⟩ [1430000, 1462768, 1495536])
    let u := strobeIssueWith [] (crossed .locked ⟨1049, 1495636, .crossing⟩ [])
    offer [1430000, 1462768, 1495536] 1528304 = [1430000, 1462768, 1495536, 1528304] ∧
    t.ct.state = .locked ∧ t.ct.run = [] ∧ t.ct.timer = none ∧ t.sl.latched = 0 ∧
    u.ct.last = some ⟨1050, 1528304, .crossing⟩ ∧ u.ct.held = some 32668 := by decide +kernel

/-- The crossing clauses of DueBoundariesPlaced, at the limits of R41 and R46. -/
theorem witness_DueBoundariesPlaced_crossing :
    let s := crossed .locked ⟨7, 1505008, .crossing⟩ []
    let a := crossed .acquire ⟨7, 1515520, .synthetic⟩ [1430000, 1462768, 1495536]
    s.ct.state = .locked ∧ s.ct.reference = some .p1 ∧ nextStrobe s - 4 = 5970 ∧
    crossingAt 5970 (s.ct.previous.get .p1) ((crossedSet s).values.get .v1) = some 1528304 ∧
    1505008 + 23296 ≤ 1528304 ∧ 1528304 ≤ 1487344 + min (32768 * 5 / 4) 40960 ∧
    1528304 < 1505009 + 23296 ∧ 5970 * 256 < 1505009 + 40960 ∧
    a.ct.state = .acquire ∧ a.mm.count < 127 ∧ 5970 * 256 < 1515520 + a.ct.held.getD 32768 ∧ a.ct.run.length < 4 ∧
    crossingAt 5970 (a.ct.previous.get .p1) ((crossedSet a).values.get .v1) = some 1528304 ∧
    a.ct.run = ([1430000] ++ [1462768]) ++ [1495536] ∧ 1495536 + 23296 ≤ 1528304 ∧ 1528304 ≤ 1495536 + 40960 ∧
    (((1528304 - 1495536 : Nat) : Int) - (1495536 - 1462768 : Nat)).natAbs * 8 ≤ 1495536 - 1462768 ∧
    ¬ (((1528304 - 1495536 : Nat) : Int) - (1495536 - 1470000 : Nat)).natAbs * 8 ≤ 1495536 - 1470000 ∧
    1528304 < 1515520 + 23296 ∧ 1528304 < 1505009 + 23296 ∧ 1487343 + 40960 < 1528304 ∧
    (crossed .acquire ⟨7, 1505008, .synthetic⟩ []).ct.run = [] ∧ 5970 * 256 < 1505008 + 32768 := by decide +kernel

theorem witness_TrackerTimeouts :
    losing.ct.state = .locked ∧ losing.ct.last = some ⟨7, 0, .crossing⟩ ∧ 4 ≤ nextStrobe losing ∧
    0 + min (32000 * 5 / 4) 40960 ≤ (nextStrobe losing - 4) * 256 ∧
    crossingAt (nextStrobe losing - 4) (losing.ct.previous.get .p1) 8388607 = none ∧
    (let s := (losing.setLr { losing.lr with strobe := 163 }).setCt
        { losing.ct with last := some ⟨7, 0, .synthetic⟩, align := 1 };
      s.ct.last = some ⟨7, 0, .synthetic⟩ ∧ crossingDue s = true ∧ s.ct.align < 2) ∧
    (let s := (holdover.setLr { holdover.lr with strobe := 120 }).setCt { holdover.ct with timer := some 32767744 };
      s.ct.state = .holdover ∧ s.ct.last = some ⟨7, 0, .synthetic⟩ ∧ heldDue s = false ∧ s.ct.timer = some 32767744 ∧
        s.sl.settings.holdoverLimit * 3276800 ≤ 32767744 + 256 ∧ 4 ≤ nextStrobe s) ∧
    (let s := (holdover.setLr { holdover.lr with strobe := 120 }).setCt
        { holdover.ct with state := .acquire, timer := some 32767744, run := [1, 2] };
      s.ct.state = .acquire ∧ s.ct.last = some ⟨7, 0, .synthetic⟩ ∧ heldDue s = false ∧ s.ct.reference = some .p1 ∧
        s.ct.run.length < 3) ∧
    (let s := holdover.setCt { holdover.ct with state := .acquire, timer := some 32767744 };
      heldDue s = true ∧ s.ct.run.length < 3 ∧ s.sl.settings.holdoverLimit * 3276800 ≤ 32767744 + 256 ∧
        4 ≤ nextStrobe s) := by
  decide +kernel

/-- The reference decision: V1 at TRACK_FLOOR on a QUALIFIED module, V2 one below it. -/
def deciding (x : TrackState) (reference : Phase) (held : Option Nat) : State :=
  let s := up.setMm { up.mm with mods := ⟨qualified, qualified, unqualified, unqualified⟩ }
  s.setCt { s.ct with state := x, reference := some reference, held := held }

/-- MANUAL on a phase. -/
def manual (p : Phase) (s : State) : State :=
  s.setSl { s.sl with settings := { s.sl.settings with refMode := .manual, refManual := p } }

def floorValues : PerChannel (Option Nat) := ⟨some 2000, some 1999, none, none, none, none, none, none⟩

/-- What the decision clauses of TrackerTimeouts ask for: V1 is eligible and V2 is not, in AUTO and in MANUAL, V1 preferred
before V2, and a count of 99. -/
theorem witness_TrackerTimeouts_decision :
    let s := deciding .locked .p2 none
    (s.cc.table.get Phase.p1.voltage).enabled = true ∧
    (s.mm.mods.get (s.cc.table.get Phase.p1.voltage).module).state = .qualified ∧
    floorValues.get Phase.p1.voltage = some 2000 ∧ s.sl.settings.trackFloor ≤ 2000 ∧
    floorValues.get Phase.p2.voltage = some 1999 ∧ ¬ s.sl.settings.trackFloor ≤ 1999 ∧
    s.ct.state = .locked ∧ s.ct.reference = some .p2 ∧ s.ct.held = none ∧
    (deciding .acquire .p1 (some 30000)).ct.held = some 30000 ∧ (manual .p2 s).sl.settings.refMode = .manual ∧
    (manual .p1 s).sl.settings.refManual ≠ .p2 ∧ s.sl.settings.refMode = .auto ∧
    s.sl.settings.refPriority = [] ++ .p1 :: [.p2, .p3] ∧ (Phase.p1 ≠ .p2) ∧ s.sl.settings.revertive = false ∧
    ({ s.ct with timer := some 0 } : CT).timer = some 0 ∧ 0 + 256 < 1 * 3276800 := by decide

/-- R45, R47 to R49 on that state: FREERUN acquires on V1, an ineligible reference is left, 100 boundaries switch. -/
theorem test_reference_decision :
    let on := fun (s : State) => s.setSl { s.sl with settings := { s.sl.settings with revertive := true, trackFloor := 1999 } }
    let counted := fun (s : State) => s.setCt { s.ct with revertPhase := some .p1, revertCount := 99 }
    (decideReference floorValues (deciding .freerun .p2 none)).ct.reference = some .p1 ∧
    (decideReference floorValues (deciding .acquire .p2 (some 30000))).ct.state = .holdover ∧
    (decideReference floorValues (deciding .locked .p2 none)).ct.state = .freerun ∧
    (decideReference floorValues (on (deciding .locked .p2 none))).ct.revertCount = 1 ∧
    (decideReference floorValues (counted (on (deciding .locked .p2 none)))).ct.state = .acquire := by decide

theorem witness_MeasurementArithmetic :
    ((-1 : Int) < 0 ∧ (0 : Int) ≤ 0) ∧ ((0 : Int) ≤ 8388606 ∧ (-8388607 : Int) < 0) ∧ isMarker 8388607 = true ∧
    ((0 : Int) ≤ 0 ∧ (0 : Int) ≤ 5) ∧ isMarker (-1) = false ∧ isMarker 8388606 = false ∧
    isMarker (-8388607) = false ∧ isMarker 0 = false ∧ 2 ^ 96 - 1 < 2 ^ 96 ∧
    (((-3 : Int) - 0) * (16384 : Nat)).natAbs + 16384 < 8388607 * 32768 ∧
    (8388607 * 32768 ≤ ((8388606 : Int) - (-1)) * (32768 : Nat) + 16384) ∧
    (((-8388608 : Int) - 0) * (32768 : Nat) - 16384 ≤ -(8388607 * 32768)) ∧
    0 < 655100 ∧ 2 * 10 * 23296 ≤ 465920 ∧ 465920 ≤ 2 * 10 * 40960 ∧ 2 * 10 * 23296 ≤ 819200 ∧
    819200 ≤ 2 * 10 * 40960 := by decide

/-- A conditioned set: V1 at −5, V2 a marker with its overrange mark. -/
def someSet (k : Nat) : CondSet :=
  ⟨k, ⟨1, 2, 3, 4⟩, ⟨5, 6, 7, 8⟩, ⟨-5, 8388607, 100, -8388608, 1, 2, 3, 4⟩,
    ⟨false, true, false, false, false, false, false, false⟩⟩

/-- The forwarder with a set held and a full buffer. -/
def forwarding (frames : Nat) : State :=
  (freerun 131).setCc { up.cc with
    held := some (someSet 127), buffer := List.replicate frames ⟨1, 0, 0, 0, 0, .freerun⟩, pass := ⟨.all, .all, .all, .all⟩ }

/-- Section 2.2: AM0 answers, V1 from its slot A and no enabled role from its slot B; AM1 with the fault bit; AM2 silent. -/
def halfTable : PerChannel ChanEntry :=
  up.cc.table.set .i1 { up.cc.table.get .i1 with enabled := false }

def threeFrames : PerModule (Option LaneFrame) :=
  ⟨some ⟨8388607, 5, false, true, false⟩, some ⟨1, 2, true, false, true⟩, none, some ⟨-3, 4, true, false, false⟩⟩

theorem test_condition :
    let c := condition halfTable 9 threeFrames
    c.slotA = ⟨8388606, -8388608, 8388607, -3⟩ ∧ c.slotB = ⟨8388607, -8388608, 8388607, 4⟩ ∧
    c.overrange = ⟨true, false, false, true, false, false, false, false⟩ ∧ c.values.get .i1 = 8388607 := by decide

theorem witness_ForwarderTakesTheHeldSet_condition :
    threeFrames.get 2 = none ∧ (threeFrames.get 1).map LaneFrame.fault = some true ∧
    (threeFrames.get 0).map LaneFrame.fault = some false ∧ (halfTable.get .v1).enabled = true ∧
    (∀ c ∈ allChannels, (halfTable.get c).enabled = true → (halfTable.get c).module = 0 → c = .v1) ∧
    (halfTable.get .v1).slotB = false ∧ (halfTable.get .i1).enabled = false := by decide

theorem witness_ForwarderTakesTheHeldSet :
    (forwarding 32).cc.held = some (someSet 127) ∧ (forwarding 32).cc.buffer.length ≤ 32 ∧
    (forwarding 32).sl.linkUp = true ∧ 32 < (forwarding 32).cc.buffer.length + 1 ∧
    (forwarding 28).cc.buffer.length + 4 ≤ 32 ∧ 4 ≤ nextStrobe (forwarding 32) ∧
    (after .linkDown (forwarding 0)).sl.linkUp = false := by decide +kernel

/-- Two frames of modules AM0 and AM1 fill a buffer of 30; the third is dropped, and FORWARD_LOSS is latched. -/
theorem test_forward_loss :
    let t := forwardHeld false (someSet 128) (forwarding 30)
    t.cc.buffer.length = 32 ∧ t.sl.latched = 0x10000 ∧ (forwardHeld false (someSet 128) (forwarding 28)).sl.latched = 0 := by
  decide +kernel

/-- Half-cycle records of a channel: present, previous absent, or cut. -/
def measuring (x : ChanSums) (w : Option Window) : State :=
  let s := up.setMu { up.mu with channels := PerChannel.of fun _ => x, window := w }
  inCampaign .running (s.setIa { s.ia with interval := some (.opened 3 ⟨0, 0⟩ false) })

/-- The window that began at boundary 2. -/
def openWindow (flags : BitVec 8) : Window :=
  { number := 3, cycles := 10, startNumber := 2, startPosition := 4640, startStamp := ⟨0, 0⟩,
    sums := PerChannel.of fun _ => ⟨100, 7, 8⟩, flags := flags }

/-- 7 of 8 strobes present is enough for a cycle value, 6 of 8 is not (R57): 2,000,000² as a magnitude of 5,000,000. -/
theorem test_sliding_value :
    let s := measuring ⟨some ⟨14 * 4000000000000, 14, 16⟩, some ⟨14 * 4000000000000, 14, 16⟩, false⟩ none
    (boundaryWork ⟨3, 660000, .crossing⟩ 2579 s).1.get .v1 = some 4000 ∧
    (boundaryWork ⟨3, 660000, .crossing⟩ 2579 s).1.get .i1 = some 2000000 ∧
    (boundaryWork ⟨3, 660000, .crossing⟩ 2579
      (measuring ⟨some ⟨4, 13, 16⟩, some ⟨4, 14, 16⟩, false⟩ none)).1.get .v1 = none := by decide +kernel

theorem witness_SlidingMagnitudes :
    let s := measuring ⟨some ⟨4, 14, 16⟩, some ⟨4, 14, 16⟩, false⟩ (some (openWindow 0))
    (s.mu.channels.get .v1).running = some ⟨4, 14, 16⟩ ∧ s.mu.window = some (openWindow 0) ∧
    (s.mu.channels.get .v1).previous = some ⟨4, 14, 16⟩ ∧ (s.mu.channels.get .v1).cut = false ∧
    7 * (16 + 16) ≤ (14 + 14) * 8 ∧ (14 + 13) * 8 < 7 * (16 + 16) ∧ Channel.isVoltage .v1 = true ∧
    Channel.isVoltage .i1 = false ∧
    ((measuring ⟨none, some ⟨4, 14, 16⟩, true⟩ none).mu.channels.get .v1).previous = none := by decide +kernel

theorem witness_WindowsAndFlags :
    let s := measuring ⟨none, none, false⟩ (some (openWindow 0))
    let t := measuring ⟨none, none, false⟩ none
    s.mu.window = some (openWindow 0) ∧ (22 : Nat) = (2 + 2 * 10) % 4294967296 ∧ 21 ≠ (2 + 2 * 10) % 4294967296 ∧
    s.ia.interval = some (.opened 3 ⟨0, 0⟩ false) ∧ t.mu.window = none ∧ t.ia.state = .running ∧ 22 % 2 = 0 ∧
    21 % 2 = 1 ∧ (up.mu.window = none ∧ up.ia.state ≠ .running) ∧
    ¬ ((openWindow 0).sums.get .v1).present * 8 < 7 * ((openWindow 0).sums.get .v1).strobes ∧
    (openWindow 0).flags = 0 := by decide +kernel

/-- All modules QUALIFIED, RUNNING, and three voltages at a boundary. -/
def eventful (dip swell : Option OpenEvent) : State :=
  let s := up.setMm { up.mm with mods := ⟨qualified, qualified, qualified, qualified⟩ }
  let s := inCampaign .running (s.setEd { s.ed with dip := dip, swell := swell })
  s.setIa { s.ia with interval := some (.opened 3 ⟨0, 0⟩ false) }

/-- The boundary with three voltages. -/
def atBoundary (v1 v2 v3 : Option Nat) : BoundaryWork :=
  { boundary := ⟨10, 60000, .crossing⟩, stamp := ⟨1, 1⟩, k := 240, values := ⟨v1, v2, v3, none, some 10, none, some 30, none⟩ }

/-- The dip opened at that boundary, an INTERRUPTION when all three lie below 500. -/
def dipOpened (v1 v2 v3 : Option Nat) : Option OpenEvent :=
  (boundaryEvents (atBoundary v1 v2 v3) (eventful none none)).2.ed.dip

/-- R82, R84, R86 at the thresholds: 8,999 opens and 9,000 does not, 499 thrice escalates, 9,200 thrice ends. -/
theorem test_dip_thresholds :
    (dipOpened (some 8999) (some 9000) none).map OpenEvent.cls = some .dip ∧ dipOpened (some 9000) none none = none ∧
    (dipOpened (some 499) (some 499) (some 499)).map OpenEvent.cls = some .interruption ∧
    (boundaryEvents (atBoundary (some 9200) (some 9200) none)
      (eventful (dipOpened (some 8999) none none) none)).2.ed.dip = none ∧
    ((boundaryEvents (atBoundary (some 9199) (some 9200) none)
      (eventful (dipOpened (some 8999) none none) none)).2.ed.dip).isSome = true := by decide +kernel

theorem witness_EventMachinesAtABoundary :
    let s := eventful none none
    let d := eventful (dipOpened (some 499) (some 499) (some 499)) none
    let u := eventful none ((boundaryEvents (atBoundary (some 11001) none none) s).2.ed.swell)
    EventsWf s ∧ EventsWf d ∧ EventsWf u ∧ s.ia.state = .running ∧ up.ia.state ≠ .running ∧ s.ed.dip = none ∧
    s.ed.swell = none ∧ d.ed.dip.isSome = true ∧ u.ed.swell.isSome = true ∧ d.ed.dip.bind OpenEvent.openSub = some 60000 ∧
    (s.cc.table.get Phase.p1.voltage).enabled = true ∧
    (s.mm.mods.get (s.cc.table.get Phase.p1.voltage).module).state = .qualified ∧
    8999 < (s.ed.limits.get s.sl.settings.activeProfile).dipStart ∧
    (s.ed.limits.get s.sl.settings.activeProfile).dipStart ≤ 9000 ∧
    (s.ed.limits.get s.sl.settings.activeProfile).swellStart < 11001 ∧
    11000 ≤ (s.ed.limits.get s.sl.settings.activeProfile).swellStart := by decide +kernel

theorem witness_EventCountsOneGridCell :
    CloseCause.normal ≠ .noData ∧
    (dipOpened (some 8999) (some 8998) none).map OpenEvent.cls = some .dip ∧
    (dipOpened (some 8999) (some 8998) none).map OpenEvent.phases = some [⟨.p1, 8999, 0, 0⟩, ⟨.p2, 8998, 0, 0⟩] ∧
    ([.p1, .p2] : List Phase).Nodup ∧ 8998 < 8999 := by decide +kernel

/-- A capture being collected, with 8 triggers listed. -/
def collecting : State := up.setCu { up.cu with state := .collecting, hand := some fullCapture }

/-- The capture being collected in a store MOUNTED, its post end after set 1,999. -/
def collectingMounted : State := mounted.setCu collecting.cu

/-- A waiting capture's entry with both marks. -/
def captureEntry : Entry :=
  let body : CaptureBody :=
    { truncated := false, cut := false, channels := 1, decim := 1, firstStrobe := 0, prePoints := 0, postPoints := 0,
      postEnd := 5, startStrobe := 0, startStamp := ⟨0, 0⟩, triggers := [], overflow := 0 }
  { settingsEntry 7 with record := { (settingsEntry 7).record with body := .capture body }, stored := true, emitted := true }

theorem witness_CapturesStartCollectAndClose :
    up.cu.state = .filling ∧ (up.setCu { up.cu with state := .holdoff }).cu.state = .holdoff ∧
    collectingMounted.cu.state = .collecting ∧ collectingMounted.cu.hand.map Capture.postEnd = some 2000 ∧
    (someSet 1999).k + 1 = 2000 ∧ (someSet 1998).k + 1 ≠ 2000 ∧ collectingMounted.sr.state = .mounted ∧
    collectingMounted.rq.next = .number 4499 ∧ collectingMounted.rq.entries.length < 15 ∧
    (∀ e ∈ collectingMounted.rq.entries, e.stored = false ∨ e.emitted = false) ∧
    16 ≤ brimming.rq.entries.length ∧ (up.sr.state ≠ .mounted ∧ up.sr.state ≠ .faulted) ∧
    captureEntry.record.body.isCapture = true ∧ captureEntry.stored = true ∧ captureEntry.emitted = true := by
  decide +kernel

theorem witness_TriggerJoinsCapture :
    collecting.cu.state = .collecting ∧ collecting.cu.hand.isSome = true ∧
    (trigger .order 0 900 collecting).2.cu.hand.map Capture.overflow = some 255 ∧
    (trigger .order 0 900 collecting).2.cu.hand.map Capture.postEnd = some 2436 := by decide +kernel

theorem witness_TimeAdvancesAndRollsOver :
    0 + 160000 < 2048000000 ∧ 2047999999 < 2048000000 ∧ 2048000000 ≤ 2047840000 + 160000 ∧
    2048000000 ≤ rolling.tb.sub + 160000 ∧ rolling.ia.state = .running ∧ rolling.ia.interval.isSome = true ∧
    (rolling.tb.seconds + 1) % 4294967296 % 86400 % rolling.sl.settings.intervalSeconds = 0 := by decide

theorem witness_TimersAct :
    (let s := up.setTb { up.tb with quality := .synced, age := some 3840000 };
      s.sl.settings.timeSource = .marked ∧ s.tb.quality = .synced ∧ s.tb.age = some 3840000) ∧
    (let s := inCampaign .arming (up.setIa { up.ia with armTimer := 383999 });
      s.ia.state = .arming ∧ s.sl.settings.armTimeout * 12800 ≤ s.ia.armTimer + 1) ∧
    (let s := (freerun 20).setCu { state := .holdoff, ring := [], hand := none, holdoff := 1 };
      s.cu.state = .holdoff ∧ s.cu.holdoff = 1 ∧ 4 ≤ nextStrobe s ∧ ∀ e ∈ s.rq.entries, e.record.body.isCapture = false) ∧
    (let s := (mounted.setLr { mounted.lr with strobe := 63999 }).setSw { mounted.sw with buffer := [1], oldest := 0 };
      s.sw.buffer ≠ [] ∧ s.sl.settings.flushAge * 12800 ≤ nextStrobe s - s.sw.oldest) := by decide

theorem witness_MarkSlewsOrSteps :
    ([1, 2, 3] : List Byte).length ≠ 8 ∧ ([1, 2, 3] : List Byte).length ≤ 1024 ∧ State.reset.sl.linkUp = false ∧ 999999 < 1000000 ∧ at12h31.sl.linkUp = true ∧
    at12h31.sl.settings.timeSource = .marked ∧
    ((45060 * 2048000000 + 10000 * 2048 : Nat) - (45060 * 2048000000 + 0 + 0 : Nat) : Int).natAbs ≤ 10 * 2048000 ∧
    10 * 2048000 < ((45060 * 2048000000 + 10001 * 2048 : Nat) - (45060 * 2048000000 + 0 + 0 : Nat) : Int).natAbs := by
  decide

/-- Sections 7.2: an RMS of 2,000,000 counts in the one window is a magnitude of 4,000. -/
def closing : State :=
  let y : VoltStat := { count := 1, sumSq := 4000000000000, min := some 3999, max := some 4001 }
  let x := { Interval.opened 3 ⟨0, 0⟩ false with volts := ⟨y, .zero, .zero, y⟩, clean := ⟨y, .zero, .zero, y⟩ }
  inCampaign .running (mounted.setIa { mounted.ia with interval := some x })

/-- The body of an INTERVAL record. -/
def intervalOf (e : Entry) : Option IntervalBody :=
  match e.record.body with
  | .interval b => some b
  | _ => none

theorem test_interval_figures :
    let t := closeInterval ⟨9, 0⟩ false false closing
    (t.rq.entries.filterMap intervalOf).map (fun b => b.volts.v1) = [⟨some (4000, 3999, 4001), some (4000, 3999, 4001), some false⟩] ∧
    (t.rq.entries.filterMap intervalOf).map (fun b => (b.volts.vne.band, b.volts.v2.values)) = [(none, none)] ∧
    t.ia.summary.intervals = 1 ∧ t.ia.summary.inBand = 0 := by decide +kernel

theorem witness_IntervalsCloseAndSettingsApply :
    let s := closing.setSl { closing.sl with pending := ⟨some 60, none, none, some 1⟩ }
    closing.ia.interval.isSome = true ∧
    (closing.ia.interval.map fun x => (x.volts.v1.count, x.volts.v1.min, x.volts.v2.count)) = some (1, some 3999, 0) ∧
    s.sl.settings.hold = false ∧ s.sl.pending ≠ ⟨none, none, none, none⟩ ∧ s.sr.state = .mounted ∧
    s.rq.next = .number 4499 ∧ s.rq.entries.length < 15 ∧ (∀ e ∈ s.rq.entries, e.stored = false ∨ e.emitted = false) ∧
    closing.sl.pending = ⟨none, none, none, none⟩ ∧ closing.ed.pendingLimits = none := by decide +kernel

/-- The escalation of IntervalsCloseAndSettingsApply: a DIP open, three phases at 499 below 500, or one of them at 500. -/
theorem witness_IntervalsCloseAndSettingsApply_escalation :
    let s := eventful (dipOpened (some 8999) none none) none
    s.ed.dip.map OpenEvent.cls = some .dip ∧ s.ed.dip.map OpenEvent.intrStart = some 500 ∧
    s.ia.interval.isSome = true ∧
    (∀ p ∈ allPhases, (s.cc.table.get p.voltage).enabled = true ∧
      (s.mm.mods.get (s.cc.table.get p.voltage).module).state = .qualified) ∧
    (escalate (atBoundary (some 499) (some 499) (some 499)) s).ia.interval.map Interval.escalations = some 1 ∧
    (escalate (atBoundary (some 499) (some 499) (some 500)) s).ia.interval.map Interval.escalations = some 0 := by
  decide +kernel

theorem witness_LinkReports : State.reset.sl.linkUp = false ∧ up.sl.linkUp = true ∧ ReadbackWf up := by decide

theorem witness_BadLinkFramesLatchLinkError :
    [1, 2, 3].length ≠ 7 + fieldNat [1, 2, 3] 1 2 ∧ readLinkFrame [1, 2, 3] = .discard ∧
    readLinkFrame ((inboundFrame 1 [9, 8]).dropLast ++ [0]) = .discard ∧ readLinkFrame (inboundFrame 0 [9]) = .discard ∧
    1024 < fieldNat [1, 1, 4] 1 2 ∧ up.sl.linkUp = true ∧ State.reset.sl.linkUp = false := by decide +kernel

/-- The state with so many orders waiting and so many replies formed. -/
def filled (orders replies : Nat) (s : State) : State :=
  s.setSl { s.sl with
    orders := List.replicate orders ⟨1, 10, [], true⟩, replies := List.replicate replies (plainReply 1 10 .ok .none) }

theorem witness_OrdersReachTheBuffer :
    Machine.orderOf (.status 1) = some ⟨1, 10, [], true⟩ ∧ up.sl.linkUp = true ∧
    (filled 3 31 up).sl.orders.length < 4 ∧ freePlaces (filled 3 31 up) < 2 ∧ 4 ≤ (filled 4 31 up).sl.orders.length ∧
    1 ≤ freePlaces (filled 4 31 up) ∧ ¬ 1 ≤ freePlaces (filled 4 32 up) := by decide

theorem witness_UnknownAndMalformedOrdersRefused :
    Ready up ∧ Ready (filled 0 30 up) ∧ 21 < (22 : Byte).toNat ∧ 21 < (255 : Byte).toNat ∧
    (5 : Byte).toNat ∈ [5, 6, 7, 8, 10, 11, 12, 14, 21] ∧ ([1] : List Byte) ≠ [] ∧ (17 : Byte).toNat ∈ [17, 20] ∧
    (18 : Byte).toNat = 18 ∧ (9 : Byte).toNat ∈ [9, 15] ∧ (16 : Byte).toNat = 16 ∧ up.sl.linkUp = true := by decide

theorem witness_TransmitEndChoosesNext :
    let s := up.setSl { up.sl with tx := some ⟨.reply, []⟩, replies := [plainReply 7 2 .ok .none] }
    s.sl.tx = some ⟨.reply, []⟩ ∧ s.sl.replies = [plainReply 7 2 .ok .none] ∧ liveCalm s = true ∧
    (up.setSl { up.sl with tx := some ⟨.live 3 true, []⟩ }).sl.tx = some ⟨.live 3 true, []⟩ := by decide

theorem witness_SetPlacesValues :
    Ready up ∧ (inCampaign .running up).ia.state ≠ .stopped ∧
    (60 : BitVec 32).toNat ∈ [60, 120, 180, 300, 600, 900, 1200, 1800, 3600, 7200] ∧ (3 : BitVec 32).toNat < 4 := by decide

/-- One item at the least and 16 at the most; a list with a first refused item, one with a clamped item and none refused, and
one whose items are all OK. -/
theorem witness_SetPlacesValues_items :
    Ready up ∧ [((12 : Byte), (1 : BitVec 32))].length = 1 ∧ (List.replicate 16 ((12 : Byte), (1 : BitVec 32))).length = 16 ∧
    (setItem 12 1 up).1.status = .ok ∧ (setItem 12 10001 up).1.status = .clamped ∧ (setItem 41 0 up).1.status = .refused := by
  decide

theorem witness_RefusedSetChangesNothing :
    Ready up ∧ 40 < (41 : Byte).toNat ∧ (8 : Byte).toNat ∈ [8, 11, 24, 26, 28, 29, 32, 34, 38, 39] ∧
    2 ≤ (2 : BitVec 32).toNat ∧ (51 : BitVec 32) ≠ 50 ∧ (51 : BitVec 32) ≠ 60 ∧ (2 : Byte).toNat ∈ [2, 3] ∧
    (inCampaign .running up).ia.state ≠ .stopped ∧ (31 : Byte).toNat ∈ [31, 33] ∧ mounted.sr.state ≠ .unmounted ∧
    (61 : BitVec 32).toNat ∉ [60, 120, 180, 300, 600, 900, 1200, 1800, 3600, 7200] ∧ 4 ≤ (4 : BitVec 32).toNat ∧
    3 ≤ (3 : BitVec 32).toNat ∧ (3 : BitVec 32).toNat ∉ [1, 2, 4] ∧ 256 ≤ (256 : BitVec 32).toNat ∧
    8 ≤ (8 : BitVec 32).toNat ∧ 2097152 ≤ (2097152 : BitVec 32).toNat ∧ (1 : BitVec 32).toNat < 2 := by decide

/-- An ordering value in which V1 stands twice is none of the six. -/
theorem witness_RefusedSetChangesNothing_ordering :
    ∀ p ∈ allPhases, ∀ q ∈ allPhases, ∀ r ∈ allPhases, p ≠ q → p ≠ r → q ≠ r →
      (0x020000 : BitVec 32).toNat ≠ p.code + 256 * q.code + 65536 * r.code := by decide

theorem witness_ReadingOrdersOnlyAnswer :
    Ready up ∧ [(1 : Byte)].length = 1 ∧ (List.replicate 16 (40 : Byte)).length = 16 ∧
    Setting.ofCode (1 : Byte).toNat = some .nominalFreq ∧ (Setting.ofCode (40 : Byte).toNat).isSome = true ∧
    (0 : Byte) = 0 ∧ 40 < (41 : Byte).toNat := by decide

theorem witness_AckClearsLatchedFlags :
    Ready up ∧ 2097152 ≤ (2097152 : BitVec 32).toNat ∧ (2097151 : BitVec 32).toNat < 2097152 := by decide

theorem witness_LoadTables :
    Ready up ∧ up.ia.state = .stopped ∧ (inCampaign .running up).ia.state ≠ .stopped ∧
    (Instr.loadTableChannel 1 [⟨7, 3, 1, 1, 0xFFFF, 0⟩]).fits = true ∧
    (candidateTable up.cc.table [⟨7, 3, 1, 1, 0xFFFF, 0⟩]).map slotsDistinct = some true ∧
    ([⟨7, 3, 1, 1, 0xFFFF, 0⟩].map ChannelArg.role).Nodup ∧
    (Instr.loadTablePass 1 [⟨3, 2, 2⟩]).fits = true ∧ (passWith up.cc.pass [⟨3, 2, 2⟩]).isSome = true ∧
    (Instr.loadTableLimit 1 [⟨3, 9000, 500, 11000, 200, 9000, 11000⟩]).fits = true ∧
    limitsValid up [⟨3, 9000, 500, 11000, 200, 9000, 11000⟩] = true ∧
    limitsValid up [⟨3, 9000, 9000, 11000, 200, 9000, 11000⟩] = false ∧
    (Instr.loadTableGrid 1 [⟨1, [12500, 15000]⟩]).fits = true ∧
    (gridsWith up.ed.grid [⟨1, [12500, 15000]⟩]).isSome = true ∧
    (Instr.loadTableGrid 1 [⟨1, [12500, 12500]⟩]).fits = true ∧ gridsWith up.ed.grid [⟨1, [12500, 12500]⟩] = none ∧
    ¬ ([⟨1, [12500, 15000]⟩, ⟨1, [12500, 15000]⟩].map GridArg.list).Nodup ∧
    ((0 : Byte) ≠ 2 ∧ 65536 ≤ (65536 : BitVec 32).toNat) ∧
    3 < (4 : Byte).toNat ∧ 7 < (8 : Byte).toNat ∧ 1 < (2 : Byte).toNat ∧ 64 < (65 : Byte).toNat ∧ (1 : Byte).toNat < 2 ∧
    ¬ ([⟨0, 0, 0, 1, 0, 0⟩, ⟨0, 1, 0, 1, 0, 0⟩].map ChannelArg.role).Nodup ∧
    ¬ ([⟨0, 0, 0⟩, ⟨0, 1, 0⟩].map PassArg.module).Nodup := by decide

/-- R19 and R29: V1 on V2's slot, a module 4, a role twice, a divisor 65 and a module twice are refused INVALID; a load that
leaves AM0 without an enabled entry makes it DISABLED (R7). -/
theorem test_tables_refused :
    answer (.loadTableChannel 1 [⟨0, 1, 0, 1, 0, 0⟩]) up = [1, 3, 5, 3, 0] ∧
    answer (.loadTableChannel 1 [⟨0, 4, 0, 1, 0, 0⟩]) up = [1, 3, 5, 3, 0] ∧
    answer (.loadTableChannel 1 [⟨0, 0, 0, 1, 0, 0⟩, ⟨0, 0, 0, 1, 0, 0⟩]) up = [1, 3, 5, 3, 0] ∧
    answer (.loadTablePass 1 [⟨0, 2, 1⟩]) up = [1, 3, 5, 3, 0] ∧
    answer (.loadTablePass 1 [⟨0, 0, 0⟩, ⟨0, 1, 0⟩]) up = [1, 3, 5, 3, 0] ∧
    ((after (.loadTableChannel 1 [⟨0, 0, 0, 0, 0, 0⟩, ⟨4, 0, 1, 0, 0, 0⟩]) up).mm.mods.get 0).state = .disabled := by
  decide +kernel

theorem witness_StartEntersArming :
    Ready mounted ∧ mounted.ia.state = .stopped ∧ mounted.sr.state = .mounted ∧ mounted.rq.next = .number 4499 ∧
    mounted.rq.entries.length < 14 ∧ up.sr.state ≠ .mounted := by decide

theorem witness_StopEndsTheCampaign :
    Ready (inCampaign .running mounted) ∧ up.ia.state = .stopped ∧ (inCampaign .running mounted).ia.state = .running ∧
    (inCampaign .running mounted).sr.state = .mounted ∧ (inCampaign .running mounted).rq.next = .number 4499 ∧
    (inCampaign .running mounted).rq.entries.length ≤ 9 := by decide

theorem witness_RestartKeepsStrobeAndTime :
    Ready (inCampaign .stopping mounted) ∧ (inCampaign .stopping mounted).ia.state = .stopping := by decide

/-- RUNNING with a dip open, a capture being collected, interval 3 open and a value pending, the store MOUNTED. -/
def inTheMiddle : State :=
  let s := mounted.setEd { mounted.ed with
    dip := dipOpened (some 8999) none none, lastBoundary := some (⟨10, 60000, .crossing⟩, ⟨1, 1⟩) }
  let s := (s.setCu collecting.cu).setSl { s.sl with pending := { s.sl.pending with activeProfile := some 2 } }
  inCampaign .running (s.setIa { s.ia with interval := some (.opened 3 ⟨0, 0⟩ false) })

theorem witness_RestartKeepsStrobeAndTime_running :
    let s := inTheMiddle
    Ready s ∧ s.ia.state = .running ∧ EventsWf s ∧ s.ed.lastBoundary = some (⟨10, 60000, .crossing⟩, ⟨1, 1⟩) ∧
    s.ed.dip.isSome = true ∧ s.ed.swell = none ∧ s.cu.state = .collecting ∧ s.cu.hand.isSome = true ∧
    s.sr.state = .mounted ∧ s.rq.next = .number 4499 ∧ s.rq.entries.length ≤ 8 ∧
    (∀ x ∈ s.rq.entries, x.stored = false ∨ x.emitted = false) ∧ s.ia.interval.isSome = true ∧ pendingMask s ≠ 0 ∧
    s.sl.settings.hold = false ∧ (inCampaign .arming mounted).ia.state = .arming ∧
    (mounted.ed.dip = none ∧ mounted.ed.swell = none) ∧ pendingMask mounted = 0 := by decide +kernel

/-- R132: event, capture, interval, settings and end record, in that order. -/
theorem test_restart_records :
    ((restartCampaign inTheMiddle).rq.entries.map fun x => (x.record.sequence, x.record.body.code)) =
      [(4499, 2), (4500, 3), (4501, 1), (4502, 6), (4503, 5)] := by decide +kernel

theorem witness_CaptureOrderTriggers :
    Ready (inCampaign .running losing) ∧ (inCampaign .running losing).ia.state = .running ∧ up.ia.state ≠ .running ∧
    setAtIssue losing = some 157 ∧ losing.lr.strobe + 1 < 281474976710656 := by decide

theorem witness_RecordsNumberedAndQueued :
    mounted.sr.state = .mounted ∧ mounted.rq.next = .number 4499 ∧ mounted.rq.entries.length < 16 ∧
    up.sr.state ≠ .mounted ∧ up.sr.state ≠ .faulted := by decide

theorem witness_MountFormatAndMapLoadTaken :
    let s := up.setSl { up.sl with settings := { up.sl.settings with mapMode := .mapped } }
    let t := s.setSw { s.sw with mapFill := some (64, [5]) }
    Ready s ∧ s.sl.storeOrder = none ∧ s.sr.state = .unmounted ∧ mounted.sr.state ≠ .unmounted ∧
    s.sl.settings.mapMode = .mapped ∧ up.sl.settings.mapMode = .direct ∧
    960 + ([6, 4095] : List Nat).length ≤ 1024 ∧ ([6, 4095] : List Nat).Nodup ∧
    (∀ p ∈ ([6, 4095] : List Nat), p ≠ 0 ∧ p < s.sl.settings.storeSectors) ∧ t.sw.mapFill = some (64, [5]) ∧
    (∀ p ∈ ([6, 4095] : List Nat), p ∉ [5]) := by decide

theorem witness_UnmountTakenOneAtATime :
    Ready mounted ∧ mounted.sl.storeOrder = none ∧ mounted.sr.state = .mounted ∧ mounted.ia.state = .stopped ∧
    (inStore .faulted mounted).sr.state = .faulted ∧ (inCampaign .running mounted).ia.state ≠ .stopped ∧
    (let s := mounted.setSl { mounted.sl with storeOrder := some (.unmount, 1) };
      Ready s ∧ s.sl.storeOrder.isSome = true) := by decide

theorem witness_ReleaseMovesTheWatermark :
    let s := mounted.setSw { mounted.sw with stopMark := some 5000 }
    Ready s ∧ s.sr.state = .mounted ∧ up.sr.state ≠ .mounted ∧ (4018 : BitVec 32).toNat < s.sw.watermark ∧
    s.sw.watermark ≤ (4999 : BitVec 32).toNat ∧ (∀ kept, s.sw.stopMark = some kept → (4999 : BitVec 32).toNat < kept) ∧
    s.sw.stopMark = some 5000 ∧ 5000 ≤ (5000 : BitVec 32).toNat ∧ s.sw.head = some ⟨2, 6⟩ := by
  refine ⟨?_, ?_, ?_, ?_, ?_, ?_, ?_, ?_, ?_⟩ <;> first | decide | (intro k h; cases h; decide)

/-- Readbacks held: the front one current, a record of it in progress or not. -/
def reading (record : Option RecordProgress) : State :=
  mounted.setSr { mounted.sr with
    queue := [⟨9, 4300, 3⟩, ⟨8, 4310, 1⟩], current := some { Readback.begin ⟨9, 4300, 3⟩ with record := record } }

theorem witness_ReadbackOrders :
    Ready mounted ∧ mounted.sr.state = .mounted ∧ up.sr.state ≠ .mounted ∧ 256 < (257 : BitVec 16).toNat ∧
    (256 : BitVec 16).toNat ≤ 256 ∧ mounted.sr.queue.length < 4 ∧
    Ready (reading none) ∧ (reading none).sr.queue = ⟨9, 4300, 3⟩ :: [⟨8, 4310, 1⟩] ∧
    (∃ x ∈ (reading none).sr.queue, x.tag = 8) ∧ recordInProgress (reading none) = false ∧
    recordInProgress (reading (some ⟨4300, [], 0, some (4300, 100, true), 0⟩)) = true := by decide

theorem witness_StationTransactionsBegin :
    Ready (stationOwned up) ∧ (stationOwned up).mb.owner = .station ∧ (stationOwned up).mb.state = .idle ∧
    (stationOwned up).mb.heldAbort = none ∧ up.mb.owner = .auto ∧
    ¬ ((0x77 : Byte).toNat < 0x08 ∨ 0x77 < (0x77 : Byte).toNat ∨ 16 < 1 ∨ 16 < 16 ∨ 256 < (240 : Byte).toNat + 16) ∧
    ¬ ((0x08 : Byte).toNat < 0x08 ∨ 0x77 < (0x08 : Byte).toNat ∨ 32 < 1 ∨ 32 < 32 ∨ 256 < (224 : Byte).toNat + 32) := by
  decide

theorem witness_FetchAndAbortOrders :
    let s := up.setMb { up.mb with queue := [⟨2, false, false, none⟩] }
    Ready s ∧ 4 ≤ (4 : Byte).toNat ∧ (3 : Byte).toNat = (3 : Fin 4).val ∧ (2 : Byte).toNat = (2 : Fin 4).val ∧
    s.mb.owner = .auto ∧ s.mb.state = .idle ∧ (∀ x ∈ s.mb.queue, x.module = 2 → x.tag = none) ∧
    (fetchEntry (up.setMb { up.mb with queue := [⟨2, false, false, some 7⟩] }) 2).bind FetchEntry.tag = some 7 := by decide

/-- A writer that asks to erase its head sector and a reader that asks for a page of the span. -/
def competing (holder : Option Requester) (tenure : Nat) : State :=
  let s := reading none
  let s := tasked [.erase] (s.setSr { s.sr with
    holder := holder, tenure := tenure, current := some { Readback.begin ⟨9, 4300, 3⟩ with phase := .walk ⟨3, 0⟩ } })
  s.setSw { s.sw with headErased := false }

/-- The bursts are 4 for the writer and 2 for the reader by default. -/
theorem witness_StorePortArbitrated :
    let s := competing (some .writer) 4
    s.sr.flight = none ∧ jobRequest s = none ∧ writerRequest s = some (.erase 2) ∧ readerRequest s = some (.readPage 3 0) ∧
    readPasses s (.readPage 3 0) = true ∧ s.sl.settings.writerBurst ≤ s.sr.tenure ∧
    ¬ s.sl.settings.urgentLevel ≤ s.rq.entries.length ∧ (competing (some .writer) 3).sr.tenure < s.sl.settings.writerBurst ∧
    s.sl.settings.readerBurst ≤ (competing (some .reader) 2).sr.tenure ∧
    (competing (some .reader) 1).sr.tenure < s.sl.settings.readerBurst ∧ (competing none 0).sr.holder = none ∧
    writerRequest mounted = none ∧ readerRequest mounted = none ∧ jobRequest mounted = none ∧
    readerRequest (tasked [.erase] mounted) = none ∧ writerRequest (tasked [] s) = none ∧
    (programming mounted).sr.flight.isSome = true ∧
    (let t := working (.format 3 false none) up; jobRequest t = some (.erase 3) ∧ t.sr.flight = none) := by decide +kernel

theorem witness_PageProgramEnds :
    let s := programming mounted
    s.sr.flight = some ⟨.program 2 6 [], some .writer, 0, false⟩ ∧ s.sw.head = some ⟨2, 6⟩ ∧ s.sr.state ≠ .faulted ∧
    s.ia.endSeq = none ∧ s.sw.mode = .direct ∧ (programming mapped).sw.mode = .mapped ∧
    (let t := (inCampaign .stopping s).setRq { s.rq with entries := [endEntry] };
      let t := t.setIa { t.ia with endSeq := some 4499 }
      endEntry ∈ t.rq.entries ∧ t.ia.state = .stopping ∧ t.ia.endSeq = some endEntry.record.sequence ∧
        endEntry.programmed < endEntry.appended ∧ endEntry.appended = endEntry.record.length (capturePoints t)) := by
  decide +kernel

theorem witness_MapProgramEnds :
    let s := tasked [.retire 2 true] (flying (.retireMap 2) (some .writer) mapped)
    s.sr.flight = some ⟨.retireMap 2, some .writer, 0, false⟩ ∧ s.sw.tasks = [.retire 2 true] ∧ s.sw.head = some ⟨2, 6⟩ ∧
    s.sr.state = .mounted ∧ s.sw.streak + 1 < 3 ∧ 3 ≤ s.sw.usable ∧
    3 ≤ (s.setSw { s.sw with streak := 2 }).sw.streak + 1 ∧ s.sw.tasks = .retire 2 true :: [] ∧ 65535 < 65536 ∧
    (let t := working (.mapLoad 0 false [5, 6] 1) (flying (.loadMap 1 (mapEntryBytes 5)) none up);
      t.sr.flight = some ⟨.loadMap 1 [5, 0, 0xFF, 0x5F], none, 0, false⟩ ∧ t.sr.job = .mapLoad 0 false [5, 6] 1 ∧ t.sr.state ≠ .faulted ∧
        (t.setSw { t.sw with mapFill := some (1, [4]) }).sw.mapFill = some (1, [4])) ∧
    (inStore .unmounting s).sr.state = .unmounting ∧
    (let f := working (.format 2 true none) (flying (.retireMap 2) none (inStore .formatting up));
      f.sr.flight = some ⟨.retireMap 2, none, 0, false⟩ ∧ f.sr.job = .format 2 true none ∧
        f.sr.state = .formatting) := by decide

theorem witness_SectorEraseEnds :
    (flying (.erase 2) (some .writer) mounted).sr.flight = some ⟨.erase 2, some .writer, 0, false⟩ ∧
    mounted.sw.head = some ⟨2, 6⟩ ∧ mounted.sr.state ≠ .faulted ∧ mapped.sw.mode = .mapped ∧
    (working (.format 3 false none) (flying (.erase 3) none up)).sr.job = .format 3 false none ∧
    (working (.mapLoad 0 true [5] 0) (flying .eraseMap none up)).sr.flight = some ⟨.eraseMap, none, 0, false⟩ := by decide

theorem witness_WriterReadsEnd :
    (flying (.readHeader 3 0) (some .writer) mounted).sr.flight = some ⟨.readHeader 3 0, some .writer, 0, false⟩ ∧
    (tasked [.readTail, .erase] mounted).sw.tasks = [.readTail, .erase] ∧ mounted.sw.head = some ⟨2, 6⟩ ∧
    (readHeader (bytesOf 16 (pack 128 header4402))).map PageHeader.lastSequence = some 4403 ∧
    4403 ≤ (mounted.setSw { mounted.sw with watermark := 4403 }).sw.watermark ∧ mounted.sw.watermark < 4403 ∧
    (let s := flying (.readMap 2) (some .reader) (reading none);
      let m := s.setSw { s.sw with mode := .mapped };
      m.sr.flight = some ⟨.readMap 2, some .reader, 0, false⟩ ∧ m.sr.current.isSome = true ∧
        m.sw.mode = .mapped ∧ m.sl.settings.mapCache = true ∧ m.cache.length < 8) ∧
    (let s := strayRead (inStore .mounting mounted);
      s.sr.flight = some ⟨.readMap 2, some .reader, 0, true⟩ ∧ s.sr.state = .mounting ∧ s.sw.mode = .direct) ∧
    (let s := strayRead (inStore .faulted mapped);
      s.sr.flight = some ⟨.readMap 2, some .reader, 0, true⟩ ∧ s.sr.state = .faulted ∧ s.sw.mode = .mapped ∧
        s.sl.settings.mapCache = true) := by decide +kernel

/-- A mount scan in its walk of the head sector 2, page 6 to come (section 9.8). -/
def walking : MountJob :=
  { MountJob.start with
    next := 8, valid := 8, low := some (3, ⟨false, 1024, 4020, 2, 0⟩), high := some (2, ⟨false, 1136, 4466, 2, 0⟩),
    firstUsable := some 0, walking := true, page := 6, headPage := 5, headHeader := ⟨false, 1141, 4497, 2, 0⟩ }

/-- The DIRECT store of section 9.8 in MOUNTING. -/
def mounting (j : MountJob) : State :=
  let s := up.setSw { up.sw with sectors := 8, logical := 8, usable := 8 }
  working (.mount j) (flying (.readPage 2 6) none (inStore .mounting s))

/-- The results of section 9.8. -/
theorem test_mount_result :
    let t := after (.mountPageReadDone (BitVec.allOnes 2048)) (mounting walking)
    t.sr.state = .mounted ∧ t.rq.next = .number 4499 ∧ t.sw.serial = .number 1142 ∧ t.sw.head = some ⟨2, 6⟩ ∧
    t.sw.headErased = true ∧ t.sw.tail = some 3 ∧ t.sw.tailSeq = 4020 ∧ t.sw.watermark = 4019 := by decide +kernel

/-- The walk of section 9.8 as it would stand with page 15 to come. -/
def walkingLast : MountJob := { walking with page := 15, headPage := 14 }

/-- A page of the walk that follows the one before, serial 1,142, and one that does not. -/
def page1142 : BitVec 2048 := pack 2048 (PageHeader.bytes ⟨false, 1142, 4500, 1, 0⟩)

theorem witness_MountScanReads :
    let s := mounting .start
    let t := mounting walking
    s.sr.flight = some ⟨.readPage 2 6, none, 0, false⟩ ∧ s.sr.job = .mount .start ∧ MountJob.start.walking = false ∧
    t.sr.job = .mount walking ∧ walking.walking = true ∧ walking.page < 15 ∧ walking.headHeader.serial < 1142 ∧
    readHeader (bytesOf 256 page1142) = some ⟨false, 1142, 4500, 1, 0⟩ ∧ walkingLast.page = 15 ∧
    readHeader (bytesOf 256 (pack 2048 header4402)) = some ⟨false, 1120, 4402, 2, 0⟩ ∧
    1120 ≤ walking.headHeader.serial ∧
    (∀ x ∈ bytesOf 256 (BitVec.allOnes 2048), x = 0xFF) ∧ readHeader (bytesOf 256 (BitVec.allOnes 2048)) = none ∧
    (∃ x ∈ bytesOf 256 (0 : BitVec 2048), x ≠ 0xFF) ∧ readHeader (bytesOf 256 (0 : BitVec 2048)) = none ∧
    2 ≤ t.sw.usable ∧ walking.low.map Prod.fst = some 3 ∧ walking.high.map Prod.fst = some 2 ∧
    ({ walking with afterHead := some 3 }).afterHead = walking.low.map Prod.fst ∧
    t.sl.settings.storeWrap = .overwrite := by decide +kernel

/-- The scan with every sector classified: with the ends of section 9.8, and with no VALID sector. -/
theorem witness_MountScanReads_classified :
    let j := { walking with walking := false }
    let s := (mounting j).setSr { (mounting j).sr with flight := none }
    s.sr.flight = none ∧ s.sr.job = .mount j ∧ s.sr.state = .mounting ∧ j.walking = false ∧ s.sw.logical ≤ j.next ∧
    2 ≤ s.sw.usable ∧ j.high.isSome = true ∧ ({ j with high := none }).high = none ∧
    (s.setSw { s.sw with usable := 1 }).sw.usable < 2 := by decide

theorem witness_ReadbackReadsEnd :
    let s := flying (.readHeader 7 0) (some .reader) (reading none)
    let r := Readback.begin ⟨9, 4300, 3⟩
    let p : RecordProgress := ⟨4300, [], 130, some (4300, 442, true), 0⟩
    s.sr.current = some r ∧ s.sr.flight = some ⟨.readHeader 7 0, some .reader, 0, false⟩ ∧
    ({ r with phase := .sectors 0 8 none (some (4, 4)) }).phase = .sectors 0 8 none (some (4, 4)) ∧
    readHeader (bytesOf 256 (pack 2048 header4402)) = some ⟨false, 1120, 4402, 2, 0⟩ ∧ r.record = none ∧
    0 < (⟨false, 1, 1, 1, 1⟩ : PageHeader).firstOffset ∧ (reading (some p)).sr.queue = ⟨9, 4300, 3⟩ :: [⟨8, 4310, 1⟩] ∧
    ((reading (some p)).sr.current.bind Readback.record).bind RecordProgress.known = some (4300, 442, true) ∧
    readHeader (bytesOf 256 (0 : BitVec 2048)) = none ∧ s.sw.head ≠ some ⟨7, 7⟩ := by decide +kernel

/-- Parsing page 2/5 of section 9.8, the last of the written span, for the range 4,300 to 4,302. -/
def parsing (p : Option RecordProgress) (bytes : List Byte) : State :=
  mounted.setSr { mounted.sr with
    queue := [⟨9, 4300, 3⟩]
    current := some { Readback.begin ⟨9, 4300, 3⟩ with phase := .parse ⟨2, 5⟩ 4498 bytes, record := p } }

/-- What the parse clauses of ReadbackReadsEnd ask for: the start of a record, its header, its bytes and its cut. -/
theorem witness_ReadbackReadsEnd_parse :
    let s := parsing none [1]
    let header := leBytes 4 1 ++ leBytes 4 100 ++ leBytes 4 4301
    s.sr.queue = ⟨9, 4300, 3⟩ :: [] ∧ s.sr.piece = none ∧ s.sr.flight = none ∧ s.sw.head = some ⟨2, 6⟩ ∧
    inSpan s ⟨2, 5⟩ = true ∧ s.sw.head ≠ some ⟨2, 5⟩ ∧ 4300 ≤ (⟨9, 4300, 3⟩ : ReadOrder).last ∧
    1 ≤ (1 : Byte).toNat ∧ (1 : Byte).toNat ≤ 6 ∧ 6 < (0xFF : Byte).toNat ∧
    12 ≤ 0 + header.length ∧ fieldNat header 4 4 = 100 ∧ fieldNat header 8 4 = 4301 ∧
    4301 ≤ (⟨9, 4300, 3⟩ : ReadOrder).last ∧ (⟨9, 4300, 3⟩ : ReadOrder).last < 4303 ∧
    (let p : RecordProgress := ⟨4301, [], 30, some (4301, 34, true), 0⟩;
      (parsing (some p) [0, 0, 0, 0]).sr.current.bind Readback.record = some p ∧ 34 ≤ p.got + 4 ∧
        p.known = some (4301, 34, true)) ∧
    (let bs := header ++ crc32Bytes header; bs.drop (bs.length - 4) = crc32Bytes (bs.take (bs.length - 4))) ∧
    (s.rq.entries.any fun x => x.record.sequence == 4301) = false ∧
    ((s.setRq { s.rq with entries := [settingsEntry 4301] }).rq.entries.any fun x => x.record.sequence == 4301) = true ∧
    (let p : RecordProgress := ⟨4299, [], 30, some (4299, 34, false), 0⟩;
      (parsing (some p) [0]).sr.current.bind Readback.record = some p ∧ p.known = some (4299, 34, false)) ∧
    (let bad := leBytes 4 1 ++ leBytes 4 23 ++ leBytes 4 4301;
      12 ≤ 0 + bad.length ∧ fieldNat bad 4 4 < 24 ∧ (⟨2, 5⟩ : PagePos) ≠ ⟨2, 6⟩) := by decide +kernel

theorem witness_StoreTimeoutFaults :
    (programming mounted).sr.flight = some ⟨.program 2 6 [], some .writer, 0, false⟩ ∧ mounted.sr.state ≠ .faulted := by
  decide

theorem witness_FetchCompletes :
    let s := busy (.fetch 3 15) (up.setMb { up.mb with queue := [⟨3, true, false, some 7⟩] })
    s.mb.transaction = some (.fetch 3 15) ∧ s.mb.state = .busy ∧ s.mb.cut = false ∧
    fetchEntry s 3 = some ⟨3, true, false, some 7⟩ ∧ s.sl.linkUp = true := by decide

theorem witness_NoAckEndsTheTransaction :
    let s := busy (.fetch 3 15) (up.setMb { up.mb with queue := [⟨3, true, true, some 7⟩] })
    s.mb.state = .busy ∧ s.mb.cut = false ∧ s.sl.linkUp = true ∧ fetchEntry s 3 = some ⟨3, true, true, some 7⟩ ∧
    (let t := s.setMb { s.mb with heldAbort := some 9 };
      t.mb.state = .busy ∧ t.mb.cut = false ∧ t.mb.heldAbort.isSome = true ∧ t.mb.transaction = some (.fetch 3 15) ∧
      fetchEntry t 3 = some ⟨3, true, true, some 7⟩) ∧
    fetchEntry (busy (.fetch 2 1) (up.setMb { up.mb with queue := [⟨2, false, false, none⟩] })) 2 =
      some ⟨2, false, false, none⟩ ∧
    (busy (.read 4 0x50 0 2 1) up).mb.transaction = some (.read 4 0x50 0 2 1) ∧
    (busy (.write 4 0x53 0x1F [1, 2] 1) up).mb.transaction = some (.write 4 0x53 0x1F [1, 2] 1) ∧
    (2 : BitVec 5).toNat ≤ [1, 2].length ∧ (0 < (2 : BitVec 5).toNat ∧ 0x1F ≤ 0x2F ∧ 0x20 < 0x1F + (2 : BitVec 5).toNat) ∧
    0x1F + (1 : BitVec 5).toNat ≤ 0x20 := by decide

theorem witness_StationTransactionsEnd :
    let s := busy (.read 4 0x50 0 2 1) (stationOwned up)
    s.mb.state = .busy ∧ s.mb.cut = false ∧ s.mb.heldAbort = none ∧ s.mb.transaction = some (.read 4 0x50 0 2 1) ∧
    (s.setMb { s.mb with cut := true }).mb.cut = true ∧
    (let t := up.setMb { up.mb with state := .recovering, abortTag := some 8 };
      t.mb.state = .recovering ∧ t.mb.abortTag = some 8) := by decide

end Sys2Proof.Tests
end

section
/-! The sample lane (chapter 1): what a lane frame's bytes say, the slot a frame matches, and what its acceptance leaves
in the slots. -/

namespace Sys2Proof.Machine

/-! ## Reading back what a lane frame holds (R3, section 12.2) -/

/-- A signed number that fits its two's complement field reads back (R199). -/
theorem leInt_leSigned (w : Nat) (n : Int) (low : -((256 ^ w : Nat) : Int) ≤ 2 * n)
    (high : 2 * n < ((256 ^ w : Nat) : Int)) : leInt (leSigned w n) = n := by
  have positive : 0 < 256 ^ w := by positivity
  generalize bound : 256 ^ w = size at *
  have fits : (n % (size : Int)).toNat < 256 ^ w := by
    have := Int.emod_lt_of_pos n (b := size) (by omega)
    omega
  simp only [leInt, leSigned, leBytes_length, bound, leNat_leBytes _ _ fits]
  by_cases negative : n < 0
  · have wrapped : n % (size : Int) = n + size := by
      rw [← Int.add_emod_right, Int.emod_eq_of_lt (by omega) (by omega)]
    rw [wrapped, if_neg (by omega)]
    omega
  · rw [Int.emod_eq_of_lt (by omega) (by omega), if_pos (by omega)]
    omega

/-- A lane frame that names one of the four modules reads back: it checks, and gives its module, its sequence, both
samples and the status bits (R3, section 12.2). -/
theorem readLaneFrame_laneBytes (m : Fin 4) {sequence : Nat} (status : Byte) {a b : Int} (hsequence : sequence < 256)
    (aLow : -8388608 ≤ a) (aHigh : a ≤ 8388607) (bLow : -8388608 ≤ b) (bHigh : b ≤ 8388607) :
    readLaneFrame (laneBytes m sequence status a b) =
      some (m, sequence,
        { a := a, b := b, overA := status.getLsbD 0, overB := status.getLsbD 1, fault := status.getLsbD 2 }) := by
  have checks : (laneBytes m sequence status a b).length = 10 ∧
      crc8 ((laneBytes m sequence status a b).take 9) = ((laneBytes m sequence status a b).drop 9).headD 0 :=
    ⟨rfl, rfl⟩
  -- Each field's bytes are a segment of the concatenation, by computation.
  have moduleByte : fieldNat (laneBytes m sequence status a b) 0 1 = m.val := leNat_leBytes 1 m.val (by omega)
  have sequenceByte : fieldNat (laneBytes m sequence status a b) 1 1 = sequence := leNat_leBytes 1 sequence (by omega)
  have statusByte : ((laneBytes m sequence status a b).drop 2).headD 0 = status := rfl
  have sampleA : fieldInt (laneBytes m sequence status a b) 3 3 = a := leInt_leSigned 3 a (by omega) (by omega)
  have sampleB : fieldInt (laneBytes m sequence status a b) 6 3 = b := leInt_leSigned 3 b (by omega) (by omega)
  simp only [readLaneFrame, if_pos checks, moduleByte, sequenceByte, statusByte, sampleA, sampleB, m.isLt, dite_true,
    Fin.eta]

/-! ## The slot a frame matches (R4, R5) -/

/-- Strobe indices a whole number of times 256 apart have the same sequence (R5). -/
theorem sequence_eq_of_sub_eq_mul {j k : Nat} {n : Int} (apart : (k : Int) - j = 256 * n) : k % 256 = j % 256 := by
  omega

/-- The one open slot that agrees with a sequence is the slot a frame of that sequence matches (R4). -/
theorem find?_only_slot {slots : List Slot} {x : Slot} {sequence : Nat} (opened : x ∈ slots)
    (agrees : x.index % 256 = sequence) (only : ∀ z ∈ slots, z.index % 256 = sequence → z = x) :
    (slots.find? fun z => z.index % 256 == sequence) = some x := by
  have matched : (slots.find? fun z => z.index % 256 == sequence).isSome := by
    rw [List.find?_isSome]
    exact ⟨x, opened, by simpa using agrees⟩
  obtain ⟨y, found⟩ := Option.isSome_iff_exists.mp matched
  have same : y = x := only y (List.mem_of_find?_eq_some found) (by simpa using List.find?_some found)
  rw [found, same]

/-! ## What an acceptance leaves in the slots (R4) -/

/-- A module's value after it is written is what was written. -/
@[simp] theorem PerModule.get_set_same {α : Type} (p : PerModule α) (m : Fin 4) (x : α) : (p.set m x).get m = x := by
  match m with
  | 0 | 1 | 2 | 3 => rfl

/-- A change of a module's monitor state leaves the lane's slots. -/
@[simp] theorem State.setModule_lr (s : State) (m : Fin 4) (x : ModMon) : (s.setModule m x).lr = s.lr := rfl

/-- The slot filled is among the open slots with the frame in it. -/
theorem mem_fillSlot {slots : List Slot} {x : Slot} (opened : x ∈ slots) (f : LaneFrame) :
    { x with frame := some f } ∈ fillSlot x.index f slots :=
  List.mem_map.mpr ⟨x, opened, if_pos rfl⟩

/-- A frame that matches an empty slot fills it, and the slots of its module are otherwise as they were (R4). -/
theorem matchFrame_empty_slots {s : State} {m : Fin 4} {sequence j : Nat} (f : LaneFrame)
    (found : ((s.lr.slots.get m).find? fun z => z.index % 256 == sequence) = some { index := j, frame := none }) :
    (matchFrame m sequence f s).lr.slots.get m = fillSlot j f (s.lr.slots.get m) := by
  simp [matchFrame, found]

/-- A frame that checks, of a module that is not DISABLED, goes to the slot match (R3, R4). -/
theorem laneArrival_of_read {s : State} {bs : List Byte} {m : Fin 4} {sequence : Nat} {f : LaneFrame}
    (read : readLaneFrame bs = some (m, sequence, f)) (enabled : (s.mm.mods.get m).state ≠ .disabled) :
    laneArrival bs s = matchFrame m sequence f s := by
  simp [laneArrival, read, enabled]

/-- A LANE_FRAME_ARRIVAL is the arrival of its frame, with what settles in the same event. -/
theorem exec_laneFrameArrival (bs : List Byte) (s : State) :
    exec (.laneFrameArrival bs) s = .next (settle (laneArrival bs s)) := rfl

/-- Settles O12: the frame's bytes read back with the sequence of the slot's strobe, the slot is the one that sequence
matches, and the match fills it. -/
theorem laneFrameMatchesModulo256 : Obligations.LaneFrameMatchesModulo256 := by
  unfold Obligations.LaneFrameMatchesModulo256
  intro s m j k n status a b apart aLow aHigh bLow bHigh enabled opened only
  have read := readLaneFrame_laneBytes m status (Nat.mod_lt k (by decide)) aLow aHigh bLow bHigh
  rw [sequence_eq_of_sub_eq_mul apart] at read ⊢
  have found := find?_only_slot opened rfl only
  refine ⟨_, exec_laneFrameArrival _ s, ?_⟩
  rw [laneArrival_of_read read enabled, matchFrame_empty_slots _ found]
  exact mem_fillSlot opened _

end Sys2Proof.Machine
end

section
/-! Waveform capture (chapter 6): what a trigger does to the capture being collected, and what the CAPTURE order does in
each campaign state. -/

namespace Sys2Proof.Machine

/-! ## A trigger in COLLECTING (R104) -/

/-- The post end of a capture after a trigger in COLLECTING: moved by the copied CAPTURE_EXTEND alone (R104). -/
def Capture.joinedPostEnd (h : Capture) (strobe : Nat) : Nat :=
  if h.extend then max h.postEnd (strobe + h.post * 256) else h.postEnd

/-- The outcome of a trigger in COLLECTING (R104). -/
def Capture.joinedOutcome (h : Capture) : TrigOutcome := if h.extend then .extended else .added

/-- The outcome of a trigger that joins a capture is that of its copy of CAPTURE_EXTEND. -/
theorem Capture.joined_fst (h : Capture) (cause : TrigCause) (event strobe : Nat) :
    (h.joined cause event strobe).1 = h.joinedOutcome := rfl

/-- While the list has room the trigger is listed at its back, and beside the list only the post end changes. -/
theorem Capture.joined_snd_of_room {h : Capture} (room : h.triggers.length < 8) (cause : TrigCause)
    (event strobe : Nat) :
    (h.joined cause event strobe).2 =
      { h with
        postEnd := h.joinedPostEnd strobe
        triggers := h.triggers ++ [{ cause := cause, event := event, strobe := strobe, outcome := h.joinedOutcome }] } :=
  if_pos room

/-- With a full list the trigger is only counted: beside the overflow count only the post end changes. -/
theorem Capture.joined_snd_of_full {h : Capture} (full : ¬ h.triggers.length < 8) (cause : TrigCause)
    (event strobe : Nat) :
    (h.joined cause event strobe).2 =
      { h with postEnd := h.joinedPostEnd strobe, overflow := satSucc 255 h.overflow } :=
  if_neg full

/-- In COLLECTING a trigger joins the capture in hand, and the rest of the state stays. -/
theorem trigger_collecting {s : State} {h : Capture} (collecting : s.cu.state = .collecting)
    (inHand : s.cu.hand = some h) (cause : TrigCause) (event strobe : Nat) :
    trigger cause event strobe s =
      ((h.joined cause event strobe).1, s.setCu { s.cu with hand := some (h.joined cause event strobe).2 }) := by
  simp only [trigger, collecting, inHand]

/-- Settles O24: the trigger joins the capture in hand, listed or counted by the room in the list. -/
theorem triggerJoinsCapture : Obligations.TriggerJoinsCapture := by
  unfold Obligations.TriggerJoinsCapture
  intro s h cause event strobe collecting inHand outcome postEnd first
  rw [trigger_collecting collecting inHand, Capture.joined_fst]
  by_cases room : h.triggers.length < 8
  · rw [Capture.joined_snd_of_room room, if_pos room]
    rfl
  · rw [Capture.joined_snd_of_full room, if_neg room]
    rfl

/-! ## The CAPTURE order (R102) -/

/-- While RUNNING the CAPTURE order makes a trigger at the next set and answers OK with its outcome. -/
theorem orderCapture_running {s : State} (running : s.ia.state = .running) (tag : Byte) :
    orderCapture tag s =
      answerOk tag 8 (leBytes 1 (trigger .order 0 (nextSet s) s).1.code) (trigger .order 0 (nextSet s) s).2 :=
  if_pos running

/-- In the other campaign states the CAPTURE order is refused without a trigger. -/
theorem orderCapture_not_running {s : State} (idle : s.ia.state ≠ .running) (tag : Byte) :
    orderCapture tag s = refuse tag 8 .wrongState s :=
  if_neg idle

/-- The dispatch of a CAPTURE order reads it back and carries it out. -/
theorem dispatch_capture (tag : Byte) (s : State) : dispatch ⟨tag, 8, [], true⟩ s = orderCapture tag s := rfl

/-- A CAPTURE order that finds no order waiting and room for its reply is carried out in its own event. -/
theorem exec_capture_ready {s : State} (ready : Ready s) (tag : Byte) :
    exec (.capture tag) s = .next (settle (orderCapture tag s)) :=
  calc exec (.capture tag) s = .next (settle (submit (.capture tag) s)) := rfl
    _ = .next (settle (dispatch ⟨tag, 8, [], true⟩ s)) := by rw [submit_ready ready rfl]
    _ = .next (settle (orderCapture tag s)) := by rw [dispatch_capture]

/-- The set the next strobe issue hands on is the next set the Capture Unit takes, where the 48-bit index does not wrap. -/
theorem nextSet_of_setAtIssue {s : State} {k : Nat} (handsOn : setAtIssue s = some k)
    (noWrap : s.lr.strobe + 1 < 281474976710656) : k = nextSet s := by
  have issued : nextStrobe s = s.lr.strobe + 1 := Nat.mod_eq_of_lt noWrap
  simp only [setAtIssue, issued, Option.ite_none_right_eq_some, Option.some.injEq] at handsOn
  obtain ⟨-, rfl⟩ := handsOn
  simp only [nextSet]
  omega

/-- Settles O42: a ready CAPTURE order is carried out at once, by the campaign state, and its trigger strobe is the index
of the set the next strobe issue hands on. -/
theorem captureOrderTriggers : Obligations.CaptureOrderTriggers := by
  unfold Obligations.CaptureOrderTriggers
  intro s tag ready
  rw [exec_capture_ready ready]
  refine ⟨fun idle => ?_, fun running => ?_, fun k handsOn noWrap => nextSet_of_setAtIssue handsOn noWrap⟩
  · rw [orderCapture_not_running idle]
    rfl
  · rw [orderCapture_running running]
    rfl

end Sys2Proof.Machine
end

section
/-! The ACK order (section 11.7): what it clears of the latched flags, what it leaves of the persistent ones, and what
it answers. -/

namespace Sys2Proof.Machine

/-! ## Set marks of the two kinds of flags (R195) -/

/-- Every flag has one of the 21 mask bits. -/
theorem Flag.bit_lt (f : Flag) : f.bit < 21 := by
  cases f with
  | modDown m => exact Nat.lt_trans m.isLt (by decide)
  | _ => decide

/-- The set mark of a latched flag is its bit of the latched marks. -/
theorem flagSet_of_latched (s : State) {f : Flag} (latched : 11 ≤ f.bit) :
    flagSet s f = s.sl.latched.getLsbD f.bit := by
  cases f with
  | modDown m => exact absurd latched (Nat.not_le.mpr (Nat.lt_trans m.isLt (by decide)))
  | trackHold | timeUnset | timeDrift | storeFault | storeFull | busHung | seqExhausted =>
    exact absurd latched (by decide)
  | _ => rfl

/-- No persistent flag's condition is read from the Station Link Interface. -/
theorem flagSet_setSl_of_persistent (s : State) (x : SL) {f : Flag} (persistent : f.bit < 11) :
    flagSet (s.setSl x) f = flagSet s f := by
  cases f with
  | modDown | trackHold | timeUnset | timeDrift | storeFault | storeFull | busHung | seqExhausted => rfl
  | _ => exact absurd persistent (by decide)

/-! ## Clearing the listed flags (R196) -/

/-- The state with the latched flags of a mask cleared. -/
def clearLatched (mask : BitVec 21) (s : State) : State :=
  s.setSl { s.sl with latched := s.sl.latched &&& ~~~mask }

/-- A latched flag is set after the clearing when it was set and the mask does not list it. -/
theorem flagSet_clearLatched_of_latched (mask : BitVec 32) (s : State) {f : Flag} (latched : 11 ≤ f.bit) :
    flagSet (clearLatched (mask.setWidth 21) s) f = (flagSet s f && !mask.getLsbD f.bit) := by
  rw [flagSet_of_latched _ latched, flagSet_of_latched _ latched]
  simp [clearLatched, f.bit_lt]

/-! ## The ACK order (R196) -/

/-- A mask with a bit above the flags is refused. -/
theorem orderAck_of_above {mask : BitVec 32} (above : 2097152 ≤ mask.toNat) (tag : Byte) (s : State) :
    orderAck tag mask s = refuse tag 9 .invalid s :=
  if_pos above

/-- A mask of flags alone clears the latched flags listed, and is answered with the flags listed that are still set. -/
theorem orderAck_of_flags {mask : BitVec 32} (flags : mask.toNat < 2097152) (tag : Byte) (s : State) :
    orderAck tag mask s =
      answerOk tag 9 (leBytes 4 (setMarks (clearLatched (mask.setWidth 21) s) &&& mask.setWidth 21).toNat)
        (clearLatched (mask.setWidth 21) s) :=
  if_neg (Nat.not_le.mpr flags)

/-- The dispatch of an ACK order reads its mask back and carries it out. -/
theorem dispatch_ack (tag : Byte) (mask : BitVec 32) (s : State) :
    dispatch ⟨tag, 9, leBytes 4 mask.toNat, true⟩ s = orderAck tag mask s := by
  have readBack : readOrder ⟨tag, 9, leBytes 4 mask.toNat, true⟩ =
      .inr (.ack tag (fieldVec 32 (leBytes 4 mask.toNat) 0 4)) := rfl
  rw [fieldVec32] at readBack
  simp only [dispatch, readBack, Instr.isLongStore, carryOut, Bool.false_and, Bool.false_eq_true, if_false]

/-- An ACK order that finds no order waiting and room for its reply is carried out in its own event. -/
theorem exec_ack_ready {s : State} (ready : Ready s) (tag : Byte) (mask : BitVec 32) :
    exec (.ack tag mask) s = .next (settle (orderAck tag mask s)) :=
  calc exec (.ack tag mask) s = .next (settle (submit (.ack tag mask) s)) := rfl
    _ = .next (settle (dispatch ⟨tag, 9, leBytes 4 mask.toNat, true⟩ s)) := by rw [submit_ready ready rfl]
    _ = .next (settle (orderAck tag mask s)) := by rw [dispatch_ack]

/-- Settles O37: a ready ACK order is carried out at once; it is refused for a bit above the flags, and else clears the
latched marks of its mask, which no persistent flag is read from. -/
theorem ackClearsLatchedFlags : Obligations.AckClearsLatchedFlags := by
  unfold Obligations.AckClearsLatchedFlags
  intro s tag mask ready
  rw [exec_ack_ready ready]
  refine ⟨fun above => ?_, fun flags => ⟨?_, rfl, fun f latched => ?_, fun f persistent => ?_⟩⟩
  · rw [orderAck_of_above above]
    rfl
  · rw [orderAck_of_flags flags]
    rfl
  · exact flagSet_clearLatched_of_latched mask s latched
  · exact flagSet_setSl_of_persistent s _ persistent

end Sys2Proof.Machine
end

section
/-! What every operation keeps: the relations between a state and what an operation leaves of it, from which the invariants of
the part follow. -/

namespace Sys2Proof.Machine

/-! ## What the invariants look at -/

/-- Which records of the queue are CAMPAIGN_END records. -/
def endMarks (s : State) : List Bool := s.rq.entries.map fun e => e.record.body.isEnd

/-- What the invariants look at, but for the module bus and the sample buffer. -/
def storeView (s : State) :=
  (s.ed.dip, s.ed.swell, s.sl.orders, s.sl.replies, s.sl.reserved, s.sl.storeOrder, endMarks s, s.sr.queue,
    s.sr.current.map Readback.waiters, s.sw.buffer, s.sw.mode, s.cache, s.cu.hand.map Capture.triggers, s.ia.state,
    s.ia.stopTag)

/-- The blocks that the store and the campaign's records leave alone. -/
def frameView (s : State) := (s.lr, s.mm, s.cc, s.ct, s.mu, s.tb, s.mb, s.pending)

/-- What the reservation of reply places rests on (R131, R165, R176, R178, R183). -/
structure Shape (s : State) : Prop where
  stop : s.ia.stopTag.isSome = true → s.ia.state = .stopping
  fetches : FetchWf s
  busy : s.mb.transaction.isSome = true ↔ s.mb.state = .busy
  cut : s.mb.cut = true → s.mb.transaction.isSome = true
  recovering : s.mb.abortTag.isSome = true ↔ s.mb.state = .recovering
  held : s.mb.heldAbort.isSome = true → s.mb.state = .busy
  readbacks : ReadbackWf s

/-- The reply queue has `n` places left over, and `d` places are reserved beyond those of the orders that wait for their final
reply (R187, R188). -/
structure Room (n d : Nat) (s : State) : Prop where
  places : s.sl.replies.length + s.sl.reserved + n ≤ 32
  reserved : s.sl.reserved = awaiting s + d
  shape : Shape s

theorem repliesWf_iff_room {s : State} : RepliesWf s ↔ Room 0 0 s :=
  ⟨fun h => ⟨h.places, h.reserved, ⟨h.stop, h.fetches, h.busy, h.cut, h.recovering, h.held, h.readbacks⟩⟩,
   fun ⟨p, r, ⟨a, b, c, d, e, f, g⟩⟩ => ⟨p, r, a, b, c, d, e, f, g⟩⟩

theorem Room.mono {n m d : Nat} {s : State} (h : Room n d s) (le : m ≤ n) : Room m d s :=
  ⟨by have := h.places; omega, h.reserved, h.shape⟩

/-- The sizes that BuffersWf bounds for the records are those of the list of their marks. -/
theorem records_le_iff {s : State} : s.rq.entries.length ≤ 16 ↔ (endMarks s).length ≤ 16 := by simp [endMarks]

theorem others_le_iff {s : State} :
    (s.rq.entries.filter fun e => !e.record.body.isEnd).length ≤ 15 ↔ ((endMarks s).filter (! ·)).length ≤ 15 := by
  simp [endMarks, List.filter_map, Function.comp_def]

/-- What the reservation of reply places looks at (R187, R188). -/
def roomView (s : State) :=
  (s.sl.replies, s.sl.reserved, s.sl.storeOrder, s.sr.queue, s.sr.current.map Readback.waiters, s.ia.state, s.ia.stopTag, s.mb)

/-- A current readback and its waiters, seen in the list of waiters. -/
theorem waiters_congr {s t : State} (h : t.sr.current.map Readback.waiters = s.sr.current.map Readback.waiters) :
    t.sr.current.isSome = s.sr.current.isSome ∧
      t.sr.current.toList.flatMap Readback.waiters = s.sr.current.toList.flatMap Readback.waiters := by
  cases ht : t.sr.current <;> cases hs : s.sr.current <;> simp_all

theorem readbackWf_congr {s t : State} (queue : t.sr.queue = s.sr.queue)
    (waiters : t.sr.current.map Readback.waiters = s.sr.current.map Readback.waiters) (h : ReadbackWf s) : ReadbackWf t := by
  simpa only [ReadbackWf, (waiters_congr waiters).1, queue] using h

theorem Room.congr {n d : Nat} {s t : State} (h : roomView t = roomView s) (r : Room n d s) : Room n d t := by
  simp only [roomView, Prod.mk.injEq] at h
  obtain ⟨replies, reserved, storeOrder, queue, waiters, state, stopTag, mb⟩ := h
  obtain ⟨places, count, stop, fetches, busy, cut, recovering, held, readbacks⟩ := r
  refine ⟨by rwa [replies, reserved], ?_, ⟨by rwa [stopTag, state], ?_, by rwa [mb], by rwa [mb], by rwa [mb], by rwa [mb],
    readbackWf_congr queue waiters readbacks⟩⟩
  · simpa only [awaiting, reserved, stopTag, storeOrder, queue, (waiters_congr waiters).2, mb] using count
  · simpa only [FetchWf, mb] using fetches

/-! ## What an operation of the store or of the records keeps -/

/-- What the operations of the store, the records and the campaign leave of a state: the measurement blocks, the module bus
and the open events as they were, and every invariant that held. -/
structure StoreKeeps (s t : State) : Prop where
  frame : frameView t = frameView s
  dip : t.ed.dip = s.ed.dip
  swell : t.ed.swell = s.ed.swell
  readback : ReadbackWf s → ReadbackWf t
  buffers : BuffersWf s → BuffersWf t
  replies : ∀ n d, Room n d s → Room n d t

namespace StoreKeeps

variable {s t u : State}

theorem refl (s : State) : StoreKeeps s s := ⟨rfl, rfl, rfl, id, id, fun _ _ => id⟩

theorem trans (h : StoreKeeps s t) (k : StoreKeeps t u) : StoreKeeps s u :=
  ⟨k.frame.trans h.frame, k.dip.trans h.dip, k.swell.trans h.swell, fun x => k.readback (h.readback x),
    fun x => k.buffers (h.buffers x), fun n d x => k.replies n d (h.replies n d x)⟩

/-- The frame as the obligations state it. -/
theorem storeFrame (h : StoreKeeps s t) : StoreFrame s t := by
  have f := h.frame
  simp only [frameView, Prod.mk.injEq] at f
  obtain ⟨h1, h2, h3, h4, h5, h6, h7, h8⟩ := f
  exact ⟨⟨h1, h2, h3, h4, h5, h6⟩, h7, h8⟩

/-- A change of buffers alone keeps everything when it keeps their sizes. -/
theorem of_buffers (frame : frameView t = frameView s) (dip : t.ed.dip = s.ed.dip) (swell : t.ed.swell = s.ed.swell)
    (room : roomView t = roomView s) (buffers : BuffersWf s → BuffersWf t) : StoreKeeps s t := by
  have r := room
  simp only [roomView, Prod.mk.injEq] at r
  obtain ⟨-, -, -, queue, waiters, -⟩ := r
  exact ⟨frame, dip, swell, readbackWf_congr queue waiters, buffers, fun _ _ => Room.congr room⟩

/-- An operation that leaves all that the invariants look at keeps them. -/
theorem of_same (f : frameView t = frameView s) (h : storeView t = storeView s) : StoreKeeps s t := by
  have f' := f
  simp only [frameView, Prod.mk.injEq] at f'
  obtain ⟨-, -, cc, -, -, -, mb, -⟩ := f'
  simp only [storeView, Prod.mk.injEq] at h
  obtain ⟨dip, swell, orders, replies, reserved, storeOrder, marks, queue, waiters, page, mode, cache, triggers, state,
    stopTag⟩ := h
  refine of_buffers f dip swell
    (by simp only [roomView, replies, reserved, storeOrder, queue, waiters, state, stopTag, mb]) fun b => ?_
  exact
    { orders := orders ▸ b.orders
      samples := cc ▸ b.samples
      records := records_le_iff.mpr (marks ▸ records_le_iff.mp b.records)
      others := others_le_iff.mpr (marks ▸ others_le_iff.mp b.others)
      readbacks := queue ▸ b.readbacks
      page := page ▸ b.page
      cache := cache ▸ b.cache
      distinct := cache ▸ b.distinct
      direct := by rw [mode, cache]; exact b.direct
      triggers := fun h hh => by
        rw [hh] at triggers
        cases hs : s.cu.hand with
        | none => simp [hs] at triggers
        | some x => simp [hs] at triggers; rw [triggers]; exact b.triggers x hs }

/-- A further change that leaves all that the invariants look at. -/
theorem same (h : StoreKeeps s t) (f : frameView u = frameView t) (v : storeView u = storeView t) : StoreKeeps s u :=
  h.trans (of_same f v)

/-- A fold of steps that keep keeps. -/
theorem foldl {α : Type} {f : State → α → State} (step : ∀ t a, StoreKeeps t (f t a)) (h : StoreKeeps s t) (l : List α) :
    StoreKeeps s (l.foldl f t) := by
  induction l generalizing t with
  | nil => exact h
  | cons a l ih => exact ih (h.trans (step t a))

/-- A step repeated keeps what the step keeps. -/
theorem repeated {f : State → State} (step : ∀ t, StoreKeeps t (f t)) (h : StoreKeeps s t) (n : Nat) :
    StoreKeeps s (repeatStep f n t) := by
  induction n generalizing t with
  | zero => exact h
  | succ n ih => exact ih (h.trans (step t))

/-- The records of the queue replaced by some of them, changed in nothing but their marks of progress. -/
theorem fewer_records {x : RQ} (h : StoreKeeps s t)
    (sub : (x.entries.map fun e => e.record.body.isEnd).Sublist (endMarks t)) : StoreKeeps s (t.setRq x) :=
  h.trans <| of_buffers rfl rfl rfl rfl fun b =>
    { b with
      records := records_le_iff.mpr (sub.length_le.trans (records_le_iff.mp b.records))
      others := others_le_iff.mpr ((sub.filter _).length_le.trans (others_le_iff.mp b.others)) }

/-- A change of the queue entries that leaves their records. -/
theorem same_records {x : RQ} {f : Entry → Entry} (h : StoreKeeps s t) (map : x.entries = t.rq.entries.map f)
    (keep : ∀ e, (f e).record = e.record) : StoreKeeps s (t.setRq x) :=
  h.fewer_records (by simp [map, endMarks, Function.comp_def, keep])

/-- A record that enters finds a slot, so the queue stays within its size (R137). -/
theorem enter_record {x : RQ} {e : Entry} (h : StoreKeeps s t) (append : x.entries = t.rq.entries ++ [e])
    (slot : hasSlot e.record.body.isEnd t.rq.entries = true) : StoreKeeps s (t.setRq x) :=
  h.trans <| of_buffers rfl rfl rfl rfl fun b => by
    simp only [hasSlot, Bool.and_eq_true, Bool.or_eq_true, decide_eq_true_eq] at slot
    obtain ⟨short, kind⟩ := slot
    refine { b with records := ?_, others := ?_ }
    · simp only [State.setRq_rq, append, List.length_append, List.length_singleton]
      omega
    · have others := b.others
      simp only [State.setRq_rq, append, List.filter_append, List.length_append]
      cases mark : e.record.body.isEnd
      · rcases kind with kind | kind
        · simp [mark] at kind
        · simpa [mark] using Nat.succ_le_of_lt kind
      · simpa [mark] using others

end StoreKeeps

section
variable {s t : State}

/-! ## Flags, draws and records -/

theorem keeps_latch (f : Flag) (h : StoreKeeps s t) : StoreKeeps s (latch f t) := h.same rfl rfl

theorem keeps_draw (h : StoreKeeps s t) : StoreKeeps s (draw t).2 := h.same rfl rfl

theorem keeps_releaseCapture (h : StoreKeeps s t) : StoreKeeps s (releaseCapture t) := by
  have empty : ∀ x : CU, x.hand = none → StoreKeeps s (t.setCu x) := fun x none =>
    h.trans <| .of_buffers rfl rfl rfl rfl fun b =>
      { b with triggers := fun c hc => by rw [State.setCu_cu, none] at hc; cases hc }
  unfold releaseCapture
  split <;> exact empty _ rfl

theorem keeps_departed (e : Entry) (h : StoreKeeps s t) : StoreKeeps s (departed t e) := by
  have count : StoreKeeps s
      (if endsInHead t e then t.setSw { t.sw with headDepartures := t.sw.headDepartures + 1 } else t) := by
    split
    · exact h.same rfl rfl
    · exact h
  unfold departed
  dsimp only
  split
  · exact keeps_releaseCapture count
  · exact count

theorem keeps_sweep (h : StoreKeeps s t) : StoreKeeps s (sweep t) :=
  .foldl (fun u e => keeps_departed e (.refl u)) (h.fewer_records (List.filter_sublist.map _)) _

theorem keeps_markAllStored (h : StoreKeeps s t) : StoreKeeps s (markAllStored t) :=
  keeps_sweep (h.same_records (f := fun e => { e with stored := true }) rfl fun _ => rfl)

theorem keeps_markAllEmitted (h : StoreKeeps s t) : StoreKeeps s (markAllEmitted t) :=
  keeps_sweep (h.same_records (f := fun e => { e with emitted := true }) rfl fun _ => rfl)

theorem keeps_markEmitted (sequence : Nat) (h : StoreKeeps s t) : StoreKeeps s (markEmitted sequence t) :=
  keeps_sweep (h.same_records (f := fun e => if e.record.sequence = sequence then { e with emitted := true } else e) rfl
    fun e => by split <;> rfl)

theorem keeps_countLost (n : Nat) (h : StoreKeeps s t) : StoreKeeps s (countLost n t) := by
  unfold countLost
  split
  · exact h
  · exact h.same rfl rfl

theorem keeps_handRecord (body : RecordBody) (h : StoreKeeps s t) : StoreKeeps s (handRecord body t).2 := by
  unfold handRecord
  split
  · exact h.same rfl rfl
  · dsimp only
    split
    · next slot => exact keeps_sweep (StoreKeeps.enter_record (h.same rfl rfl) rfl slot)
    · exact keeps_countLost 1 (h.same rfl rfl)

theorem keeps_discardEntries (h : StoreKeeps s t) : StoreKeeps s (discardEntries t) := by
  have lost : StoreKeeps s
      (countLost (t.rq.entries.filter fun e => !e.stored).length (t.setRq { t.rq with entries := [] })) :=
    keeps_countLost _ (h.fewer_records (List.nil_sublist _))
  unfold discardEntries
  dsimp only
  split
  · exact keeps_releaseCapture lost
  · exact lost

theorem keeps_takeSequence (found : NextSeq) (h : StoreKeeps s t) : StoreKeeps s (takeSequence found t) := by
  unfold takeSequence
  split
  · exact h.same rfl rfl
  · split
    · exact h.same_records (f := fun e => if e.stored then e else e.setBack) rfl fun e => by split <;> rfl
    · exact (keeps_discardEntries h).same rfl rfl

theorem keeps_settingsRecord (cause : SettingsCause) (applied : BitVec 8) (h : StoreKeeps s t) :
    StoreKeeps s (settingsRecord cause applied t) := keeps_handRecord _ h

theorem keeps_placePending (h : StoreKeeps s t) : StoreKeeps s (placePending t) := h.same rfl rfl

theorem keeps_applyPending (cause : SettingsCause) (h : StoreKeeps s t) : StoreKeeps s (applyPending cause t) := by
  unfold applyPending
  split
  · exact h
  · exact keeps_settingsRecord _ _ (keeps_placePending h)

theorem keeps_applyUnlessHold (cause : SettingsCause) (h : StoreKeeps s t) : StoreKeeps s (applyUnlessHold cause t) := by
  unfold applyUnlessHold
  split
  · exact h
  · exact keeps_applyPending cause h

end

end Sys2Proof.Machine
end

section
/-! Final replies and the ends of the operations that wait for them: every reserved place is released by the final reply it was
reserved for (R187, R188). -/

namespace Sys2Proof.Machine

/-! ## Final replies -/

/-- So many final replies are formed: each releases a reserved place, and takes one of the queue or none. -/
def Finals (k : Nat) (s t : State) : Prop :=
  ∃ l, t = s.setSl { s.sl with replies := l, reserved := s.sl.reserved - k } ∧ l.length ≤ s.sl.replies.length + k

theorem finals_finalReply (r : Reply) (s : State) : Finals 1 s (finalReply r s) := by
  obtain ⟨l, h, rfl | rfl⟩ := finalReply_spec r s
  · exact ⟨_, h, Nat.le_succ _⟩
  · exact ⟨_, h, by simp⟩

theorem Finals.zero (s : State) : Finals 0 s s := ⟨s.sl.replies, rfl, Nat.le_refl _⟩

theorem Finals.trans {j k : Nat} {s t u : State} (h : Finals j s t) (g : Finals k t u) : Finals (j + k) s u := by
  obtain ⟨l, rfl, hl⟩ := h
  obtain ⟨m, rfl, hm⟩ := g
  refine ⟨m, ?_, ?_⟩
  · simp only [State.setSl, Nat.sub_sub]
  · simp only [State.setSl_sl] at hm
    omega

/-- One final reply for each member of a list. -/
theorem finals_foldl {α : Type} {f : State → α → State} (step : ∀ s a, Finals 1 s (f s a)) (l : List α) (s : State) :
    Finals l.length s (l.foldl f s) := by
  induction l generalizing s with
  | nil => exact .zero s
  | cons a l ih =>
    rw [List.length_cons, Nat.add_comm]
    exact (step s a).trans (ih _)

theorem finals_answerWaiters (waiters : List Byte) (s : State) : Finals waiters.length s (answerWaiters waiters s) :=
  finals_foldl (fun s _ => finals_finalReply _ s) waiters s

theorem Finals.startReadback {k : Nat} {s t : State} (h : Finals k s t) :
    Finals k (startReadback s) (startReadback t) := by
  obtain ⟨l, rfl, hl⟩ := h
  refine ⟨l, ?_, ?_⟩
  · unfold Machine.startReadback
    simp only [State.setSl_sr]
    split <;> rfl
  · unfold Machine.startReadback
    split <;> exact hl

/-- The final replies of the orders that no longer wait balance the places reserved for them. -/
theorem Finals.room {n d k : Nat} {s t : State} (h : Finals k s t) (shape : Shape s)
    (places : s.sl.replies.length + s.sl.reserved + n ≤ 32) (count : s.sl.reserved = awaiting s + d + k) : Room n d t := by
  obtain ⟨l, rfl, hl⟩ := h
  refine ⟨?_, ?_, ⟨shape.1, shape.2, shape.3, shape.4, shape.5, shape.6, shape.7⟩⟩
  · simp only [State.setSl_sl]
    omega
  · change s.sl.reserved - k = awaiting s + d
    omega

/-- An operation after which so many orders wait no more, and that gives each its final reply. -/
theorem StoreKeeps.of_finals {s m t : State} {k : Nat} (final : Finals k m t) (frame : frameView m = frameView s)
    (dip : m.ed.dip = s.ed.dip) (swell : m.ed.swell = s.ed.swell) (readback : ReadbackWf s → ReadbackWf m)
    (buffers : BuffersWf s → BuffersWf m)
    (places : m.sl.replies.length ≤ s.sl.replies.length ∧ m.sl.reserved = s.sl.reserved)
    (shape : Shape s → Shape m) (count : awaiting s = awaiting m + k) : StoreKeeps s t := by
  have room : ∀ n d, Room n d s → Room n d t := fun n d r =>
    final.room (shape r.shape) (by have := r.places; omega) (by have := r.reserved; omega)
  obtain ⟨l, rfl, -⟩ := final
  exact ⟨frame, dip, swell, readback,
    fun b => let b := buffers b; ⟨b.1, b.2, b.3, b.4, b.5, b.6, b.7, b.8, b.9, b.10⟩, room⟩

section
variable {s t : State}

/-! ## The end of a STOP (R131) -/

/-- A campaign that enters STOPPED answers the STOP that waits (R131, R132). -/
theorem keeps_answerStop (outcome : Nat) (h : StoreKeeps s t) :
    StoreKeeps s (answerStop outcome (t.setIa { t.ia with state := .stopped, endSeq := none })) := by
  refine h.trans ?_
  unfold answerStop
  split
  · next noTag =>
    have noTag : t.ia.stopTag = none := noTag
    refine ⟨rfl, rfl, rfl, id, fun b => ⟨b.1, b.2, b.3, b.4, b.5, b.6, b.7, b.8, b.9, b.10⟩, fun n d r => ?_⟩
    exact ⟨r.places, r.reserved, ⟨by simp [noTag], r.shape.2, r.shape.3, r.shape.4, r.shape.5, r.shape.6, r.shape.7⟩⟩
  · next tag waits =>
    have waits : t.ia.stopTag = some tag := waits
    refine .of_finals (finals_finalReply _ _) rfl rfl rfl id
      (fun b => ⟨b.1, b.2, b.3, b.4, b.5, b.6, b.7, b.8, b.9, b.10⟩) ⟨Nat.le_refl _, rfl⟩
      (fun r => ⟨by simp, r.2, r.3, r.4, r.5, r.6, r.7⟩) ?_
    simp only [awaiting, State.setIa_ia, State.setIa_sl, State.setIa_sr, State.setIa_mb, waits, Option.toList_some,
      Option.toList_none, List.length_singleton, List.length_nil]
    omega

theorem keeps_enterStopped (outcome : Nat) (h : StoreKeeps s t) : StoreKeeps s (enterStopped outcome t) :=
  keeps_applyPending _ (keeps_answerStop outcome h)

theorem keeps_endRecordSettled (outcome : Nat) (h : StoreKeeps s t) : StoreKeeps s (endRecordSettled outcome t) := by
  unfold endRecordSettled
  split
  · exact keeps_enterStopped outcome h
  · exact h

/-! ## The end of a long store order (R187) -/

/-- The long store order in flight ends with its final reply. -/
theorem keeps_orderEnds {o : LongOrder} {tag : Byte} {u : State} (h : StoreKeeps s t)
    (order : t.sl.storeOrder = some (o, tag)) (final : Finals 1 (t.setSl { t.sl with storeOrder := none }) u) :
    StoreKeeps s u := by
  refine h.trans (.of_finals final rfl rfl rfl id (fun b => ⟨b.1, b.2, b.3, b.4, b.5, b.6, b.7, b.8, b.9, b.10⟩)
    ⟨Nat.le_refl _, rfl⟩ (fun r => ⟨r.1, r.2, r.3, r.4, r.5, r.6, r.7⟩) ?_)
  simp only [awaiting, State.setSl_ia, State.setSl_sl, State.setSl_sr, State.setSl_mb, order, Option.toList_some,
    Option.toList_none, List.length_singleton, List.length_nil]
  omega

theorem keeps_storeOrderDone (body : List Byte) (h : StoreKeeps s t) : StoreKeeps s (storeOrderDone body t) := by
  unfold storeOrderDone
  split
  · exact h
  · next order => exact keeps_orderEnds h order (finals_finalReply _ _)

theorem keeps_storeOrderFailed (h : StoreKeeps s t) : StoreKeeps s (storeOrderFailed t) := by
  unfold storeOrderFailed
  split
  · exact h
  · next order => exact keeps_orderEnds h order (finals_finalReply _ _)

/-! ## The ends of readbacks (R165, R171, R172) -/

theorem keeps_orphanRead (h : StoreKeeps s t) : StoreKeeps s (orphanRead t) := by
  unfold orphanRead
  split
  · split
    · exact h.same rfl rfl
    · exact h
  · exact h

/-- What the orphaning of a read leaves of the reader. -/
theorem orphanRead_sr (s : State) :
    (orphanRead s).sr.queue = s.sr.queue ∧ (orphanRead s).sr.current = s.sr.current := by
  unfold orphanRead
  repeat' split
  all_goals exact ⟨rfl, rfl⟩

/-- The readback orders, none of them current. -/
def queueLeft (rest : List ReadOrder) (s : State) : State := s.setSr { s.sr with queue := rest, current := none }

theorem startReadback_queueLeft (rest : List ReadOrder) (s : State) :
    startReadback (queueLeft rest s) = s.setSr { s.sr with queue := rest, current := rest.head?.map Readback.begin } := by
  cases rest <;> rfl

/-- The current readback ends, answered with those that wait on it, and the next one becomes current (R165, R171). -/
theorem keeps_readbackEnds {o : ReadOrder} {rest : List ReadOrder} {r : Readback} {u : State} (h : StoreKeeps s t)
    (queue : t.sr.queue = o :: rest) (current : t.sr.current = some r)
    (final : Finals (1 + r.waiters.length) (queueLeft rest t) u) : StoreKeeps s (startReadback u) := by
  have final := final.startReadback
  rw [startReadback_queueLeft] at final
  have readback : ReadbackWf (t.setSr { t.sr with queue := rest, current := rest.head?.map Readback.begin }) := by
    cases rest <;> simp [ReadbackWf]
  refine h.trans (.of_finals final rfl rfl rfl (fun _ => readback) (fun b => ?_) ⟨Nat.le_refl _, rfl⟩
    (fun x => ⟨x.1, x.2, x.3, x.4, x.5, x.6, readback⟩) ?_)
  · refine ⟨b.1, b.2, b.3, b.4, ?_, b.6, b.7, b.8, b.9, b.10⟩
    have := b.readbacks
    rw [queue, List.length_cons] at this
    exact Nat.le_of_succ_le this
  · have waiters : ((rest.head?.map Readback.begin).toList.flatMap Readback.waiters) = [] := by
      cases rest <;> rfl
    simp only [awaiting, State.setSr_ia, State.setSr_sl, State.setSr_sr, State.setSr_mb, queue, current, waiters,
      Option.toList_some, List.flatMap_singleton, List.length_cons, List.length_nil]
    omega

theorem keeps_endReadback (cancelled failed : Bool) (h : StoreKeeps s t) :
    StoreKeeps s (endReadback cancelled failed t) := by
  unfold endReadback
  split
  · next o rest r queue current =>
    obtain ⟨q, c⟩ := orphanRead_sr t
    refine keeps_readbackEnds (keeps_orphanRead h) (q.trans queue) (c.trans current) (.trans ?_ (finals_answerWaiters _ _))
    dsimp only
    split <;> exact finals_finalReply _ _
  · exact h

/-- Readback orders behind the front leave the queue, each with its final reply (R171, R172). -/
theorem keeps_queuedLeave {front left gone : List ReadOrder} {u : State} (h : StoreKeeps s t)
    (queue : (t.sr.queue).length = (front ++ left).length + gone.length)
    (empty : front ++ left = [] ↔ t.sr.queue = [])
    (final : Finals gone.length (t.setSr { t.sr with queue := front ++ left }) u) : StoreKeeps s u := by
  refine h.trans (.of_finals final rfl rfl rfl (fun r => ?_) (fun b => ?_) ⟨Nat.le_refl _, rfl⟩ (fun x => ?_) ?_)
  · simpa only [ReadbackWf, State.setSr_sr, ne_eq, empty] using r
  · refine ⟨b.1, b.2, b.3, b.4, ?_, b.6, b.7, b.8, b.9, b.10⟩
    have := b.readbacks
    simp only [State.setSr_sr]
    omega
  · exact ⟨x.1, x.2, x.3, x.4, x.5, x.6, by simpa only [ReadbackWf, State.setSr_sr, ne_eq, empty] using x.7⟩
  · simp only [awaiting, State.setSr_ia, State.setSr_sl, State.setSr_sr, State.setSr_mb]
    omega

theorem keeps_endQueued (cancelled failed : Bool) (h : StoreKeeps s t) : StoreKeeps s (endQueued cancelled failed t) := by
  refine keeps_queuedLeave (front := t.sr.queue.take 1) (left := []) (gone := t.sr.queue.drop 1) h ?_ ?_ ?_
  · simp only [List.append_nil, List.length_take, List.length_drop]
    omega
  · cases t.sr.queue <;> simp
  · rw [List.append_nil]
    refine finals_foldl (fun s o => ?_) _ _
    split <;> exact finals_finalReply _ _

theorem keeps_cancelQueued (tag : Byte) (h : StoreKeeps s t) : StoreKeeps s (cancelQueued tag t) := by
  refine keeps_queuedLeave (front := t.sr.queue.take 1) (left := (t.sr.queue.drop 1).filter fun o => o.tag != tag)
    (gone := (t.sr.queue.drop 1).filter fun o => o.tag == tag) h ?_ ?_ (finals_foldl (fun s o => finals_finalReply _ s) _ _)
  · have split : ∀ l : List ReadOrder,
        l.length = (l.filter fun o => o.tag != tag).length + (l.filter fun o => o.tag == tag).length := fun l => by
      induction l with
      | nil => rfl
      | cons o l ih => by_cases eq : o.tag = tag <;> simp [eq] <;> omega
    have := split (t.sr.queue.drop 1)
    simp only [List.length_append, List.length_take, List.length_drop] at *
    omega
  · cases t.sr.queue <;> simp

/-- The current readback changed in what the invariants do not look at. -/
theorem keeps_withReadback {f : Readback → Readback} (waiters : ∀ r, (f r).waiters = r.waiters) (h : StoreKeeps s t) :
    StoreKeeps s (withReadback f t) :=
  h.same rfl <| by
    simp only [storeView, endMarks, withReadback, State.setSr_ed, State.setSr_sl, State.setSr_rq, State.setSr_sr,
      State.setSr_sw, State.setSr_cache, State.setSr_cu, State.setSr_ia, Option.map_map, Function.comp_def, waiters]

/-- The current readback replaced by one with the same orders waiting on it. -/
theorem keeps_current {x : SR} {r r' : Readback} (h : StoreKeeps s t) (current : t.sr.current = some r)
    (queue : x.queue = t.sr.queue) (next : x.current = some r') (waiters : r'.waiters = r.waiters) :
    StoreKeeps s (t.setSr x) :=
  h.same rfl <| by
    simp only [storeView, endMarks, State.setSr_ed, State.setSr_sl, State.setSr_rq, State.setSr_sr,
      State.setSr_sw, State.setSr_cache, State.setSr_cu, State.setSr_ia, current, queue, next, Option.map_some, waiters]

theorem keeps_setPhase (p : ReadPhase) (h : StoreKeeps s t) : StoreKeeps s (setPhase p t) :=
  keeps_withReadback (fun _ => rfl) h

theorem keeps_keepTranslation (x : Translation) (h : StoreKeeps s t) : StoreKeeps s (keepTranslation x t) :=
  keeps_withReadback (fun _ => rfl) h

theorem keeps_closeRecord (mark : PieceMark) (counted : Bool) (h : StoreKeeps s t) :
    StoreKeeps s (closeRecord mark counted t) := by
  unfold closeRecord
  split
  · next current =>
    split
    · split <;> exact keeps_current h current rfl rfl rfl
    · exact h
  · exact h

theorem keeps_closeDamaged (h : StoreKeeps s t) : StoreKeeps s (closeDamaged t) := by
  unfold closeDamaged
  split
  · exact (keeps_closeRecord .damaged true h).same rfl rfl
  · exact keeps_closeRecord .damaged true h

theorem keeps_endReadbacksFaulted (h : StoreKeeps s t) : StoreKeeps s (endReadbacksFaulted t) := by
  unfold endReadbacksFaulted
  split
  · exact h
  · exact keeps_endReadback _ _ (keeps_endQueued _ _ (keeps_closeDamaged h))

theorem keeps_endReadbacksLinkDown (h : StoreKeeps s t) : StoreKeeps s (endReadbacksLinkDown t) := by
  unfold endReadbacksLinkDown
  dsimp only
  split
  · exact h.same rfl rfl
  · exact keeps_endReadback _ _ (keeps_endQueued _ _ (h.same rfl rfl))

end

end Sys2Proof.Machine
end

section
/-! The evidence store keeps what the invariants ask: the map cache, the writer, the reader, the long store orders and the port
(chapters 8 and 9). -/

namespace Sys2Proof.Machine

section
variable {s t : State}

/-! ## Blocks changed in what the invariants do not look at -/

theorem keeps_setSr {x : SR} (h : StoreKeeps s t) (queue : x.queue = t.sr.queue) (current : x.current = t.sr.current) :
    StoreKeeps s (t.setSr x) :=
  h.same rfl <| by
    simp only [storeView, endMarks, State.setSr_ed, State.setSr_sl, State.setSr_rq, State.setSr_sr, State.setSr_sw,
      State.setSr_cache, State.setSr_cu, State.setSr_ia, queue, current]

theorem keeps_setIa {x : IA} (h : StoreKeeps s t) (state : x.state = t.ia.state) (stopTag : x.stopTag = t.ia.stopTag) :
    StoreKeeps s (t.setIa x) :=
  h.same rfl <| by
    simp only [storeView, endMarks, State.setIa_ed, State.setIa_sl, State.setIa_rq, State.setIa_sr, State.setIa_sw,
      State.setIa_cache, State.setIa_cu, State.setIa_ia, state, stopTag]

theorem keeps_setSl {x : SL} (h : StoreKeeps s t) (orders : x.orders = t.sl.orders) (replies : x.replies = t.sl.replies)
    (reserved : x.reserved = t.sl.reserved) (storeOrder : x.storeOrder = t.sl.storeOrder) : StoreKeeps s (t.setSl x) :=
  h.same rfl <| by
    simp only [storeView, endMarks, State.setSl_ed, State.setSl_sl, State.setSl_rq, State.setSl_sr, State.setSl_sw,
      State.setSl_cache, State.setSl_cu, State.setSl_ia, orders, replies, reserved, storeOrder]

theorem keeps_setEd {x : ED} (h : StoreKeeps s t) (dip : x.dip = t.ed.dip) (swell : x.swell = t.ed.swell) :
    StoreKeeps s (t.setEd x) :=
  h.same rfl <| by
    simp only [storeView, endMarks, State.setEd_ed, State.setEd_sl, State.setEd_rq, State.setEd_sr, State.setEd_sw,
      State.setEd_cache, State.setEd_cu, State.setEd_ia, dip, swell]

theorem keeps_setRq {x : RQ} (h : StoreKeeps s t) (entries : x.entries = t.rq.entries) : StoreKeeps s (t.setRq x) :=
  h.same rfl <| by
    simp only [storeView, endMarks, State.setRq_ed, State.setRq_sl, State.setRq_rq, State.setRq_sr, State.setRq_sw,
      State.setRq_cache, State.setRq_cu, State.setRq_ia, entries]

/-- The writer changed with the page buffer within its size and the map mode as it was. -/
theorem keeps_setSw {w : SW} (h : StoreKeeps s t) (page : t.sw.buffer.length ≤ 240 → w.buffer.length ≤ 240)
    (mode : w.mode = t.sw.mode) : StoreKeeps s (t.setSw w) :=
  h.trans <| .of_buffers rfl rfl rfl rfl fun b =>
    { b with page := page b.page, direct := fun m => b.direct (mode ▸ m) }

/-- The writer changed with the page buffer as it was. -/
theorem keeps_samePage {w : SW} (h : StoreKeeps s t) (page : w.buffer = t.sw.buffer) (mode : w.mode = t.sw.mode) :
    StoreKeeps s (t.setSw w) :=
  keeps_setSw h (by rw [page]; exact id) mode

/-- The writer changed with the page buffer discarded. -/
theorem keeps_emptyPage {w : SW} (h : StoreKeeps s t) (empty : w.buffer = []) (mode : w.mode = t.sw.mode) :
    StoreKeeps s (t.setSw w) :=
  keeps_setSw h (by simp [empty]) mode

/-! ## Captures and the campaign's figures -/

/-- The Capture Unit changed within the size of the trigger list (R104). -/
theorem keeps_setCu {x : CU} (h : StoreKeeps s t)
    (triggers : (∀ c, t.cu.hand = some c → c.triggers.length ≤ 8) → ∀ c, x.hand = some c → c.triggers.length ≤ 8) :
    StoreKeeps s (t.setCu x) :=
  h.trans <| .of_buffers rfl rfl rfl rfl fun b => { b with triggers := triggers b.triggers }

/-- The capture in hand changed in what the invariants do not look at. -/
theorem keeps_setHand {x : CU} {c c' : Capture} (h : StoreKeeps s t) (hand : t.cu.hand = some c)
    (next : x.hand = some c') (triggers : c'.triggers = c.triggers) : StoreKeeps s (t.setCu x) :=
  keeps_setCu h fun short d hd => by
    rw [next] at hd
    cases hd
    exact triggers ▸ short c hand

theorem keeps_closeCapture (truncated cut : Bool) (h : StoreKeeps s t) : StoreKeeps s (closeCapture truncated cut t) := by
  unfold closeCapture
  split
  · exact h
  · next c hand =>
    dsimp only
    have handed := fun body : RecordBody => keeps_handRecord body
      (keeps_setHand (x := { t.cu with state := .waiting, hand := some { c with truncated := truncated, cut := cut } }) h hand
        rfl rfl)
    generalize handed_eq : handRecord _ _ = r
    have handed := handed_eq ▸ handed _
    split
    · exact handed
    · exact keeps_releaseCapture handed

theorem keeps_stopCapture (h : StoreKeeps s t) : StoreKeeps s (stopCapture t) := by
  unfold stopCapture
  split
  · exact h.same rfl rfl
  · exact h.same rfl rfl
  · exact keeps_closeCapture _ _ h
  · exact h

theorem keeps_collect {hand : Capture} (c : CondSet) (held : t.cu.hand = some hand) (h : StoreKeeps s t) :
    StoreKeeps s (collect c hand t) := by
  unfold collect
  dsimp only
  generalize next : (if c.k % hand.decim = 0 then ({ hand with points := hand.points ++ [pointOf hand.channels c] } : Capture)
    else hand) = hand'
  have taken : StoreKeeps s (t.setCu { t.cu with hand := some hand' }) :=
    keeps_setHand h held rfl (by rw [← next]; split <;> rfl)
  split
  · exact keeps_closeCapture _ _ taken
  · split
    · exact keeps_closeCapture _ _ taken
    · exact taken

theorem keeps_captureTake (c : CondSet) (h : StoreKeeps s t) : StoreKeeps s (captureTake c t) := by
  unfold captureTake
  split
  · exact h.same rfl rfl
  · split
    · next held => exact keeps_collect c held h
    · exact h
  · exact h
  · exact h.same rfl rfl

/-- A trigger joins a list that is not full (R104). -/
theorem length_joined_triggers_le (h : Capture) (cause : TrigCause) (event strobe : Nat) (short : h.triggers.length ≤ 8) :
    (h.joined cause event strobe).2.triggers.length ≤ 8 := by
  simp only [Capture.joined]
  split
  · simp only [List.length_append, List.length_singleton]
    omega
  · exact short

theorem keeps_trigger (cause : TrigCause) (event strobe : Nat) (h : StoreKeeps s t) :
    StoreKeeps s (trigger cause event strobe t).2 := by
  unfold trigger
  split
  · refine keeps_setCu h fun _ c hc => ?_
    cases hc
    simp
  · next hand =>
    refine keeps_setCu h fun short c hc => ?_
    cases hc
    exact length_joined_triggers_le _ cause event strobe (short _ hand)
  · exact h.same rfl rfl

theorem keeps_handTrigger (cause : TrigCause) (event k : Nat) (h : StoreKeeps s t) :
    StoreKeeps s (handTrigger cause event k t).2 := by
  unfold handTrigger
  split
  · exact keeps_trigger cause event k h
  · exact h

theorem keeps_closeInterval (stop : Stamp) (ended early : Bool) (h : StoreKeeps s t) :
    StoreKeeps s (closeInterval stop ended early t) := by
  unfold closeInterval
  split
  · exact h
  · exact keeps_setIa (keeps_setIa (keeps_handRecord _ h) rfl rfl) rfl rfl

/-! ## The map cache (R143) -/

/-- The cache changed within what it may hold (R143). -/
theorem keeps_setCache {c : List Translation} (h : StoreKeeps s t) (short : t.cache.length ≤ 8 → c.length ≤ 8)
    (distinct : (t.cache.map Translation.logical).Nodup → (c.map Translation.logical).Nodup)
    (direct : t.sw.mode = .direct → t.cache = [] → c = []) : StoreKeeps s (t.setCache c) :=
  h.trans <| .of_buffers rfl rfl rfl rfl fun b =>
    { b with cache := short b.cache, distinct := distinct b.distinct, direct := fun m => direct m (b.direct m) }

theorem keeps_clearCache (h : StoreKeeps s t) : StoreKeeps s (t.setCache []) :=
  keeps_setCache h (fun _ => Nat.zero_le _) (fun _ => List.nodup_nil) (fun _ _ => rfl)

theorem keeps_noteEntry (entry : BitVec 32) (h : StoreKeeps s t) : StoreKeeps s (noteEntry entry t) := by
  unfold noteEntry
  split
  · exact keeps_latch _ h
  · exact h

/-- A sector that joins the cache is not there yet (R143). -/
theorem nodup_cachePlace {x : Translation} {cache : List Translation} (distinct : (cache.map Translation.logical).Nodup) :
    ((cachePlace x cache).map Translation.logical).Nodup := by
  unfold cachePlace
  split
  · rw [List.map_map]
    convert distinct using 1
    refine List.map_congr_left fun y _ => ?_
    simp only [Function.comp_apply]
    split
    · next eq => exact eq.symm
    · rfl
  · next absent =>
    have fresh : x.logical ∉ cache.map Translation.logical := by simpa using absent
    rw [List.map_append, List.map_singleton, List.nodup_append_comm]
    have sub : (if 8 ≤ cache.length then cache.drop 1 else cache).Sublist cache := by
      split
      · exact List.drop_sublist 1 cache
      · exact .refl _
    exact List.nodup_cons.mpr ⟨fun mem => fresh ((sub.map _).subset mem), (sub.map _).nodup distinct⟩

theorem keeps_placeEntry (logical : Nat) (entry : BitVec 32) (h : StoreKeeps s t) :
    StoreKeeps s (placeEntry logical entry t) := by
  unfold placeEntry
  split
  · next mapped =>
    refine keeps_setCache h length_cachePlace_le nodup_cachePlace fun direct => ?_
    rw [mapped.1] at direct
    cases direct
  · exact h

theorem keeps_mapEntryRead (logical : Nat) (entry : BitVec 32) (h : StoreKeeps s t) :
    StoreKeeps s (mapEntryRead logical entry t) := keeps_placeEntry _ _ (keeps_noteEntry _ h)

/-- A hit becomes the most recently used, and the cache holds what it held (R143). -/
theorem keeps_translate (inHand : Option Translation) (logical : Nat) (h : StoreKeeps s t) :
    StoreKeeps s (translate inHand logical t).2 := by
  unfold translate
  split
  · exact h
  · split
    · exact h
    · split
      · split
        · next x found =>
          have mem := List.mem_of_find?_eq_some found
          have here : x.logical = logical := by simpa using List.find?_some found
          have fewer : (t.cache.filter fun y => y.logical != logical).length < t.cache.length :=
            List.length_filter_lt_length_iff_exists.mpr ⟨x, mem, by simp [here]⟩
          refine keeps_setCache h (fun short => ?_) (fun distinct => ?_) fun direct => ?_
          · simp only [List.length_append, List.length_singleton]
            omega
          · rw [List.map_append, List.map_singleton, List.nodup_append_comm]
            refine List.nodup_cons.mpr ⟨?_, (List.filter_sublist.map _).nodup distinct⟩
            simp [here]
          · next mapped _ _ _ _ => exact absurd direct mapped
        · exact h
      · exact h

theorem keeps_of_translate {inHand : Option Translation} {logical : Nat} {u : State} {x : Option Translation}
    (eq : translate inHand logical t = (x, u)) (h : StoreKeeps s t) : StoreKeeps s u := by
  have := keeps_translate inHand logical h
  rwa [eq] at this

theorem keeps_retireTranslation (logical : Nat) (h : StoreKeeps s t) : StoreKeeps s (retireTranslation logical t) := by
  unfold retireTranslation
  lift_lets
  intro mark u _ v
  have marked : ∀ c : List Translation, (c.map mark).map Translation.logical = c.map Translation.logical := fun c => by
    rw [List.map_map]
    refine List.map_congr_left fun y _ => ?_
    simp only [mark, Function.comp_apply]
    split <;> rfl
  have hu : StoreKeeps s u := keeps_setCache h (fun short => by rwa [List.length_map]) (fun distinct => by rwa [marked])
    (fun _ empty => by rw [empty]; rfl)
  have hv : StoreKeeps s v := keeps_samePage hu rfl rfl
  exact keeps_withReadback (f := fun r => { r with translation := r.translation.map mark }) (fun _ => rfl) hv

/-! ## The page buffer (R145) -/

/-- An entry moves as many bytes as the page buffer has room for, and stays the entry of its record (R145). -/
theorem appendEntry_keeps (points : List Point) (strobe : Nat) (w : SW) (e : Entry) :
    ((w.buffer.length ≤ 240 → (appendEntry points strobe w e).1.buffer.length ≤ 240) ∧
      (appendEntry points strobe w e).1.mode = w.mode) ∧ (appendEntry points strobe w e).2.record = e.record := by
  unfold appendEntry
  split
  · exact ⟨⟨id, rfl⟩, rfl⟩
  · refine ⟨⟨fun page => ?_, rfl⟩, rfl⟩
    simp only [List.length_append, List.length_take]
    omega

theorem appendEntries_keeps (points : List Point) (strobe : Nat) (w : SW) (l : List Entry) :
    ((w.buffer.length ≤ 240 → (appendEntries points strobe w l).1.buffer.length ≤ 240) ∧
      (appendEntries points strobe w l).1.mode = w.mode) ∧
      (appendEntries points strobe w l).2.map Entry.record = l.map Entry.record := by
  induction l generalizing w with
  | nil => exact ⟨⟨id, rfl⟩, rfl⟩
  | cons e l ih =>
    obtain ⟨⟨page, mode⟩, record⟩ := appendEntry_keeps points strobe w e
    obtain ⟨⟨pages, modes⟩, records⟩ := ih (appendEntry points strobe w e).1
    refine ⟨⟨fun short => pages (page short), modes.trans mode⟩, ?_⟩
    simp only [appendEntries, List.map_cons, record, records]

theorem keeps_writerAppend (h : StoreKeeps s t) : StoreKeeps s (writerAppend t) := by
  unfold writerAppend
  split
  · obtain ⟨⟨page, mode⟩, records⟩ := appendEntries_keeps (capturePoints t) t.lr.strobe t.sw t.rq.entries
    refine (keeps_setSw h page mode).fewer_records ?_
    have marks := congrArg (List.map fun r => r.body.isEnd) records
    simp only [List.map_map, Function.comp_def] at marks
    simp only [marks, endMarks, State.setSw_rq]
    exact .refl _
  · exact h

/-! ## The FAULTED state (R154) -/

theorem keeps_storeFault (cause : FaultCause) (h : StoreKeeps s t) : StoreKeeps s (storeFault cause t) := by
  unfold storeFault
  split
  · exact h
  · exact keeps_endRecordSettled _ <| keeps_setSr (keeps_endReadbacksFaulted <| keeps_markAllStored <|
      keeps_emptyPage (keeps_setSr (keeps_storeOrderFailed h) rfl rfl) rfl rfl) rfl rfl

theorem keeps_enterUnmounted (h : StoreKeeps s t) : StoreKeeps s (enterUnmounted t) :=
  keeps_storeOrderDone _ <| keeps_setSr (keeps_emptyPage (keeps_clearCache h) rfl rfl) rfl rfl

/-! ## The writer (R145 to R153) -/

theorem keeps_restartLocating (h : StoreKeeps s t) : StoreKeeps s (restartLocating t) := by
  unfold restartLocating
  split
  · exact h
  · next current =>
    split
    · exact h
    · exact h
    · exact keeps_orphanRead (keeps_current h current rfl rfl rfl)

theorem keeps_setTail (tail : Option Nat) (h : StoreKeeps s t) : StoreKeeps s (setTail tail t) :=
  keeps_restartLocating (h.same rfl rfl)

theorem keeps_headOn (h : StoreKeeps s t) : StoreKeeps s (headOn t) := by
  unfold headOn
  split
  · exact h
  · exact h.same rfl rfl

theorem keeps_overwriteTail (h : StoreKeeps s t) : StoreKeeps s (overwriteTail t) := by
  unfold overwriteTail
  split
  · exact h
  · exact keeps_setTail _ (h.same rfl rfl)

theorem keeps_enterHead (h : StoreKeeps s t) : StoreKeeps s (enterHead t) := by
  unfold enterHead
  split
  · exact h
  · dsimp only
    split
    · split
      · exact keeps_overwriteTail (h.same rfl rfl)
      · exact h.same rfl rfl
    · exact h.same rfl rfl

theorem keeps_settleHead (h : StoreKeeps s t) : StoreKeeps s (settleHead t) := by
  unfold settleHead
  split
  · exact keeps_enterHead h
  · exact h.same rfl rfl

theorem keeps_clearStop (h : StoreKeeps s t) : StoreKeeps s (clearStop t) := by
  unfold clearStop
  split
  · dsimp only
    split
    · exact keeps_overwriteTail (h.same rfl rfl)
    · exact h.same rfl rfl
  · exact h

theorem keeps_judgeLast (last : Nat) (h : StoreKeeps s t) : StoreKeeps s (judgeLast last t) := by
  unfold judgeLast
  split
  · exact keeps_overwriteTail h
  · exact h.same rfl rfl

theorem keeps_rewriteEntries (sector : Nat) (h : StoreKeeps s t) : StoreKeeps s (rewriteEntries sector t) :=
  StoreKeeps.same_records (f := fun e => if e.heldBy sector then e.setBack else e)
    (keeps_emptyPage (keeps_countLost _ h) rfl rfl) rfl fun e => by split <;> rfl

theorem keeps_sectorRetired (sector : Nat) (programFailed : Bool) (h : StoreKeeps s t) :
    StoreKeeps s (sectorRetired sector programFailed t) := by
  unfold sectorRetired
  lift_lets
  intro retired _ counted tailed rewritten _
  have counted : StoreKeeps s counted :=
    keeps_samePage (keeps_retireTranslation sector (keeps_latch .sectorRetired h)) rfl rfl
  have tail : StoreKeeps s tailed := by
    dsimp only [tailed]
    split
    · exact keeps_setTail _ counted
    · exact counted
  have again : StoreKeeps s rewritten := by
    dsimp only [rewritten]
    split
    · exact keeps_rewriteEntries _ tail
    · exact tail
  clear_value tailed rewritten
  split
  · exact keeps_storeFault _ tail
  · split
    · exact keeps_samePage again rfl rfl
    · exact keeps_headOn again

theorem keeps_programStep (h : StoreKeeps s t) : StoreKeeps s (programStep t) := by
  unfold programStep
  split
  · split
    · exact h
    · split
      · next eq =>
        have h := keeps_of_translate eq h
        split
        · exact h.same rfl rfl
        · exact keeps_headOn h
      · next eq => exact keeps_of_translate eq h
  · exact h

theorem keeps_writerStep (h : StoreKeeps s t) : StoreKeeps s (writerStep t) := by
  unfold writerStep
  split
  · split
    · next eq =>
      have h := keeps_of_translate eq h
      split
      · exact keeps_settleHead (h.same rfl rfl)
      · exact keeps_headOn h
    · next eq => exact keeps_of_translate eq h
  · split
    · next eq =>
      have h := keeps_of_translate eq h
      split
      · exact h.same rfl rfl
      · exact keeps_setTail _ h
    · next eq => exact keeps_of_translate eq h
  · split
    · next eq =>
      have h := keeps_of_translate eq h
      split
      · exact h.same rfl rfl
      · exact keeps_setTail _ (h.same rfl rfl)
    · next eq => exact keeps_of_translate eq h
  · split
    · next eq =>
      have h := keeps_of_translate eq h
      split
      · exact h.same rfl rfl
      · exact keeps_judgeLast _ h
    · next eq => exact keeps_of_translate eq h
  · split
    · next eq =>
      have h := keeps_of_translate eq h
      split
      · exact h.same rfl rfl
      · exact keeps_headOn h
    · next eq => exact keeps_of_translate eq h
  · exact keeps_programStep h

theorem keeps_writerAdvance (h : StoreKeeps s t) : StoreKeeps s (writerAdvance t) := by
  unfold writerAdvance
  split
  · have worked : StoreKeeps s (repeatStep writerStep 24 (writerAppend t)) :=
      .repeated (fun u => keeps_writerStep (.refl u)) (keeps_writerAppend h) 24
    dsimp only
    split
    · exact keeps_storeFault _ worked
    · exact worked
  · exact keeps_writerAppend h

theorem keeps_writerMapRead (logical : Nat) (entry : BitVec 32) (h : StoreKeeps s t) :
    StoreKeeps s (writerMapRead logical entry t) := keeps_samePage (keeps_mapEntryRead logical entry h) rfl rfl

theorem keeps_tailHeaderRead (header : Option PageHeader) (h : StoreKeeps s t) :
    StoreKeeps s (tailHeaderRead header t) := by
  unfold tailHeaderRead
  dsimp only
  split
  · exact keeps_restartLocating (h.same rfl rfl)
  · exact h.same rfl rfl

theorem keeps_writerHeaderRead (bytes : List Byte) (h : StoreKeeps s t) : StoreKeeps s (writerHeaderRead bytes t) := by
  unfold writerHeaderRead
  dsimp only
  split
  · exact keeps_tailHeaderRead _ h
  · exact keeps_judgeLast _ h
  · exact h

theorem Entry.programmedIn_record (points : List Point) (sector : Nat) (e : Entry) :
    (e.programmedIn points sector).record = e.record := by
  unfold Entry.programmedIn
  split <;> rfl

theorem keeps_pageProgrammed (h : StoreKeeps s t) : StoreKeeps s (pageProgrammed t) := by
  unfold pageProgrammed
  split
  · exact h
  · next p head =>
    lift_lets
    intro points finished seqRef _ serial _ swept settled _ streak _ tailed cleared _
    have swept : StoreKeeps s swept := keeps_sweep <| StoreKeeps.same_records (t := serial) (f := Entry.programmedIn points p.sector)
      (keeps_samePage h rfl rfl) rfl (Entry.programmedIn_record points p.sector)
    have settled : StoreKeeps s settled := by
      dsimp only [settled]
      split
      · exact keeps_endRecordSettled _ swept
      · exact swept
    have streak : StoreKeeps s streak := keeps_samePage settled rfl rfl
    have tail : StoreKeeps s tailed := by
      dsimp only [tailed]
      split
      · exact keeps_setTail _ (keeps_samePage streak rfl rfl)
      · exact streak
    have cleared : StoreKeeps s cleared := keeps_emptyPage tail rfl rfl
    split
    · exact keeps_samePage cleared rfl rfl
    · exact keeps_headOn cleared

theorem keeps_pageFailed (h : StoreKeeps s t) : StoreKeeps s (pageFailed t) := by
  unfold pageFailed
  split
  · exact h.same rfl rfl
  · exact keeps_storeFault _ h

theorem keeps_headErasedNow (h : StoreKeeps s t) : StoreKeeps s (headErasedNow t) := h.same rfl rfl

theorem keeps_headEraseFailed (h : StoreKeeps s t) : StoreKeeps s (headEraseFailed t) := by
  unfold headEraseFailed
  split
  · exact h.same rfl rfl
  · exact keeps_storeFault _ h

theorem keeps_retireEnded (ok : Bool) (h : StoreKeeps s t) : StoreKeeps s (retireEnded ok t) := by
  unfold retireEnded
  split
  · split
    · exact keeps_sectorRetired _ _ h
    · exact keeps_storeFault _ h
  · exact h

theorem keeps_unmountWriter (h : StoreKeeps s t) : StoreKeeps s (unmountWriter t) := by
  unfold unmountWriter
  dsimp only
  split
  · exact keeps_emptyPage h rfl rfl
  · exact h.same rfl rfl

theorem keeps_finishUnmount (h : StoreKeeps s t) : StoreKeeps s (finishUnmount t) := by
  unfold finishUnmount
  split
  · exact keeps_enterUnmounted h
  · exact h

end

end Sys2Proof.Machine
end

section
/-! The reader, the long store orders and the store port keep what the invariants ask (chapters 8 and 9). -/

namespace Sys2Proof.Machine

section
variable {s t : State}

/-! ## The reader (R165 to R171) -/

theorem keeps_endServing (h : StoreKeeps s t) : StoreKeeps s (endServing t) := by
  unfold endServing
  split
  · next current => exact keeps_endReadback _ _ (keeps_current h current rfl rfl rfl)
  · exact h

theorem keeps_endGone (h : StoreKeeps s t) : StoreKeeps s (endGone t) := by
  unfold endGone
  split
  · next current => exact keeps_endReadback _ _ (keeps_current h current rfl rfl rfl)
  · exact h

theorem keeps_endBeyond (h : StoreKeeps s t) : StoreKeeps s (endBeyond t) := by
  unfold endBeyond
  split
  · next current => exact keeps_endReadback _ _ (keeps_current h current rfl rfl rfl)
  · exact h

theorem Readback.cut_waiters (o : ReadOrder) (r : Readback) : (r.cut o).waiters = r.waiters := by
  unfold Readback.cut
  split
  · split
    · rfl
    · split <;> rfl
  · rfl

theorem keeps_cutRecord (mark : PieceMark) (counted : Bool) (h : StoreKeeps s t) :
    StoreKeeps s (cutRecord mark counted t) := by
  unfold cutRecord
  split
  · exact keeps_closeRecord _ _ (keeps_withReadback (Readback.cut_waiters _) h)
  · exact h

theorem keeps_cutAtEnd (h : StoreKeeps s t) : StoreKeeps s (cutAtEnd t) := by
  unfold cutAtEnd
  split
  · exact keeps_cutRecord _ _ h
  · exact h

theorem keeps_walkTo (origin target : PagePos) (h : StoreKeeps s t) : StoreKeeps s (walkTo origin target t) := by
  unfold walkTo
  split
  · split
    · exact keeps_endServing (keeps_cutAtEnd h)
    · exact keeps_endGone h
  · exact keeps_setPhase _ h

theorem keeps_moveOn (p : PagePos) (h : StoreKeeps s t) : StoreKeeps s (moveOn p t) := keeps_walkTo _ _ h

theorem keeps_moveOver (p : PagePos) (h : StoreKeeps s t) : StoreKeeps s (moveOver p t) := keeps_walkTo _ _ h

theorem keeps_classify (at_ : PagePos) (last : Nat) (rest : List Byte) (p : RecordProgress) (o : ReadOrder) {r : Readback}
    (h : StoreKeeps s t) (current : t.sr.current = some r) : StoreKeeps s (classify at_ last rest p o r t) := by
  have put : ∀ r' : Readback, r'.waiters = r.waiters →
      StoreKeeps s (t.setSr { t.sr with current := some { r' with phase := .parse at_ last rest } }) :=
    fun r' waiters => keeps_current h current rfl rfl waiters
  unfold classify
  dsimp only
  split
  · exact keeps_moveOn _ (put { r with record := none } rfl)
  · split
    · exact put { r with record := some { p with known := some (_, _, false) } } rfl
    · split
      · exact put { r with record := some { p with known := some (_, _, true) }, wanted := _, outcomes := _ } rfl
      · exact keeps_endBeyond (put { r with record := none } rfl)

theorem keeps_parseStep (at_ : PagePos) (last : Nat) (rest : List Byte) (o : ReadOrder) {r : Readback}
    (h : StoreKeeps s t) (current : t.sr.current = some r) : StoreKeeps s (parseStep at_ last rest o r t) := by
  have put : ∀ r' : Readback, r'.waiters = r.waiters → StoreKeeps s (t.setSr { t.sr with current := some r' }) :=
    fun r' waiters => keeps_current h current rfl rfl waiters
  unfold parseStep
  dsimp only
  split
  · exact keeps_moveOn _ h
  · split
    · exact put _ rfl
    · exact keeps_moveOn _ h
  · split
    · split
      · exact put _ rfl
      · exact keeps_classify _ _ _ _ _ h current
    · exact put _ rfl
    · split
      · exact keeps_closeRecord _ _ (put _ rfl)
      · split
        · exact keeps_current (put _ rfl) rfl rfl rfl rfl
        · exact put _ rfl

theorem keeps_walkPageRead (at_ : PagePos) (bytes : List Byte) (r : Readback) (h : StoreKeeps s t) :
    StoreKeeps s (walkPageRead at_ bytes r t) := by
  unfold walkPageRead
  dsimp only
  split
  · exact keeps_moveOn _ h
  · exact keeps_moveOn _ (keeps_cutRecord _ _ h)
  · exact keeps_setPhase _ h
  · split
    · exact keeps_setPhase _ h
    · exact keeps_setPhase _ (keeps_cutRecord _ _ h)

theorem keeps_settleRange (o : ReadOrder) {r : Readback} (h : StoreKeeps s t) (current : t.sr.current = some r) :
    StoreKeeps s (settleRange o r t) := by
  unfold settleRange
  split
  · exact keeps_endServing h
  · exact keeps_current h current rfl rfl rfl

theorem keeps_lastSectorStep (top distance : Nat) (r : Readback) (h : StoreKeeps s t) :
    StoreKeeps s (lastSectorStep top distance r t) := by
  unfold lastSectorStep
  dsimp only
  split
  · exact keeps_setPhase _ h
  · split
    · exact keeps_setPhase _ h
    · split
      · next eq =>
        have h := keeps_of_translate eq h
        split
        · exact keeps_setPhase _ (keeps_keepTranslation _ h)
        · exact keeps_setPhase _ h
      · next eq => exact keeps_of_translate eq h

theorem keeps_sectorStep (lo hi : Nat) (starts : Option Nat) (probe : Option (Nat × Nat)) (r : Readback)
    (h : StoreKeeps s t) : StoreKeeps s (sectorStep lo hi starts probe r t) := by
  unfold sectorStep
  split
  · exact keeps_setPhase _ h
  · split
    · exact keeps_setPhase _ h
    · split
      · next eq =>
        have h := keeps_of_translate eq h
        split
        · exact keeps_keepTranslation _ h
        · split <;> exact keeps_setPhase _ h
      · next eq => exact keeps_of_translate eq h

theorem keeps_pageStep (sector lo hi : Nat) (starts : Option Nat) (r : Readback) (h : StoreKeeps s t) :
    StoreKeeps s (pageStep sector lo hi starts r t) := by
  unfold pageStep
  dsimp only
  split
  · repeat' split
    all_goals exact keeps_setPhase _ h
  · split
    · next eq =>
      have h := keeps_of_translate eq h
      split
      · exact keeps_keepTranslation _ h
      · exact keeps_setPhase _ h
    · next eq => exact keeps_of_translate eq h

theorem keeps_backStep (distance : Nat) (r : Readback) (h : StoreKeeps s t) : StoreKeeps s (backStep distance r t) := by
  unfold backStep
  split
  · exact keeps_setPhase _ h
  · split
    · next eq =>
      have h := keeps_of_translate eq h
      split
      · exact keeps_keepTranslation _ h
      · exact keeps_setPhase _ h
    · next eq => exact keeps_of_translate eq h

theorem keeps_readerStep (h : StoreKeeps s t) : StoreKeeps s (readerStep t) := by
  unfold readerStep
  split
  · next o rest r queue current =>
    split
    · exact keeps_endReadback _ _ h
    · split
      · exact keeps_endReadback _ _ h
      · split
        · exact keeps_settleRange _ h current
        · exact keeps_lastSectorStep _ _ _ h
        · exact keeps_sectorStep _ _ _ _ _ h
        · exact keeps_pageStep _ _ _ _ _ h
        · exact keeps_backStep _ _ h
        · split
          · next eq =>
            have h := keeps_of_translate eq h
            split
            · exact keeps_keepTranslation _ h
            · exact keeps_moveOver _ h
          · next eq => exact keeps_of_translate eq h
        · split
          · exact h
          · exact keeps_parseStep _ _ _ _ h current
  · exact h

theorem keeps_readerAdvance (h : StoreKeeps s t) : StoreKeeps s (readerAdvance t) := by
  unfold readerAdvance
  split
  · exact h
  · exact .repeated (fun u => keeps_readerStep (.refl u)) h 96

theorem keeps_readerMapRead (logical : Nat) (entry : BitVec 32) (h : StoreKeeps s t) :
    StoreKeeps s (readerMapRead logical entry t) := keeps_keepTranslation _ (keeps_mapEntryRead _ _ h)

theorem keeps_readerPageRead (bytes : List Byte) (h : StoreKeeps s t) : StoreKeeps s (readerPageRead bytes t) := by
  unfold readerPageRead
  split
  · exact h
  · dsimp only
    split
    · repeat' split
      all_goals exact keeps_setPhase _ h
    · repeat' split
      all_goals exact keeps_setPhase _ h
    · split
      · exact keeps_walkPageRead _ _ _ h
      · exact keeps_setPhase _ h
    · exact keeps_walkPageRead _ _ _ h
    · exact h

theorem keeps_cancelCurrent_nil (h : StoreKeeps s t) : StoreKeeps s (cancelCurrent [] t) := by
  have waiting : StoreKeeps s (withReadback (fun r => { r with waiters := r.waiters ++ [] }) t) :=
    keeps_withReadback (fun _ => List.append_nil _) h
  unfold cancelCurrent
  dsimp only
  split
  · exact keeps_withReadback (fun _ => rfl) waiting
  · exact keeps_endReadback _ _ waiting

theorem keeps_cancelAll (h : StoreKeeps s t) : StoreKeeps s (cancelAll t) := by
  unfold cancelAll
  split
  · exact h
  · exact keeps_cancelCurrent_nil (keeps_endQueued _ _ h)

end

end Sys2Proof.Machine
end

section
/-! The long store orders and the store port keep what the invariants ask (chapter 9). -/

namespace Sys2Proof.Machine

section
variable {s t : State}

/-! ## The long store orders (R155 to R164) -/

theorem keeps_mountComplete (j : MountJob) (r : MountResult) (h : StoreKeeps s t) : StoreKeeps s (mountComplete j r t) := by
  have done := fun body => keeps_storeOrderDone body <|
    keeps_setSr (keeps_emptyPage (w := { (takeSequence r.found t).sw.clearBuffer with
        head := some r.head, headErased := r.erased, tail := r.tail, tailSeq := r.tailSeq, serial := r.serial,
        watermark := r.watermark, streak := 0, headDepartures := 0, stopMark := none, tasks := [] })
      (keeps_takeSequence r.found h) rfl rfl) (x := { (takeSequence r.found t).sr with
        state := .mounted, job := .none, jobTranslation := none }) rfl rfl
  unfold mountComplete
  dsimp only
  split
  · exact done _
  · exact keeps_enterHead (done _)

theorem keeps_mountEnd (j : MountJob) (emptyStop : Bool) (h : StoreKeeps s t) : StoreKeeps s (mountEnd j emptyStop t) := by
  unfold mountEnd
  split
  · exact keeps_storeFault _ h
  · exact keeps_mountComplete _ _ h

theorem keeps_setMount (j : MountJob) (h : StoreKeeps s t) : StoreKeeps s (setMount j t) := keeps_setSr h rfl rfl

theorem keeps_mountClassified (j : MountJob) (h : StoreKeeps s t) : StoreKeeps s (mountClassified j t) := by
  unfold mountClassified
  split
  · exact keeps_storeFault _ h
  · split
    · exact keeps_mountEnd _ _ h
    · exact keeps_setMount _ h

theorem keeps_mountWalkRead (j : MountJob) (bytes : List Byte) (h : StoreKeeps s t) :
    StoreKeeps s (mountWalkRead j bytes t) := by
  unfold mountWalkRead
  split
  · exact keeps_mountEnd _ _ h
  · split
    · exact keeps_mountEnd _ _ h
    · dsimp only
      split
      · exact keeps_mountEnd _ _ h
      · exact keeps_setMount _ h

theorem keeps_mountPageRead (bytes : List Byte) (h : StoreKeeps s t) : StoreKeeps s (mountPageRead bytes t) := by
  unfold mountPageRead
  split
  · split
    · exact keeps_mountWalkRead _ _ h
    · exact keeps_setMount _ h
  · exact h

theorem keeps_formatComplete (first : Nat) (h : StoreKeeps s t) : StoreKeeps s (formatComplete first t) := by
  have numbered : StoreKeeps s ((discardEntries t).setRq { (discardEntries t).rq with next := .number 0 }) :=
    keeps_setRq (keeps_discardEntries h) rfl
  exact keeps_storeOrderDone _ (keeps_setSr (keeps_emptyPage numbered rfl rfl) rfl rfl)

theorem keeps_formatErased (sector : Nat) (first : Option Nat) (ok : Bool) (h : StoreKeeps s t) :
    StoreKeeps s (formatErased sector first ok t) := by
  unfold formatErased
  split
  · exact keeps_setSr h rfl rfl
  · split
    · exact keeps_setSr h rfl rfl
    · exact keeps_storeFault _ h

theorem keeps_formatRetired (sector : Nat) (first : Option Nat) (ok : Bool) (h : StoreKeeps s t) :
    StoreKeeps s (formatRetired sector first ok t) := by
  unfold formatRetired
  split
  · exact keeps_setSr (keeps_samePage (keeps_retireTranslation sector (keeps_latch .sectorRetired h)) rfl rfl) rfl rfl
  · exact keeps_storeFault _ h

theorem keeps_mapErased (start : Nat) (left : List Nat) (ok : Bool) (h : StoreKeeps s t) :
    StoreKeeps s (mapErased start left ok t) := by
  unfold mapErased
  split
  · exact keeps_setSr (keeps_samePage h rfl rfl) rfl rfl
  · exact keeps_storeFault _ h

theorem keeps_mapLoaded (start : Nat) (left : List Nat) (done : Nat) (ok : Bool) (h : StoreKeeps s t) :
    StoreKeeps s (mapLoaded start left done ok t) := by
  unfold mapLoaded
  split
  · exact keeps_setSr (keeps_samePage h rfl rfl) rfl rfl
  · exact keeps_storeFault _ h

theorem keeps_jobTranslate (sector : Nat) (first : Bool) (h : StoreKeeps s t) :
    StoreKeeps s (jobTranslate sector first t).2 := by
  unfold jobTranslate
  split
  · next eq =>
    have h := keeps_of_translate eq h
    split
    · exact h
    · dsimp only
      split
      · exact keeps_samePage (keeps_setSr h rfl rfl) rfl rfl
      · exact keeps_setSr h rfl rfl
  · next eq => exact keeps_of_translate eq h

theorem keeps_of_jobTranslate {sector : Nat} {first : Bool} {u : State} {x : Option Translation}
    (eq : jobTranslate sector first t = (x, u)) (h : StoreKeeps s t) : StoreKeeps s u := by
  have := keeps_jobTranslate sector first h
  rwa [eq] at this

theorem keeps_jobStep (h : StoreKeeps s t) : StoreKeeps s (jobStep t) := by
  unfold jobStep
  split
  · exact h
  · split
    · split
      · next eq =>
        have h := keeps_of_jobTranslate eq h
        split
        · exact h
        · exact keeps_mountEnd _ _ h
      · next eq => exact keeps_of_jobTranslate eq h
    · split
      · exact keeps_mountClassified _ h
      · split
        · next eq =>
          have h := keeps_of_jobTranslate eq h
          split
          · exact h
          · exact keeps_setMount _ h
        · next eq => exact keeps_of_jobTranslate eq h
  · split
    · exact h
    · split
      · split
        · split
          · exact keeps_storeFault _ h
          · exact keeps_formatComplete _ h
        · exact keeps_storeFault _ h
      · split
        · next eq =>
          have h := keeps_of_jobTranslate eq h
          split
          · exact h
          · exact keeps_setSr h rfl rfl
        · next eq => exact keeps_of_jobTranslate eq h
  · split
    · exact keeps_storeOrderDone _ (keeps_setSr h rfl rfl)
    · exact h

theorem keeps_jobAdvance (h : StoreKeeps s t) : StoreKeeps s (jobAdvance t) := by
  unfold jobAdvance
  split
  · exact .repeated (fun u => keeps_jobStep (.refl u)) h 16
  · exact h

theorem keeps_jobMapRead (logical : Nat) (entry : BitVec 32) (h : StoreKeeps s t) :
    StoreKeeps s (jobMapRead logical entry t) := by
  have read := keeps_mapEntryRead logical entry h
  unfold jobMapRead
  dsimp only
  generalize mapEntryRead logical entry t = u at read ⊢
  have placed : StoreKeeps s (u.setSr { u.sr with jobTranslation := some (entryTranslation u logical entry) }) :=
    keeps_setSr read rfl rfl
  split <;> split
  · exact keeps_samePage placed rfl rfl
  · exact placed
  · exact keeps_samePage placed rfl rfl
  · exact placed

/-! ## The port (R173 to R175) -/

theorem keeps_startOp (requester : Option Requester) (op : PortOp) (h : StoreKeeps s t) :
    StoreKeeps s (startOp requester op t) := keeps_setSr h rfl rfl

theorem keeps_grantTo (r : Requester) (h : StoreKeeps s t) : StoreKeeps s (grantTo r t) := keeps_setSr h rfl rfl

theorem keeps_grantWriter (op : PortOp) (h : StoreKeeps s t) : StoreKeeps s (grantWriter op t) :=
  keeps_startOp _ _ (keeps_grantTo _ h)

theorem keeps_grantReader (op : PortOp) (h : StoreKeeps s t) : StoreKeeps s (grantReader op t) := by
  unfold grantReader
  split
  · exact keeps_startOp _ _ (keeps_grantTo _ h)
  · exact keeps_readerAdvance (keeps_endGone h)

theorem keeps_portFree (h : StoreKeeps s t) : StoreKeeps s (portFree t) := keeps_setSr h rfl rfl

theorem keeps_chooseWaiting (h : StoreKeeps s t) : StoreKeeps s (chooseWaiting t).2 := by
  unfold chooseWaiting
  split
  · exact h
  · exact keeps_draw h

theorem keeps_grantStep (h : StoreKeeps s t) : StoreKeeps s (grantStep t) := by
  have chosen : ∀ {r : Requester} {u : State}, chooseWaiting t = (r, u) → StoreKeeps s u := fun eq => by
    have := keeps_chooseWaiting h
    rwa [eq] at this
  unfold grantStep
  split
  · exact h
  · split
    · exact keeps_startOp _ _ (keeps_portFree h)
    · exact keeps_portFree h
    · exact keeps_grantWriter _ h
    · exact keeps_grantReader _ h
    · split
      · next eq => exact keeps_grantWriter _ (chosen eq)
      · next eq => exact keeps_grantReader _ (chosen eq)

theorem keeps_storePass (h : StoreKeeps s t) : StoreKeeps s (storePass t) :=
  .repeated (fun u => keeps_grantStep (.refl u))
    (keeps_finishUnmount (keeps_readerAdvance (keeps_writerAdvance (keeps_jobAdvance h)))) 6

theorem keeps_storeSettle (h : StoreKeeps s t) : StoreKeeps s (storeSettle t) :=
  .repeated (fun u => keeps_storePass (.refl u)) h 2

/-! ## The ends of operations -/

theorem keeps_endOp (h : StoreKeeps s t) : StoreKeeps s (endOp t) := keeps_setSr h rfl rfl

theorem keeps_awaited {f : InFlight} {act : State → State} (acts : ∀ u, StoreKeeps u (act u)) (h : StoreKeeps s t) :
    StoreKeeps s (awaited f act t) := by
  unfold awaited
  split
  · exact keeps_endOp h
  · exact (keeps_endOp h).trans (acts _)

theorem keeps_endProgramDone (h : StoreKeeps s t) : StoreKeeps s (endProgramDone t) := by
  unfold endProgramDone
  split
  · split
    · exact keeps_awaited (fun u => keeps_pageProgrammed (.refl u)) h
    · exact h
  · exact h

theorem keeps_endProgramFailed (h : StoreKeeps s t) : StoreKeeps s (endProgramFailed t) := by
  unfold endProgramFailed
  split
  · split
    · exact keeps_awaited (fun u => keeps_pageFailed (.refl u)) h
    · exact h
  · exact h

theorem keeps_endMapProgram (ok : Bool) (h : StoreKeeps s t) : StoreKeeps s (endMapProgram ok t) := by
  unfold endMapProgram
  split
  · split
    · exact keeps_awaited (fun u => keeps_retireEnded _ (.refl u)) h
    · exact keeps_awaited (fun u => keeps_formatRetired _ _ _ (.refl u)) h
    · exact keeps_awaited (fun u => keeps_mapLoaded _ _ _ _ (.refl u)) h
    · exact keeps_endOp h
    · exact keeps_endOp h
    · exact h
  · exact h

theorem keeps_endErase (ok : Bool) (h : StoreKeeps s t) : StoreKeeps s (endErase ok t) := by
  unfold endErase
  split
  · split
    · refine keeps_awaited (fun u => ?_) h
      split
      · exact keeps_headErasedNow (.refl u)
      · exact keeps_headEraseFailed (.refl u)
    · exact keeps_awaited (fun u => keeps_formatErased _ _ _ (.refl u)) h
    · exact keeps_awaited (fun u => keeps_mapErased _ _ _ (.refl u)) h
    · exact keeps_endOp h
    · exact keeps_endOp h
    · exact h
  · exact h

theorem keeps_endHeaderRead (header : BitVec 128) (h : StoreKeeps s t) : StoreKeeps s (endHeaderRead header t) := by
  unfold endHeaderRead
  split
  · split
    · exact keeps_awaited (fun u => keeps_writerHeaderRead _ (.refl u)) h
    · exact h
  · exact h

theorem keeps_strayMapRead (logical : Nat) (entry : BitVec 32) (h : StoreKeeps s t) :
    StoreKeeps s (strayMapRead logical entry t) := by
  unfold strayMapRead
  split
  · exact keeps_noteEntry _ h
  · exact keeps_mapEntryRead _ _ h

theorem keeps_endMapRead (entry : BitVec 32) (h : StoreKeeps s t) : StoreKeeps s (endMapRead entry t) := by
  unfold endMapRead
  split
  · split
    · split
      · exact keeps_strayMapRead _ _ (keeps_endOp h)
      · split
        · exact keeps_writerMapRead _ _ (keeps_endOp h)
        · exact keeps_readerMapRead _ _ (keeps_endOp h)
        · exact keeps_jobMapRead _ _ (keeps_endOp h)
    · exact h
  · exact h

theorem keeps_endMountRead (page : BitVec 2048) (h : StoreKeeps s t) : StoreKeeps s (endMountRead page t) := by
  unfold endMountRead
  split
  · split
    · exact keeps_awaited (fun u => keeps_mountPageRead _ (.refl u)) h
    · exact h
  · exact h

theorem keeps_endPageRead (page : BitVec 2048) (h : StoreKeeps s t) : StoreKeeps s (endPageRead page t) := by
  unfold endPageRead
  split
  · split
    · exact keeps_awaited (fun u => keeps_readerPageRead _ (.refl u)) h
    · exact keeps_awaited (fun u => keeps_readerPageRead _ (.refl u)) h
    · exact h
  · exact h

theorem keeps_endTimeout (h : StoreKeeps s t) : StoreKeeps s (endTimeout t) := by
  unfold endTimeout
  split
  · exact keeps_storeFault _ (keeps_portFree (keeps_endOp h))
  · exact h

/-! ## The transmitter, but for the sample buffer (R188 to R190) -/

theorem keeps_liveTake (h : StoreKeeps s t) : StoreKeeps s (liveTake t) := keeps_setSl h rfl rfl rfl rfl

theorem keeps_beginFrame (kind : TxKind) (frameKind : Nat) (payload : List Byte) (h : StoreKeeps s t) :
    StoreKeeps s (beginFrame kind frameKind payload t) := keeps_setSl h rfl rfl rfl rfl

/-- A reply that leaves the queue leaves a place free (R188). -/
theorem keeps_fewerReplies {l : List Reply} (h : StoreKeeps s t) (fewer : l.length ≤ t.sl.replies.length) :
    StoreKeeps s (t.setSl { t.sl with replies := l }) := by
  refine h.trans ⟨rfl, rfl, rfl, id, fun b => ⟨b.1, b.2, b.3, b.4, b.5, b.6, b.7, b.8, b.9, b.10⟩, fun n d r => ?_⟩
  refine ⟨?_, r.reserved, ⟨r.shape.1, r.shape.2, r.shape.3, r.shape.4, r.shape.5, r.shape.6, r.shape.7⟩⟩
  have := r.places
  simp only [State.setSl_sl]
  omega

theorem keeps_sendReply (h : StoreKeeps s t) : StoreKeeps s (sendReply t) := by
  unfold sendReply
  split
  · exact h
  · next replies => exact keeps_beginFrame _ _ _ (keeps_fewerReplies h (by rw [replies]; exact Nat.le_succ _))

theorem keeps_sendLive (h : StoreKeeps s t) : StoreKeeps s (sendLive t) := by
  unfold sendLive
  split
  · exact h
  · split
    · exact h
    · exact keeps_beginFrame _ _ _ (keeps_setSl h rfl rfl rfl rfl)

theorem keeps_sendPiece (h : StoreKeeps s t) : StoreKeeps s (sendPiece t) := by
  unfold sendPiece
  split
  · exact h
  · exact keeps_beginFrame _ _ _ (keeps_setSr h rfl rfl)

theorem keeps_liveSent (sequence : Nat) (last : Bool) (h : StoreKeeps s t) : StoreKeeps s (liveSent sequence last t) := by
  unfold liveSent
  split
  · split
    · split
      · exact keeps_markEmitted _ (keeps_setSl h rfl rfl rfl rfl)
      · exact keeps_setSl h rfl rfl rfl rfl
    · exact h
  · exact h

end

end Sys2Proof.Machine
end

section
/-! What every operation keeps, the module bus included, with the reply places that it takes. -/

namespace Sys2Proof.Machine

/-! ## Operations that may take reply places -/

/-- An operation that takes at most `n` reply places keeps every invariant that held. -/
structure Keeps (n : Nat) (s t : State) : Prop where
  fetch : FetchWf s → FetchWf t
  readback : ReadbackWf s → ReadbackWf t
  events : EventsWf s → EventsWf t
  buffers : BuffersWf s → BuffersWf t
  replies : ∀ m d, Room (m + n) d s → Room m d t

/-- What the invariants look at. -/
def watchView (s : State) := (s.mb, s.cc.buffer, storeView s)

namespace Keeps

variable {n k : Nat} {s t u : State}

theorem refl (s : State) : Keeps 0 s s := ⟨id, id, id, id, fun _ _ => id⟩

theorem trans (h : Keeps n s t) (g : Keeps k t u) : Keeps (n + k) s u :=
  ⟨fun x => g.fetch (h.fetch x), fun x => g.readback (h.readback x), fun x => g.events (h.events x),
    fun x => g.buffers (h.buffers x), fun m d r => g.replies m d (h.replies (m + k) d (r.mono (by omega)))⟩

/-- A further operation that takes no reply place. -/
theorem andThen (h : Keeps n s t) (g : Keeps 0 t u) : Keeps n s u := h.trans g

theorem mono (h : Keeps n s t) (le : n ≤ k) : Keeps k s t :=
  ⟨h.fetch, h.readback, h.events, h.buffers, fun m d r => h.replies m d (r.mono (by omega))⟩

theorem of_store (h : StoreKeeps s t) : Keeps 0 s t := by
  have f := h.frame
  simp only [frameView, Prod.mk.injEq] at f
  obtain ⟨-, -, -, -, -, -, mb, -⟩ := f
  exact ⟨by simp only [FetchWf, mb]; exact id, h.readback, by simp only [EventsWf, h.dip, h.swell]; exact id, h.buffers,
    h.replies⟩

/-- A further operation of the store or of the records. -/
theorem store (h : Keeps n s t) (g : StoreKeeps t u) : Keeps n s u := h.andThen (.of_store g)

/-- A change of the sample buffer within its size, the records and the store as they were. -/
theorem of_samples (bus : t.mb = s.mb) (view : storeView t = storeView s)
    (samples : s.cc.buffer.length ≤ 32 → t.cc.buffer.length ≤ 32) : Keeps 0 s t := by
  -- the rest is what a store operation keeps, seen from the state with the measurement blocks put back
  have same := StoreKeeps.of_same (s := s)
    (t := ((((((((t.setLr s.lr).setMm s.mm).setCc s.cc).setCt s.ct).setMu s.mu).setTb s.tb).setMb s.mb).setPending s.pending))
    rfl view
  have keeps := of_store same
  refine ⟨?_, keeps.readback, keeps.events, fun b => ?_, fun m d r => ?_⟩
  · simp only [FetchWf, bus]
    exact id
  · have b' := keeps.buffers b
    exact { b' with samples := samples b.samples }
  · exact Room.congr (by simp only [roomView, bus]; rfl) (keeps.replies m d r)

/-- An operation that leaves all that the invariants look at keeps them. -/
theorem of_same (h : watchView t = watchView s) : Keeps 0 s t := by
  simp only [watchView, Prod.mk.injEq] at h
  exact of_samples h.1 h.2.2 (by rw [h.2.1]; exact id)

/-- A further change that leaves all that the invariants look at. -/
theorem same (h : Keeps n s t) (v : watchView u = watchView t) : Keeps n s u := h.andThen (of_same v)

/-- A fold of steps that keep keeps. -/
theorem foldl {α : Type} {f : State → α → State} (step : ∀ t a, Keeps 0 t (f t a)) (h : Keeps n s t) (l : List α) :
    Keeps n s (l.foldl f t) := by
  induction l generalizing t with
  | nil => exact h
  | cons a l ih => exact ih (h.andThen (step t a))

/-- An operation after which so many orders wait no more, and that gives each its final reply. -/
theorem of_finals {m : State} (final : Finals k m t) (fetch : FetchWf s → FetchWf m) (readback : ReadbackWf s → ReadbackWf m)
    (events : EventsWf s → EventsWf m) (buffers : BuffersWf s → BuffersWf m)
    (places : m.sl.replies.length ≤ s.sl.replies.length ∧ m.sl.reserved = s.sl.reserved)
    (shape : Shape s → Shape m ∧ awaiting s = awaiting m + k) : Keeps 0 s t := by
  have room : ∀ n d, Room n d s → Room n d t := fun n d r => by
    obtain ⟨shape, count⟩ := shape r.shape
    exact final.room shape (by have := r.places; omega) (by have := r.reserved; omega)
  obtain ⟨l, rfl, -⟩ := final
  exact ⟨fetch, readback, events,
    fun b => let b := buffers b; ⟨b.1, b.2, b.3, b.4, b.5, b.6, b.7, b.8, b.9, b.10⟩, room⟩

end Keeps

/-! ## Replies of orders carried out in their dispatch event -/

section
variable {n : Nat} {s t : State}

theorem keeps_formReply (r : Reply) (h : Keeps n s t) : Keeps (n + 1) s (formReply r t) := by
  obtain ⟨l, eq, hl⟩ := formReply_spec r t
  have short : l.length ≤ t.sl.replies.length + 1 := by rcases hl with rfl | rfl <;> simp
  rw [eq]
  refine h.trans ⟨id, id, id, fun b => ⟨b.1, b.2, b.3, b.4, b.5, b.6, b.7, b.8, b.9, b.10⟩, fun m d r => ?_⟩
  refine ⟨?_, r.reserved, ⟨r.shape.1, r.shape.2, r.shape.3, r.shape.4, r.shape.5, r.shape.6, r.shape.7⟩⟩
  have := r.places
  simp only [State.setSl_sl]
  omega

theorem keeps_answerOk (tag : Byte) (kind : Nat) (body : List Byte) (h : Keeps n s t) :
    Keeps (n + 1) s (answerOk tag kind body t) := keeps_formReply _ h

theorem keeps_refuse (tag : Byte) (kind : Nat) (reason : Reason) (h : Keeps n s t) :
    Keeps (n + 1) s (refuse tag kind reason t) := keeps_formReply _ h

/-- An order accepted takes a place for its reply and one for the final reply, which no order waits for yet. -/
theorem room_accept {m d : Nat} (tag : Byte) (kind : Nat) (r : Room (m + 2) d s) : Room m (d + 1) (accept tag kind s) := by
  rw [accept_eq]
  refine ⟨?_, ?_, ⟨r.shape.1, r.shape.2, r.shape.3, r.shape.4, r.shape.5, r.shape.6, r.shape.7⟩⟩
  · have := r.places
    simp only [acceptedLink, State.setSl_sl]
    split
    · rw [List.length_append, List.length_singleton]
      omega
    · omega
  · change s.sl.reserved + 1 = awaiting s + (d + 1)
    have := r.reserved
    omega

/-- What an acceptance leaves for the invariants but that of the replies. -/
theorem buffersWf_accept (tag : Byte) (kind : Nat) (b : BuffersWf s) : BuffersWf (accept tag kind s) := by
  rw [accept_eq]
  exact ⟨b.1, b.2, b.3, b.4, b.5, b.6, b.7, b.8, b.9, b.10⟩

/-- An order accepted and then carried out, with its own final reply still to come. -/
theorem Keeps.of_accept {u : State} (tag : Byte) (kind : Nat)
    (others : FetchWf s → FetchWf u) (readback : ReadbackWf s → ReadbackWf u) (events : EventsWf s → EventsWf u)
    (buffers : BuffersWf (accept tag kind s) → BuffersWf u)
    (replies : ∀ m d, Room m (d + 1) (accept tag kind s) → Room m d u) : Keeps 2 s u :=
  ⟨others, readback, events, fun b => buffers (buffersWf_accept tag kind b),
    fun m d r => replies m d (room_accept tag kind r)⟩

end

end Sys2Proof.Machine
end

section
/-! The module bus keeps what the invariants ask (chapter 10): one entry per module in the fetch queue, and one reply place for
each tag on it, each station transaction and each abort. -/

namespace Sys2Proof.Machine

/-! ## What the bus owes -/

/-- What the reservation of reply places rests on in the bus (R176, R178, R183). -/
structure BusShape (b : MB) : Prop where
  fetches : (b.queue.map FetchEntry.module).Nodup
  busy : b.transaction.isSome = true ↔ b.state = .busy
  cut : b.cut = true → b.transaction.isSome = true
  recovering : b.abortTag.isSome = true ↔ b.state = .recovering
  held : b.heldAbort.isSome = true → b.state = .busy

/-- The number of orders of the bus that wait for their final reply (R187). -/
def busOwed (b : MB) : Nat :=
  (b.queue.filterMap FetchEntry.tag).length + (b.transaction.toList.filter Transaction.isStation).length +
    b.abortTag.toList.length + b.heldAbort.toList.length

theorem Shape.bus {s : State} (h : Shape s) : BusShape s.mb := ⟨h.fetches, h.busy, h.cut, h.recovering, h.held⟩

theorem Shape.setMb {s : State} {b : MB} (h : Shape s) (bus : BusShape b) : Shape (s.setMb b) :=
  ⟨h.stop, bus.fetches, bus.busy, bus.cut, bus.recovering, bus.held, h.readbacks⟩

theorem awaiting_setMb (s : State) (b : MB) : awaiting (s.setMb b) + busOwed s.mb = awaiting s + busOwed b := by
  simp only [awaiting, busOwed, State.setMb_ia, State.setMb_sl, State.setMb_sr, State.setMb_mb]
  omega

/-- A change of the bus, with so many orders more or fewer that wait for their final reply. -/
theorem Room.setMb {n d e : Nat} {s : State} {b : MB} (h : Room n d s) (bus : BusShape b)
    (owed : busOwed b + e = busOwed s.mb + d) : Room n e (s.setMb b) := by
  refine ⟨h.places, ?_, h.shape.setMb bus⟩
  have := h.reserved
  have := awaiting_setMb s b
  simp only [State.setMb_sl]
  omega

section
variable {n : Nat} {s t : State}

/-- A change of the bus that owes as many replies as before. -/
theorem keeps_setMb {b : MB} (h : Keeps n s t) (fetch : FetchWf t → (b.queue.map FetchEntry.module).Nodup)
    (bus : BusShape t.mb → BusShape b ∧ busOwed b = busOwed t.mb) : Keeps n s (t.setMb b) :=
  h.andThen ⟨fetch, id, id, fun b => ⟨b.1, b.2, b.3, b.4, b.5, b.6, b.7, b.8, b.9, b.10⟩, fun _ _ r =>
    r.setMb (bus r.shape.bus).1 (by rw [(bus r.shape.bus).2])⟩

/-! ## The fetch queue (R178) -/

/-- The entry of a module and the others. -/
theorem perm_entry {q : List FetchEntry} {m : Fin 4} {e : FetchEntry} (distinct : (q.map FetchEntry.module).Nodup)
    (found : q.find? (fun e => e.module == m) = some e) : q.Perm (e :: q.filter fun e => e.module != m) := by
  induction q with
  | nil => cases found
  | cons a q ih =>
    rw [List.map_cons, List.nodup_cons] at distinct
    obtain ⟨fresh, distinct⟩ := distinct
    by_cases here : a.module = m
    · rw [List.find?_cons_of_pos (by simpa using here)] at found
      cases found
      have all : (q.filter fun e => e.module != m) = q :=
        List.filter_eq_self.mpr fun x hx => by
          simp only [bne_iff_ne, ne_eq]
          intro eq
          exact fresh (List.mem_map.mpr ⟨x, hx, eq.trans here.symm⟩)
      rw [List.filter_cons_of_neg (by simpa using here), all]
    · rw [List.find?_cons_of_neg (by simpa using here)] at found
      rw [List.filter_cons_of_pos (by simpa using here)]
      exact ((ih distinct found).cons a).trans (.swap e a _)

/-- A module without an entry leaves the queue as it is. -/
theorem filter_of_no_entry {q : List FetchEntry} {m : Fin 4} (none : q.find? (fun e => e.module == m) = none) :
    (q.filter fun e => e.module != m) = q :=
  List.filter_eq_self.mpr fun x hx => by simpa using List.find?_eq_none.mp none x hx

/-- The tags on a queue are those of the others and that of the module's entry. -/
theorem length_tags {q : List FetchEntry} (m : Fin 4) (distinct : (q.map FetchEntry.module).Nodup) :
    (q.filterMap FetchEntry.tag).length =
      ((q.filter fun e => e.module != m).filterMap FetchEntry.tag).length +
        ((q.find? fun e => e.module == m).bind FetchEntry.tag).toList.length := by
  cases found : q.find? (fun e => e.module == m) with
  | none => simp [filter_of_no_entry found]
  | some e =>
    rw [((perm_entry distinct found).filterMap _).length_eq, Option.bind_some]
    cases tag : e.tag <;> simp [tag]

/-- A change of the entry of a module leaves the modules of the queue. -/
theorem map_module_entry {m : Fin 4} {f : FetchEntry → FetchEntry} (keep : ∀ e, (f e).module = e.module) (q : List FetchEntry) :
    (q.map fun e => if e.module = m then f e else e).map FetchEntry.module = q.map FetchEntry.module := by
  rw [List.map_map]
  refine List.map_congr_left fun e _ => ?_
  simp only [Function.comp_apply]
  split
  · exact keep e
  · rfl

/-- A change of the entry of a module, seen in the queue. -/
theorem find_entry_map {m : Fin 4} {f : FetchEntry → FetchEntry} (keep : ∀ e, (f e).module = e.module) (q : List FetchEntry) :
    (q.map fun e => if e.module = m then f e else e).find? (fun e => e.module == m) =
        (q.find? fun e => e.module == m).map f ∧
      ((q.map fun e => if e.module = m then f e else e).filter fun e => e.module != m) =
        q.filter fun e => e.module != m := by
  induction q with
  | nil => exact ⟨rfl, rfl⟩
  | cons a q ih =>
    by_cases here : a.module = m <;> simp [here, keep, ih]

theorem map_module_joinQueue (m : Fin 4) (forced : Bool) (q : List FetchEntry) :
    (joinQueue m forced q).map FetchEntry.module =
      if q.any fun e => e.module == m then q.map FetchEntry.module else q.map FetchEntry.module ++ [m] := by
  unfold joinQueue
  split
  · exact map_module_entry (f := fun e => { e with forced := e.forced || forced }) (fun _ => rfl) q
  · simp

theorem nodup_joinQueue {m : Fin 4} {forced : Bool} {q : List FetchEntry} (distinct : (q.map FetchEntry.module).Nodup) :
    ((joinQueue m forced q).map FetchEntry.module).Nodup := by
  rw [map_module_joinQueue]
  split
  · exact distinct
  · next absent =>
    rw [List.nodup_append_comm]
    refine List.nodup_cons.mpr ⟨fun mem => absent ?_, distinct⟩
    obtain ⟨e, he, eq⟩ := List.mem_map.mp mem
    exact List.any_eq_true.mpr ⟨e, he, by simpa using eq⟩

theorem tags_joinQueue (m : Fin 4) (forced : Bool) (q : List FetchEntry) :
    (joinQueue m forced q).filterMap FetchEntry.tag = q.filterMap FetchEntry.tag := by
  unfold joinQueue
  split
  · rw [List.filterMap_map]
    refine List.filterMap_congr fun e _ => ?_
    simp only [Function.comp_apply]
    split <;> rfl
  · simp

theorem keeps_requestFetch (m : Fin 4) (forced : Bool) (h : Keeps n s t) : Keeps n s (requestFetch m forced t) :=
  keeps_setMb h nodup_joinQueue fun b =>
    ⟨⟨nodup_joinQueue b.1, b.2, b.3, b.4, b.5⟩, by simp only [busOwed, tags_joinQueue]⟩

/-- The entry of a module leaves the queue, its tag with it. -/
theorem busShape_dropEntry {b : MB} (m : Fin 4) (h : BusShape b) :
    BusShape { b with queue := b.queue.filter fun e => e.module != m } ∧
      busOwed b = busOwed { b with queue := b.queue.filter fun e => e.module != m } +
        ((b.queue.find? fun e => e.module == m).bind FetchEntry.tag).toList.length := by
  refine ⟨⟨(List.filter_sublist.map _).nodup h.1, h.2, h.3, h.4, h.5⟩, ?_⟩
  simp only [busOwed, length_tags m h.1]
  omega

/-! ## The end of a transaction (R177, R182, R183) -/

/-- The bus after the end of a transaction. -/
def MB.ended (b : MB) (state : BusState) (owner : BusOwner) : MB :=
  match b.heldAbort with
  | some tag =>
    { b with state := .recovering, transaction := none, cut := false, owner := owner, abortTag := some tag, heldAbort := none }
  | none => { b with state := state, transaction := none, cut := false, owner := owner }

theorem endTransaction_eq (state : BusState) (s : State) :
    endTransaction state s = s.setMb (s.mb.ended state s.sl.settings.modbusOwner) := by
  unfold endTransaction afterTransaction MB.ended
  cases held : s.mb.heldAbort <;> simp [State.updMb, held] <;> rfl

theorem MB.ended_queue (b : MB) (state : BusState) (owner : BusOwner) : (b.ended state owner).queue = b.queue := by
  unfold MB.ended
  split <;> rfl

/-- A transaction that ends leaves the bus at rest, or in the recovery of an abort held. -/
theorem busShape_ended {b : MB} {x : Transaction} {state : BusState} (owner : BusOwner) (h : BusShape b)
    (flight : b.transaction = some x) (rest : state = .idle ∨ state = .hung) :
    BusShape (b.ended state owner) ∧ busOwed b = busOwed (b.ended state owner) + ([x].filter Transaction.isStation).length := by
  have busy : b.state = .busy := h.busy.mp (by simp [flight])
  have abort : b.abortTag = none := by
    have := h.recovering
    rw [busy] at this
    simpa using this
  unfold MB.ended
  cases held : b.heldAbort with
  | some tag =>
    refine ⟨⟨h.1, by simp, by simp, by simp, by simp⟩, ?_⟩
    simp only [busOwed, flight, abort, held, Option.toList_some, Option.toList_none, List.length_cons, List.length_nil,
      List.filter_nil]
    omega
  | none =>
    refine ⟨⟨h.1, ?_, by simp, ?_, by simp [held]⟩, ?_⟩
    · rcases rest with rfl | rfl <;> simp
    · rcases rest with rfl | rfl <;> simp [abort]
    · simp only [busOwed, flight, abort, held, Option.toList_some, Option.toList_none, List.length_nil, List.filter_nil]
      omega

/-! ## Final replies of the bus -/

theorem Finals.setMb {k : Nat} (h : Finals k s t) (b : MB) : Finals k (s.setMb b) (t.setMb b) := by
  obtain ⟨l, rfl, hl⟩ := h
  exact ⟨l, rfl, hl⟩

theorem Finals.mb {k : Nat} (h : Finals k s t) : t.mb = s.mb ∧ t.cc = s.cc ∧ t.sl.settings = s.sl.settings := by
  obtain ⟨l, rfl, -⟩ := h
  exact ⟨rfl, rfl, rfl⟩

theorem Finals.endTransaction {k : Nat} (h : Finals k s t) (state : BusState) :
    Finals k (endTransaction state s) (endTransaction state t) := by
  rw [endTransaction_eq, endTransaction_eq, h.mb.1, h.mb.2.2]
  exact h.setMb _

theorem Finals.requestFetch {k : Nat} (h : Finals k s t) (m : Fin 4) (forced : Bool) :
    Finals k (requestFetch m forced s) (requestFetch m forced t) := by
  obtain ⟨l, rfl, hl⟩ := h
  exact ⟨l, rfl, hl⟩

theorem Finals.reportWrite {k : Nat} (h : Finals k s t) (address offset acked : Nat) :
    Finals k (reportWrite address offset acked s) (reportWrite address offset acked t) := by
  obtain ⟨l, rfl, hl⟩ := h
  unfold Machine.reportWrite
  split
  · split
    · exact ⟨l, rfl, hl⟩
    · exact ⟨l, rfl, hl⟩
  · exact ⟨l, rfl, hl⟩

/-! ## Reports to the Channel Conditioner (R25, R27) -/

theorem keeps_markStale (m : Fin 4) (h : Keeps n s t) : Keeps n s (markStale m t) := h.same rfl

theorem keeps_applyResult (m : Fin 4) (r : CalResult) (h : Keeps n s t) : Keeps n s (applyResult m r t) := h.same rfl

theorem keeps_deliverResult (m : Fin 4) (r : CalResult) (h : Keeps n s t) : Keeps n s (deliverResult m r t) := by
  unfold deliverResult
  split
  · exact h.same rfl
  · exact keeps_applyResult m r h

theorem keeps_reportWrite (address offset acked : Nat) (h : Keeps n s t) : Keeps n s (reportWrite address offset acked t) := by
  unfold reportWrite
  split
  · split
    · exact keeps_requestFetch _ _ (keeps_markStale _ h)
    · exact h
  · exact h

/-- What a report of a write leaves of the transaction in flight and of what the bus owes. -/
theorem reportWrite_mb (address offset acked : Nat) (s : State) :
    (reportWrite address offset acked s).mb = s.mb ∨
      ∃ m, (reportWrite address offset acked s).mb = { s.mb with queue := joinQueue m false s.mb.queue } := by
  unfold reportWrite
  split
  · next m _ =>
    split
    · exact .inr ⟨m, rfl⟩
    · exact .inl rfl
  · exact .inl rfl

end

end Sys2Proof.Machine
end

section
/-! The ends and starts of the transactions of the module bus, and its orders, keep what the invariants ask (chapter 10). -/

namespace Sys2Proof.Machine

section
variable {n : Nat} {s t : State}

/-- Final replies that balance the places of the orders that wait no more. -/
theorem Finals.settles {k d : Nat} {m u : State} (final : Finals k m u) (r : Room n (d + k) m) : Room n d u :=
  final.room r.shape r.places (by have := r.reserved; omega)

/-- An operation that owes so many final replies, and forms them. -/
theorem Keeps.of_owed {k : Nat} {m u : State} (final : Finals k m u) (fetch : FetchWf s → FetchWf m)
    (readback : ReadbackWf s → ReadbackWf m) (events : EventsWf s → EventsWf m) (buffers : BuffersWf s → BuffersWf m)
    (replies : ∀ n d, Room n d s → Room n (d + k) m) : Keeps 0 s u := by
  have room : ∀ n d, Room n d s → Room n d u := fun n d r => final.settles (replies n d r)
  obtain ⟨l, rfl, -⟩ := final
  exact ⟨fetch, readback, events,
    fun b => let b := buffers b; ⟨b.1, b.2, b.3, b.4, b.5, b.6, b.7, b.8, b.9, b.10⟩, room⟩

/-! ## Entries that leave the fetch queue or lose their tag -/

/-- The entry of a module leaves the queue, and a tag on it is answered. -/
theorem keeps_entryLeaves {m : Fin 4} {last : PerModule FetchOutcome} {hold : PerModule Nat} {u : State} (h : Keeps n s t)
    (final : Finals ((fetchEntry t m).bind FetchEntry.tag).toList.length
      (t.setMb { t.mb with queue := t.mb.queue.filter fun e => e.module != m, lastFetch := last, retryHold := hold }) u) :
    Keeps n s u := by
  refine h.andThen (.of_owed final (fun f => (List.filter_sublist.map _).nodup f) id id
    (fun b => ⟨b.1, b.2, b.3, b.4, b.5, b.6, b.7, b.8, b.9, b.10⟩) fun n d r => ?_)
  obtain ⟨shape, owed⟩ := busShape_dropEntry m r.shape.bus
  refine r.setMb ⟨shape.1, shape.2, shape.3, shape.4, shape.5⟩ ?_
  simp only [busOwed, fetchEntry] at owed ⊢
  omega

/-- The entry of a module goes to the back with its attempt mark (R180). -/
theorem keeps_requeue {m : Fin 4} {e : FetchEntry} {hold : PerModule Nat} (h : Keeps n s t) (found : fetchEntry t m = some e) :
    Keeps n s (t.setMb { t.mb with
      queue := (t.mb.queue.filter fun e => e.module != m) ++ [{ e with attempt := true }], retryHold := hold }) := by
  have own : e.module = m := by simpa using List.find?_some found
  have distinct : FetchWf t →
      (((t.mb.queue.filter fun e : FetchEntry => e.module != m) ++ [{ e with attempt := true }]).map FetchEntry.module).Nodup := fun f => by
    rw [List.map_append, List.nodup_append_comm]
    refine List.nodup_cons.mpr ⟨?_, (List.filter_sublist.map _).nodup f⟩
    change e.module ∉ _
    simpa [own] using fun x _ => id
  refine keeps_setMb h distinct fun b => ⟨⟨distinct b.1, b.2, b.3, b.4, b.5⟩, ?_⟩
  have tags := length_tags m b.1
  rw [show t.mb.queue.find? (fun e => e.module == m) = some e from found, Option.bind_some] at tags
  simp only [busOwed, List.filterMap_append, List.length_append, tags]
  cases tag : e.tag <;> simp [tag]

/-- The tag on the entry of a module changes. -/
theorem length_tags_setTag {q : List FetchEntry} {m : Fin 4} {e : FetchEntry} (tag : Option Byte)
    (distinct : (q.map FetchEntry.module).Nodup) (found : q.find? (fun e => e.module == m) = some e) :
    ((q.map fun e => if e.module = m then { e with tag := tag } else e).filterMap FetchEntry.tag).length + e.tag.toList.length =
      (q.filterMap FetchEntry.tag).length + tag.toList.length := by
  have keep : ∀ e : FetchEntry, ({ e with tag := tag } : FetchEntry).module = e.module := fun _ => rfl
  obtain ⟨find, filter⟩ := find_entry_map (m := m) (f := fun e => { e with tag := tag }) keep q
  rw [length_tags m distinct, length_tags m (by rw [map_module_entry keep]; exact distinct), find, filter, found]
  simp only [Option.map_some, Option.bind_some]
  omega

/-- A tag on the entry of a module is answered and cleared; the entry stays (R182, R184). -/
theorem finals_failFetchTag (m : Fin 4) (reason : Reason) (cancelled : Bool) (s : State) :
    (failFetchTag m reason cancelled s = s ∧ (fetchEntry s m).bind FetchEntry.tag = none) ∨
      ((fetchEntry s m).bind FetchEntry.tag).isSome = true ∧
      Finals 1 (mapEntry m (fun e => { e with tag := none }) s) (failFetchTag m reason cancelled s) := by
  unfold failFetchTag
  split
  · next tag eq =>
    refine .inr ⟨by simp [eq], ?_⟩
    obtain ⟨l, eq, hl⟩ := finals_finalReply
      { tag := tag, kind := byteOf 20, status := .failed, reason := reason, cancelled := cancelled, body := [] } s
    exact ⟨l, by rw [failStation, eq]; rfl, hl⟩
  · next eq => exact .inl ⟨rfl, eq⟩

theorem keeps_failFetchTag (m : Fin 4) (reason : Reason) (cancelled : Bool) (h : Keeps n s t) :
    Keeps n s (failFetchTag m reason cancelled t) := by
  rcases finals_failFetchTag m reason cancelled t with ⟨eq, -⟩ | ⟨waits, final⟩
  · rw [eq]
    exact h
  · have keep : ∀ e : FetchEntry, ({ e with tag := none } : FetchEntry).module = e.module := fun _ => rfl
    refine h.andThen (.of_owed final (fun f => ?_) id id
      (fun b => ⟨b.1, b.2, b.3, b.4, b.5, b.6, b.7, b.8, b.9, b.10⟩) fun n d r => ?_)
    · simpa only [FetchWf, mapEntry, State.updMb, State.setMb_mb, map_module_entry keep] using f
    · have b := r.shape.bus
      refine r.setMb ⟨(map_module_entry keep t.mb.queue).symm ▸ b.1, b.2, b.3, b.4, b.5⟩ ?_
      cases found : fetchEntry t m with
      | none => simp [found] at waits
      | some e =>
        have tags := length_tags_setTag none b.1 found
        rw [found, Option.bind_some] at waits
        have one : e.tag.toList.length = 1 := by
          obtain ⟨tag, eq⟩ := Option.isSome_iff_exists.mp waits
          simp [eq]
        simp only [busOwed, one, Option.toList_none, List.length_nil] at tags ⊢
        omega

theorem failFetchTag_transaction (m : Fin 4) (reason : Reason) (cancelled : Bool) (s : State) :
    (failFetchTag m reason cancelled s).mb.transaction = s.mb.transaction := by
  rcases finals_failFetchTag m reason cancelled s with ⟨eq, -⟩ | ⟨-, final⟩
  · rw [eq]
  · rw [final.mb.1]
    rfl

/-! ## The end of a transaction (R179 to R184) -/

/-- A fetch ends; what it owes stands on its entry. -/
theorem keeps_endTransaction_fetch {state : BusState} {m : Fin 4} {done : Nat} (h : Keeps n s t)
    (flight : t.mb.transaction = some (.fetch m done)) (rest : state = .idle ∨ state = .hung) :
    Keeps n s (endTransaction state t) := by
  rw [endTransaction_eq]
  refine keeps_setMb h (fun f => ?_) fun b => ?_
  · rw [MB.ended_queue]
    exact f
  · obtain ⟨shape, owed⟩ := busShape_ended t.sl.settings.modbusOwner b flight rest
    exact ⟨shape, owed.symm⟩

/-- A station transaction ends with its final reply, the report of a write made before. -/
theorem keeps_stationEnd {state : BusState} {x : Transaction} {m u : State} (h : Keeps n s t)
    (flight : t.mb.transaction = some x) (station : x.isStation = true) (rest : state = .idle ∨ state = .hung)
    (report : Keeps 0 t m)
    (bus : m.mb = t.mb ∨ ∃ i, m.mb = { t.mb with queue := joinQueue i false t.mb.queue })
    (final : Finals 1 (endTransaction state m) u) : Keeps n s u := by
  have flight : m.mb.transaction = some x := by
    rcases bus with eq | ⟨i, eq⟩ <;> rw [eq] <;> exact flight
  rw [endTransaction_eq] at final
  refine h.andThen (.of_owed final (fun f => ?_) report.readback report.events (fun b => ?_) fun n d r => ?_)
  · simpa only [FetchWf, State.setMb_mb, MB.ended_queue] using report.fetch f
  · have b := report.buffers b
    exact ⟨b.1, b.2, b.3, b.4, b.5, b.6, b.7, b.8, b.9, b.10⟩
  · have r := report.replies n d r
    obtain ⟨shape, owed⟩ := busShape_ended m.sl.settings.modbusOwner r.shape.bus flight rest
    rw [List.filter_cons_of_pos station] at owed
    exact r.setMb shape (by simp only [List.filter_nil, List.length_singleton] at owed; omega)

/-- A transaction that ends without completing and without NO_ACK (R182, R184). -/
theorem keeps_failAndEnd {state : BusState} (reason : Reason) (cancelled : Bool) (acked : Nat) (h : Keeps n s t)
    (flight : t.mb.transaction.isSome = true) (rest : state = .idle ∨ state = .hung) :
    Keeps n s (endTransaction state (failTransaction reason cancelled acked t)) := by
  unfold failTransaction
  split
  · next none => simp [none] at flight
  · next flight =>
    exact keeps_endTransaction_fetch (keeps_failFetchTag _ _ _ h) ((failFetchTag_transaction _ _ _ t).trans flight) rest
  · next flight =>
    exact keeps_stationEnd h flight rfl rest (.refl t) (.inl rfl) ((finals_finalReply _ t).endTransaction state)
  · next flight =>
    exact keeps_stationEnd h flight rfl rest (keeps_reportWrite _ _ _ (.refl t)) (reportWrite_mb _ _ _ t)
      (((finals_finalReply _ t).reportWrite _ _ _).endTransaction state)

theorem keeps_hang (acked : Nat) (h : Keeps n s t) (flight : t.mb.transaction.isSome = true) : Keeps n s (hang acked t) :=
  keeps_failAndEnd _ _ _ h flight (.inr rfl)

/-- A bus without a transaction, which one that is well formed has not where a transaction ends. -/
theorem keeps_end_none {state : BusState} {reason : Reason} {cancelled : Bool} {acked : Nat} (h : Keeps n s t)
    (none : t.mb.transaction = none) (malformed : ¬ Shape t) :
    Keeps n s (endTransaction state (failTransaction reason cancelled acked t)) := by
  rw [show failTransaction reason cancelled acked t = t by simp [failTransaction, none], endTransaction_eq]
  exact h.andThen ⟨fun f => by simpa only [FetchWf, State.setMb_mb, MB.ended_queue] using f, id, id,
    fun b => ⟨b.1, b.2, b.3, b.4, b.5, b.6, b.7, b.8, b.9, b.10⟩, fun _ _ r => absurd r.shape malformed⟩

/-- The clock held low in a byte (R182). -/
theorem keeps_hang_busy (acked : Nat) (h : Keeps n s t) (busy : t.mb.state = .busy) : Keeps n s (hang acked t) := by
  cases flight : t.mb.transaction with
  | some x => exact keeps_hang acked h (by simp [flight])
  | none => exact keeps_end_none h flight fun shape => by simpa [flight, busy] using shape.busy

/-- A clock held low (R182, R183). -/
theorem keeps_endRecovery (released : Bool) (h : Keeps n s t) : Keeps n s (endRecovery released t) := by
  unfold endRecovery
  split
  · next state =>
    dsimp only
    have final : ∀ {u : State}, Finals t.mb.abortTag.toList.length
        (t.setMb { t.mb with state := if released then .idle else .hung, abortTag := none }) u → Keeps n s u := fun final => by
      refine h.andThen (.of_owed final id id id
        (fun b => ⟨b.1, b.2, b.3, b.4, b.5, b.6, b.7, b.8, b.9, b.10⟩) fun n d r => ?_)
      have b := r.shape.bus
      have idle : t.mb.transaction = none := by
        have := b.busy
        rw [state] at this
        simpa using this
      have free : t.mb.heldAbort = none := by
        have := b.held
        rw [state] at this
        simpa using this
      refine r.setMb ⟨b.1, ?_, ?_, ?_, by simp [free]⟩ ?_
      · cases released <;> simp [idle]
      · exact fun cut => absurd (b.cut cut) (by simp [idle])
      · cases released <;> simp
      · simp only [busOwed, Option.toList_none, List.length_nil]
        omega
    split
    · next tag =>
      rw [tag] at final
      cases released <;> exact final (finals_finalReply _ _)
    · next noTag =>
      rw [noTag] at final
      exact final (.zero _)
  · exact h

theorem keeps_clockHeld (acked : Nat) (h : Keeps n s t) : Keeps n s (clockHeld acked t) := by
  unfold clockHeld
  split
  · next busy => exact keeps_hang_busy acked h busy
  · exact keeps_endRecovery false h
  · exact h
  · exact h

theorem keeps_endCut (acked : Nat) (h : Keeps n s t) : Keeps n s (endCut acked t) := by
  unfold endCut
  split
  · next cut =>
    cases flight : t.mb.transaction with
    | some x => exact keeps_failAndEnd _ _ _ h (by simp [flight]) (.inl rfl)
    | none => exact keeps_end_none h flight fun shape => by simpa [flight] using shape.cut cut
  · exact h

theorem keeps_fetchNoAck (m : Fin 4) (h : Keeps n s t) : Keeps n s (fetchNoAck m t) := by
  unfold fetchNoAck
  split
  · exact h
  · next e found =>
    split
    · have latched : Keeps n s (latch .calReject t) := h.same rfl
      dsimp only
      refine keeps_entryLeaves (m := m) latched (last := t.mb.lastFetch.set m .dropped) (hold := t.mb.retryHold) ?_
      rw [show fetchEntry (latch .calReject t) m = some e from found, Option.bind_some]
      split
      · next tag =>
        rw [tag]
        exact finals_finalReply _ _
      · next tag =>
        rw [tag]
        exact .zero _
    · exact keeps_requeue h found

theorem fetchNoAck_transaction (m : Fin 4) (s : State) : (fetchNoAck m s).mb.transaction = s.mb.transaction := by
  unfold fetchNoAck
  split
  · rfl
  · split
    · dsimp only
      split
      · exact (congrArg MB.transaction (finals_finalReply _ _).mb.1).trans rfl
      · rfl
    · rfl

theorem keeps_fetchDone (m : Fin 4) (bs : List Byte) {done : Nat} (h : Keeps n s t)
    (flight : t.mb.transaction = some (.fetch m done)) : Keeps n s (fetchDone m bs t) := by
  unfold fetchDone
  dsimp only
  generalize given : deliverResult m _ t = u
  have delivered : Keeps n s u := given ▸ keeps_deliverResult m _ h
  have bus : u.mb = t.mb := by
    rw [← given]
    unfold deliverResult
    split <;> rfl
  generalize judged : (if (blockValues bs).isNone = true then latch .calReject u else u) = v
  have latched : Keeps n s v := by
    rw [← judged]
    split
    · exact delivered.same rfl
    · exact delivered
  have bus : v.mb = t.mb := by
    rw [← judged]
    split <;> exact bus
  have entry : fetchEntry t m = fetchEntry v m := by simp only [fetchEntry, bus]
  rw [entry]
  generalize left : (dropEntry m v).updMb _ = w
  have left : w = v.setMb { v.mb with
      queue := v.mb.queue.filter fun e => e.module != m
      lastFetch := v.mb.lastFetch.set m (if (blockValues bs).isSome then .good else .rejected)
      retryHold := v.mb.retryHold.set m 0 } := left ▸ rfl
  have transaction : w.mb.transaction = some (.fetch m done) := by
    rw [left]
    exact (congrArg MB.transaction bus).trans flight
  have gone := fun x => keeps_entryLeaves (u := x) (m := m) latched
    (last := v.mb.lastFetch.set m (if (blockValues bs).isSome then .good else .rejected)) (hold := v.mb.retryHold.set m 0)
  rw [← left] at gone
  split
  · next tag =>
    rw [tag] at gone
    exact keeps_endTransaction_fetch (gone _ (finals_finalReply _ _))
      ((congrArg MB.transaction (finals_finalReply _ _).mb.1).trans transaction) (.inl rfl)
  · next tag =>
    rw [tag] at gone
    exact keeps_endTransaction_fetch (gone _ (.zero _)) transaction (.inl rfl)

theorem keeps_endFetch (bs : List Byte) (h : Keeps n s t) : Keeps n s (endFetch bs t) := by
  unfold endFetch
  split
  · next flight =>
    split
    · exact keeps_fetchDone _ bs h flight
    · exact h
  · exact h

theorem keeps_endNoAck (acked : Nat) (h : Keeps n s t) : Keeps n s (endNoAck acked t) := by
  unfold endNoAck
  split
  · split
    · exact h
    · next flight =>
      exact keeps_endTransaction_fetch (keeps_fetchNoAck _ h) ((fetchNoAck_transaction _ t).trans flight) (.inl rfl)
    · next flight =>
      exact keeps_stationEnd h flight rfl (.inl rfl) (.refl t) (.inl rfl) ((finals_finalReply _ t).endTransaction _)
    · next flight =>
      exact keeps_stationEnd h flight rfl (.inl rfl) (keeps_reportWrite _ _ _ (.refl t)) (reportWrite_mb _ _ _ t)
        (((finals_finalReply _ t).reportWrite _ _ _).endTransaction _)
  · exact h

theorem keeps_endRead (bs : List Byte) (h : Keeps n s t) : Keeps n s (endRead bs t) := by
  unfold endRead
  split
  · next flight =>
    split
    · exact keeps_stationEnd h flight rfl (.inl rfl) (.refl t) (.inl rfl) ((finals_finalReply _ t).endTransaction _)
    · exact h
  · exact h

theorem keeps_endWrite (h : Keeps n s t) : Keeps n s (endWrite t) := by
  unfold endWrite
  split
  · next flight =>
    split
    · exact keeps_stationEnd h flight rfl (.inl rfl) (keeps_reportWrite _ _ _ (.refl t)) (reportWrite_mb _ _ _ t)
        (((finals_finalReply _ t).reportWrite _ _ _).endTransaction _)
    · exact h
  · exact h

theorem keeps_endHold (m : Fin 4) (h : Keeps n s t) : Keeps n s (endHold m t) :=
  keeps_setMb h id fun b => ⟨⟨b.1, b.2, b.3, b.4, b.5⟩, rfl⟩

theorem keeps_restartBus (h : Keeps n s t) : Keeps n s (restartBus t) :=
  keeps_setMb h id fun b => ⟨⟨b.1, b.2, id, b.4, b.5⟩, rfl⟩

theorem keeps_ownerSet (h : Keeps n s t) : Keeps n s (ownerSet t) := by
  unfold ownerSet
  split
  · exact h
  · exact keeps_setMb h id fun b => ⟨⟨b.1, b.2, b.3, b.4, b.5⟩, rfl⟩

/-! ## Starts -/

/-- A transaction begins on a bus at rest; a station transaction takes the place of the final reply still owed to nobody. -/
theorem beginTransaction_keeps (x : Transaction) (idle : t.mb.state = .idle) :
    (FetchWf t → FetchWf (beginTransaction x t)) ∧ (ReadbackWf t → ReadbackWf (beginTransaction x t)) ∧
      (EventsWf t → EventsWf (beginTransaction x t)) ∧ (BuffersWf t → BuffersWf (beginTransaction x t)) ∧
      ∀ n d, Room n (d + ([x].filter Transaction.isStation).length) t → Room n d (beginTransaction x t) := by
  unfold beginTransaction
  rw [draw_spec]
  dsimp only [State.updMb]
  generalize begun : (t.setDraws (t.draws + 1)).setMb _ = u
  have begun : u = (t.setDraws (t.draws + 1)).setMb { t.mb with state := .busy, transaction := some x } := begun ▸ rfl
  have room : ∀ n d, Room n (d + ([x].filter Transaction.isStation).length) t → Room n d u := fun n d r => by
    have b := r.shape.bus
    have none : t.mb.transaction = none := by
      have := b.busy
      rw [idle] at this
      simpa using this
    have noAbort : t.mb.abortTag = Option.none := by
      have := b.recovering
      rw [idle] at this
      simpa using this
    have r : Room n (d + ([x].filter Transaction.isStation).length) (t.setDraws (t.draws + 1)) :=
      Room.congr (s := t) rfl r
    rw [begun]
    refine r.setMb ⟨b.1, by simp, by simp, by simp [noAbort], by simp⟩ ?_
    change _ = busOwed t.mb + _
    simp only [busOwed, none, Option.toList_some, Option.toList_none, List.filter_nil, List.length_nil]
    omega
  have kept : (FetchWf t → FetchWf u) ∧ (ReadbackWf t → ReadbackWf u) ∧ (EventsWf t → EventsWf u) ∧
      (BuffersWf t → BuffersWf u) := by
    rw [begun]
    exact ⟨id, id, id, fun b => ⟨b.1, b.2, b.3, b.4, b.5, b.6, b.7, b.8, b.9, b.10⟩⟩
  obtain ⟨fetch, readback, events, buffers⟩ := kept
  split
  · have hung := keeps_hang 0 (.refl u) (by rw [begun]; rfl)
    exact ⟨fun h => hung.fetch (fetch h), fun h => hung.readback (readback h), fun h => hung.events (events h),
      fun h => hung.buffers (buffers h), fun n d r => hung.replies n d (room n d r)⟩
  · exact ⟨fetch, readback, events, buffers, room⟩

theorem keeps_busSettle (h : Keeps n s t) : Keeps n s (busSettle t) := by
  unfold busSettle
  split
  · next free =>
    split
    · obtain ⟨fetch, readback, events, buffers, room⟩ := beginTransaction_keeps (.fetch _ 0) free.2.1
      exact h.andThen ⟨fetch, readback, events, buffers, room⟩
    · exact h
  · exact h

/-! ## Orders of the module bus -/

/-- A station transaction is taken by a bus at rest alone (R181). -/
theorem idle_of_stationRefusal_none {address offset count most : Nat} (none : stationRefusal s address offset count most = none) :
    s.mb.state = .idle := by
  unfold stationRefusal at none
  split at none
  · cases none
  · split at none
    · cases none
    · split at none
      · cases none
      · split at none
        · cases none
        · next down busy =>
          cases state : s.mb.state <;> simp_all [busDown]

/-- An order accepted leaves all but the replies and the reservation. -/
theorem accept_keeps (tag : Byte) (kind : Nat) (s : State) :
    (FetchWf s → FetchWf (accept tag kind s)) ∧ (ReadbackWf s → ReadbackWf (accept tag kind s)) ∧
      (EventsWf s → EventsWf (accept tag kind s)) ∧ (accept tag kind s).mb = s.mb := by
  rw [accept_eq]
  exact ⟨id, id, id, rfl⟩

theorem keeps_stationOrder (tag : Byte) (kind : Nat) (x : Transaction) (station : x.isStation = true) (idle : s.mb.state = .idle) :
    Keeps 2 s (beginTransaction x (accept tag kind s)) := by
  obtain ⟨f, r, e, mb⟩ := accept_keeps tag kind s
  obtain ⟨fetch, readback, events, buffers, room⟩ :=
    beginTransaction_keeps (t := accept tag kind s) x ((congrArg MB.state mb).trans idle)
  rw [List.filter_cons_of_pos station] at room
  exact .of_accept tag kind (fun h => fetch (f h)) (fun h => readback (r h)) (fun h => events (e h)) buffers room

theorem keeps_orderModuleRead (tag : Byte) (address offset count : Nat) (s : State) :
    Keeps 2 s (orderModuleRead tag address offset count s) := by
  unfold orderModuleRead
  split
  · exact (keeps_refuse _ _ _ (.refl s)).mono (by omega)
  · next taken => exact keeps_stationOrder tag 18 _ rfl (idle_of_stationRefusal_none taken)

theorem keeps_orderModuleWrite (tag : Byte) (address offset : Nat) (data : List Byte) (s : State) :
    Keeps 2 s (orderModuleWrite tag address offset data s) := by
  unfold orderModuleWrite
  split
  · exact (keeps_refuse _ _ _ (.refl s)).mono (by omega)
  · next taken => exact keeps_stationOrder tag 19 _ rfl (idle_of_stationRefusal_none taken)

/-- A module that has asked for a fetch has an entry, with the tag that it had. -/
theorem find_joinQueue (m : Fin 4) (forced : Bool) (q : List FetchEntry) :
    ∃ e, (joinQueue m forced q).find? (fun e => e.module == m) = some e ∧
      e.tag = (q.find? fun e => e.module == m).bind FetchEntry.tag := by
  unfold joinQueue
  split
  · next here =>
    have keep : ∀ e : FetchEntry, ({ e with forced := e.forced || forced } : FetchEntry).module = e.module := fun _ => rfl
    rw [(find_entry_map (m := m) keep q).1]
    obtain ⟨e, mem, eq⟩ := List.any_eq_true.mp here
    obtain ⟨e', found⟩ := Option.isSome_iff_exists.mp
      (List.find?_isSome (p := fun e : FetchEntry => e.module == m).mpr ⟨e, mem, eq⟩)
    rw [found]
    exact ⟨_, rfl, rfl⟩
  · next absent =>
    have none : q.find? (fun e => e.module == m) = none :=
      List.find?_eq_none.mpr fun e mem eq => absent (List.any_eq_true.mpr ⟨e, mem, eq⟩)
    rw [List.find?_append, none]
    exact ⟨{ module := m, forced := forced, attempt := false, tag := Option.none }, by simp, rfl⟩

theorem keeps_orderModuleFetch (tag : Byte) (module : Nat) (s : State) : Keeps 2 s (orderModuleFetch tag module s) := by
  have refused : ∀ r, Keeps 2 s (refuse tag 20 r s) := fun r => (keeps_refuse _ _ _ (.refl s)).mono (by omega)
  unfold orderModuleFetch
  split
  · next lt =>
    dsimp only
    split
    · exact refused _
    · split
      · exact refused _
      · split
        · exact refused _
        · next free =>
          have keep : ∀ e : FetchEntry, ({ e with tag := some tag } : FetchEntry).module = e.module := fun _ => rfl
          obtain ⟨f, r, e, mb⟩ := accept_keeps tag 20 s
          have wf : FetchWf (accept tag 20 s) → (((joinQueue ⟨module, lt⟩ true (accept tag 20 s).mb.queue).map fun e =>
              if e.module = ⟨module, lt⟩ then { e with tag := some tag } else e).map FetchEntry.module).Nodup := fun h => by
            rw [map_module_entry keep]
            exact nodup_joinQueue h
          refine .of_accept tag 20 (fun h => wf (f h)) r e
            (fun b => ⟨b.1, b.2, b.3, b.4, b.5, b.6, b.7, b.8, b.9, b.10⟩) fun m d r => ?_
          have b := r.shape.bus
          refine r.setMb (b := { (accept tag 20 s).mb with
            queue := (joinQueue ⟨module, lt⟩ true (accept tag 20 s).mb.queue).map fun e =>
              if e.module = ⟨module, lt⟩ then { e with tag := some tag } else e }) ⟨wf b.1, b.2, b.3, b.4, b.5⟩ ?_
          obtain ⟨e, found, noTag⟩ := find_joinQueue ⟨module, lt⟩ true (accept tag 20 s).mb.queue
          have noTag : e.tag = none := by
            rw [noTag, mb]
            simpa [fetchEntry] using free
          have tags := length_tags_setTag (some tag) (nodup_joinQueue (m := ⟨module, lt⟩) (forced := true) b.1) found
          simp only [noTag, tags_joinQueue, Option.toList_none, Option.toList_some, List.length_nil,
            List.length_singleton] at tags
          simp only [busOwed, Nat.add_zero] at tags ⊢
          omega
  · exact refused _

theorem keeps_orderModuleAbort (tag : Byte) (s : State) : Keeps 2 s (orderModuleAbort tag s) := by
  have refused : ∀ r, Keeps 2 s (refuse tag 21 r s) := fun r => (keeps_refuse _ _ _ (.refl s)).mono (by omega)
  obtain ⟨f, r, e, mb⟩ := accept_keeps tag 21 s
  have recovers : s.mb.state = .idle ∨ s.mb.state = .hung →
      Keeps 2 s ((accept tag 21 s).updMb fun b => { b with state := .recovering, abortTag := some tag }) := fun rest => by
    refine .of_accept tag 21 f r e (fun b => ⟨b.1, b.2, b.3, b.4, b.5, b.6, b.7, b.8, b.9, b.10⟩) fun m d r => ?_
    rw [← mb] at rest
    have b := r.shape.bus
    have none : (accept tag 21 s).mb.transaction = none := by
      have := b.busy
      rcases rest with rest | rest <;> rw [rest] at this <;> simpa using this
    have noAbort : (accept tag 21 s).mb.abortTag = Option.none := by
      have := b.recovering
      rcases rest with rest | rest <;> rw [rest] at this <;> simpa using this
    have noHeld : (accept tag 21 s).mb.heldAbort = Option.none := by
      have := b.held
      rcases rest with rest | rest <;> rw [rest] at this <;> simpa using this
    refine r.setMb ⟨b.1, by simp [none], b.3, by simp, by simp [noHeld]⟩ ?_
    simp only [busOwed, noAbort, Option.toList_some, Option.toList_none, List.length_nil, List.length_singleton]
    omega
  unfold orderModuleAbort
  split
  · next idle => exact recovers (.inl idle)
  · next hung => exact recovers (.inr hung)
  · next busy =>
    split
    · exact refused _
    · next free =>
      refine .of_accept tag 21 f r e (fun b => ⟨b.1, b.2, b.3, b.4, b.5, b.6, b.7, b.8, b.9, b.10⟩) fun m d r => ?_
      have b := r.shape.bus
      refine r.setMb ⟨b.1, b.2, b.3, b.4, fun _ => (congrArg MB.state mb).trans busy⟩ ?_
      have none : (accept tag 21 s).mb.heldAbort = none := by
        rw [mb]
        simpa using free
      simp only [busOwed, none, Option.toList_some, Option.toList_none, List.length_nil, List.length_singleton]
      omega
  · exact refused _

end

end Sys2Proof.Machine
end

section
/-! The measurement, the events and the campaign keep what the invariants ask (chapters 1 to 7). -/

namespace Sys2Proof.Machine

section
variable {n : Nat} {s t : State}

/-! ## Blocks that the invariants do not look at -/

theorem keeps_setLr (x : LR) (h : Keeps n s t) : Keeps n s (t.setLr x) := h.same rfl

theorem keeps_setMm (x : MM) (h : Keeps n s t) : Keeps n s (t.setMm x) := h.same rfl

theorem keeps_setCt (x : CT) (h : Keeps n s t) : Keeps n s (t.setCt x) := h.same rfl

theorem keeps_setMu (x : MU) (h : Keeps n s t) : Keeps n s (t.setMu x) := h.same rfl

theorem keeps_setTb (x : TB) (h : Keeps n s t) : Keeps n s (t.setTb x) := h.same rfl

/-- The Channel Conditioner changed with the sample buffer within its size. -/
theorem keeps_setCc {x : CC} (h : Keeps n s t) (samples : t.cc.buffer.length ≤ 32 → x.buffer.length ≤ 32) :
    Keeps n s (t.setCc x) :=
  h.andThen (.of_samples rfl rfl samples)

/-- The Channel Conditioner changed with the sample buffer as it was. -/
theorem keeps_sameBuffer {x : CC} (h : Keeps n s t) (buffer : x.buffer = t.cc.buffer) : Keeps n s (t.setCc x) :=
  keeps_setCc h (by rw [buffer]; exact id)

theorem keeps_updCt (f : CT → CT) (h : Keeps n s t) : Keeps n s (t.updCt f) := keeps_setCt _ h

theorem Keeps.draw (h : Keeps n s t) : Keeps n s (draw t).2 := h.store (keeps_draw (.refl t))

theorem Keeps.latch (f : Flag) (h : Keeps n s t) : Keeps n s (latch f t) := h.store (keeps_latch f (.refl t))

/-- The campaign's figures changed, its state and the STOP that waits as they were. -/
theorem Keeps.setIa {x : IA} (h : Keeps n s t) (state : x.state = t.ia.state) (stopTag : x.stopTag = t.ia.stopTag) :
    Keeps n s (t.setIa x) := h.store (keeps_setIa (.refl t) state stopTag)

/-- The open events changed, each in the class of its machine. -/
theorem keeps_events {x : ED} (h : Keeps n s t)
    (dip : t.ed.dip.all (fun e => e.cls != .swell) = true → x.dip.all (fun e => e.cls != .swell) = true)
    (swell : t.ed.swell.all (fun e => e.cls == .swell) = true → x.swell.all (fun e => e.cls == .swell) = true) :
    Keeps n s (t.setEd x) :=
  h.andThen ⟨id, id, fun e => ⟨dip e.1, swell e.2⟩, fun b => ⟨b.1, b.2, b.3, b.4, b.5, b.6, b.7, b.8, b.9, b.10⟩,
    fun _ _ r => Room.congr (s := t) rfl r⟩

/-- The Event Detector changed, its open events as they were. -/
theorem keeps_sameEvents {x : ED} (h : Keeps n s t) (dip : x.dip = t.ed.dip) (swell : x.swell = t.ed.swell) :
    Keeps n s (t.setEd x) := h.store (keeps_setEd (.refl t) dip swell)

/-- A campaign in which no STOP waits enters another state. -/
theorem keeps_setState {x : IA} (h : Keeps n s t) (stopTag : x.stopTag = t.ia.stopTag)
    (stop : Shape t → t.ia.stopTag.isSome = true → x.state = .stopping) : Keeps n s (t.setIa x) := by
  refine h.andThen ⟨id, id, id, fun b => ⟨b.1, b.2, b.3, b.4, b.5, b.6, b.7, b.8, b.9, b.10⟩, fun m d r => ⟨r.places, ?_, ?_⟩⟩
  · simpa only [awaiting, State.setIa_ia, State.setIa_sl, State.setIa_sr, State.setIa_mb, stopTag] using r.reserved
  · refine ⟨fun waits => ?_, r.shape.2, r.shape.3, r.shape.4, r.shape.5, r.shape.6, r.shape.7⟩
    simp only [State.setIa_ia, stopTag] at waits
    exact stop r.shape waits

/-! ## The Channel Conditioner (chapter 2) -/

theorem keeps_applyPendingCal (h : Keeps n s t) : Keeps n s (applyPendingCal t) := by
  refine .foldl (fun u m => ?_) h _
  split
  · exact keeps_applyResult _ _ (keeps_sameBuffer (.refl u) rfl)
  · exact .refl u

/-- A frame enters a buffer that is not full (R32). -/
theorem keeps_pushFrame (f : FwdFrame) (h : Keeps n s t) : Keeps n s (pushFrame t f) := by
  unfold pushFrame
  split
  · next short =>
    exact keeps_setCc h fun _ => by
      simp only [List.length_append, List.length_singleton]
      omega
  · exact h.latch _

theorem keeps_forward (collecting : Bool) (c : CondSet) (h : Keeps n s t) : Keeps n s (forward collecting c t) := by
  unfold forward
  split
  · exact .foldl (fun u _ => keeps_pushFrame _ (.refl u)) h _
  · exact h

theorem keeps_forwardHeld (collecting : Bool) (newest : CondSet) (h : Keeps n s t) :
    Keeps n s (forwardHeld collecting newest t) := by
  unfold forwardHeld
  dsimp only
  split
  · exact keeps_sameBuffer (keeps_forward _ _ h) rfl
  · exact keeps_sameBuffer h rfl

theorem keeps_setModule (m : Fin 4) (x : ModMon) (h : Keeps n s t) : Keeps n s (t.setModule m x) := keeps_setMm _ h

theorem keeps_moduleAfterLoad (before : PerChannel ChanEntry) (m : Fin 4) (h : Keeps n s t) :
    Keeps n s (moduleAfterLoad before t m) := by
  unfold moduleAfterLoad
  split
  · exact keeps_setLr _ (keeps_setModule _ _ h)
  · exact keeps_setModule _ _ h
  · exact h

theorem keeps_restartConditioner (h : Keeps n s t) : Keeps n s (restartConditioner t) :=
  keeps_setCc (keeps_applyPendingCal h) fun _ => Nat.zero_le _

/-! ## Captures and records, as operations of the part -/

theorem Keeps.handTrigger (cause : TrigCause) (event k : Nat) (h : Keeps n s t) :
    Keeps n s (handTrigger cause event k t).2 := h.store (keeps_handTrigger _ _ _ (.refl t))

theorem keeps_updInterval (f : Interval → Interval) (h : Keeps n s t) : Keeps n s (updInterval f t) := h.setIa rfl rfl

theorem keeps_updSummary (f : Summary → Summary) (h : Keeps n s t) : Keeps n s (updSummary f t) := h.setIa rfl rfl

theorem keeps_countClose (c : EventClass) (h : Keeps n s t) : Keeps n s (countClose c t) := keeps_updSummary _ h

/-! ## Events (chapter 5) -/

theorem keeps_openDip (w : BoundaryWork) (h : Keeps n s t) : Keeps n s (openDip w t) := by
  have numbered : Keeps n s (t.setEd { t.ed with eventNumber := nextEvent t }) := keeps_sameEvents h rfl rfl
  exact keeps_updInterval _ <| keeps_events (numbered.handTrigger _ _ _) (fun _ => rfl) id

theorem keeps_openSwell (w : BoundaryWork) (h : Keeps n s t) : Keeps n s (openSwell w t) := by
  have numbered : Keeps n s (t.setEd { t.ed with eventNumber := nextEvent t }) := keeps_sameEvents h rfl rfl
  exact keeps_updInterval _ <| keeps_events (numbered.handTrigger _ _ _) id fun _ => rfl

theorem keeps_countGrid (swell : Bool) (cell : Option (Nat × Nat)) (h : Keeps n s t) : Keeps n s (countGrid swell cell t) := by
  unfold countGrid
  split
  · exact h
  · split <;> exact keeps_sameEvents h rfl rfl

theorem keeps_closeEvent (e : OpenEvent) (cause : CloseCause) (b : Boundary) (stamp : Stamp) (h : Keeps n s t) :
    Keeps n s (closeEvent e cause b stamp t) := by
  unfold closeEvent
  dsimp only
  refine keeps_countClose _ ?_
  have handed := fun cell body => (keeps_countGrid ((e.closeSub b.position).cls == .swell) cell h).store
    (keeps_handRecord (.event body) (.refl _))
  split
  · exact keeps_events (handed _ _) id fun _ => rfl
  · exact keeps_events (handed _ _) (fun _ => rfl) id

theorem keeps_escalate (w : BoundaryWork) (h : Keeps n s t) : Keeps n s (escalate w t) := by
  unfold escalate
  split
  · exact h
  · split
    · exact keeps_updInterval _ <| keeps_events (h.handTrigger _ _ _) (fun _ => rfl) id
    · exact h

theorem keeps_endTests (w : BoundaryWork) (ended : Nat → Bool) (e : OpenEvent) (h : Keeps n s t) :
    Keeps n s (endTests w ended e t) := by
  unfold endTests
  split
  · exact keeps_closeEvent _ _ _ _ h
  · split
    · exact keeps_closeEvent _ _ _ _ h
    · exact h

theorem OpenEvent.closeSub_cls (position : Nat) (e : OpenEvent) : (e.closeSub position).cls = e.cls := by
  unfold OpenEvent.closeSub
  split <;> rfl

theorem OpenEvent.subTest_cls (s : State) (w : BoundaryWork) (e : OpenEvent) : (e.subTest s w).cls = e.cls := by
  unfold OpenEvent.subTest
  split
  · split
    · split
      · exact e.closeSub_cls _
      · rfl
    · split <;> rfl
  · rfl

theorem keeps_runDip (w : BoundaryWork) (h : Keeps n s t) : Keeps n s (runDip w t) := by
  unfold runDip
  split
  · split
    · exact keeps_escalate w (keeps_openDip w h)
    · exact h
  · next e dip =>
    have updated : Keeps n s (escalate w (t.setEd { t.ed with
        dip := some ((e.update t w (fun v => decide (v < e.startThreshold)) min).subTest t w) })) := by
      refine keeps_escalate w (keeps_events h (fun cls => ?_) id)
      rw [dip] at cls
      rw [Option.all_some, OpenEvent.subTest_cls]
      exact cls
    dsimp only
    split
    · exact updated
    · exact keeps_endTests _ _ _ updated

theorem keeps_runSwell (w : BoundaryWork) (h : Keeps n s t) : Keeps n s (runSwell w t) := by
  unfold runSwell
  split
  · split
    · exact keeps_openSwell w h
    · exact h
  · next e swell =>
    refine keeps_endTests _ _ _ (keeps_events h id fun cls => ?_)
    rw [swell] at cls
    exact cls

theorem keeps_boundaryEvents (w : BoundaryWork) (h : Keeps n s t) : Keeps n s (boundaryEvents w t).2 := by
  unfold boundaryEvents
  dsimp only
  split
  · exact keeps_sameEvents (keeps_runSwell w (keeps_runDip w h)) rfl rfl
  · exact keeps_sameEvents h rfl rfl

theorem keeps_forceClose (cause : CloseCause) (h : Keeps n s t) : Keeps n s (forceClose cause t) := by
  unfold forceClose
  split
  · exact h
  · have first : ∀ (b : Boundary) (stamp : Stamp), Keeps n s (match t.ed.dip with
        | some e => closeEvent e cause b stamp t
        | none => t) := fun b stamp => by
      split
      · exact keeps_closeEvent _ _ _ _ h
      · exact h
    dsimp only
    split
    · exact keeps_closeEvent _ _ _ _ (first _ _)
    · exact first _ _

/-! ## Intervals (section 7.2) and the entry into RUNNING -/

theorem Keeps.closeInterval (stop : Stamp) (ended early : Bool) (h : Keeps n s t) :
    Keeps n s (closeInterval stop ended early t) := h.store (keeps_closeInterval _ _ _ (.refl t))

theorem Keeps.applyUnlessHold (cause : SettingsCause) (h : Keeps n s t) : Keeps n s (applyUnlessHold cause t) :=
  h.store (keeps_applyUnlessHold _ (.refl t))

theorem keeps_windowArrives (w : WindowResult) (h : Keeps n s t) : Keeps n s (windowArrives w t) := keeps_updInterval _ h

theorem keeps_openInterval (number : Nat) (start : Stamp) (mark : Bool) (h : Keeps n s t) :
    Keeps n s (openInterval number start mark t) := h.setIa rfl rfl

theorem keeps_rolloverReport (h : Keeps n s t) : Keeps n s (rolloverReport t) := by
  unfold rolloverReport
  split
  · exact keeps_openInterval _ _ _ ((h.closeInterval _ _ _).applyUnlessHold _)
  · exact h

theorem keeps_stepReport (before after : Stamp) (h : Keeps n s t) : Keeps n s (stepReport before after t) := by
  unfold stepReport
  split
  · exact h
  · exact keeps_openInterval _ _ _ ((h.closeInterval _ _ _).applyUnlessHold _)

/-- No STOP waits outside STOPPING (R131). -/
theorem Shape.noStop (h : Shape s) (state : s.ia.state ≠ .stopping) : ¬ s.ia.stopTag.isSome = true :=
  fun waits => state (h.stop waits)

theorem keeps_enterRunning (state : t.ia.state ≠ .stopping) (h : Keeps n s t) : Keeps n s (enterRunning t) :=
  keeps_openInterval _ _ _ <| keeps_setMu _ <| keeps_setState h rfl fun shape waits => absurd waits (shape.noStop state)

theorem keeps_readyTest (h : Keeps n s t) : Keeps n s (readyTest t) := by
  unfold readyTest
  split
  · next ready => exact keeps_enterRunning (by rw [ready.1]; decide) h
  · exact h

/-! ## The Magnitude Unit (chapter 4) -/

theorem keeps_startWindow (b : Boundary) (stamp : Stamp) (event : Bool) (h : Keeps n s t) :
    Keeps n s (startWindow b stamp event t) := keeps_setMu _ (keeps_applyPendingCal h)

theorem keeps_closeWindow (w : Window) (b : Boundary) (stamp : Stamp) (flags : BitVec 8) (h : Keeps n s t) :
    Keeps n s (closeWindow w b stamp flags t) := keeps_setMu _ (keeps_windowArrives _ h)

theorem keeps_windowWork (b : Boundary) (stamp : Stamp) (event : Bool) (values : PerChannel (Option Nat)) (h : Keeps n s t) :
    Keeps n s (windowWork b stamp event values t) := by
  unfold windowWork
  split
  · dsimp only
    split
    · exact keeps_startWindow _ _ _ (keeps_closeWindow _ _ _ _ h)
    · exact keeps_setMu _ h
  · split
    · exact keeps_startWindow _ _ _ h
    · exact h

theorem keeps_boundaryWork (b : Boundary) (k : Nat) (h : Keeps n s t) : Keeps n s (boundaryWork b k t).2 :=
  keeps_windowWork _ _ _ _ (keeps_boundaryEvents _ (keeps_setMu _ h))

theorem keeps_latchSnapshot (b : Boundary) (values : PerChannel (Option Nat)) (h : Keeps n s t) :
    Keeps n s (latchSnapshot b values t) := keeps_setMu _ h

theorem keeps_addSet (c : CondSet) (h : Keeps n s t) : Keeps n s (addSet c t) := keeps_setMu _ h

theorem keeps_reportRefChange (h : Keeps n s t) : Keeps n s (reportRefChange t) := by
  unfold reportRefChange
  split
  · exact keeps_setMu _ h
  · split
    · exact keeps_setMu _ h
    · exact h

theorem keeps_reportTimeStep (h : Keeps n s t) : Keeps n s (reportTimeStep t) := by
  unfold reportTimeStep
  split
  · exact keeps_setMu _ h
  · split
    · exact keeps_setMu _ h
    · exact h

theorem keeps_abandonWindow (h : Keeps n s t) : Keeps n s (abandonWindow t) := keeps_setMu _ h

theorem keeps_restartMagnitude (h : Keeps n s t) : Keeps n s (restartMagnitude t) := keeps_setMu _ (keeps_abandonWindow h)

/-! ## The Cycle Tracker (chapter 3) -/

theorem keeps_place (position : Nat) (kind : BoundaryKind) (k : Nat) (h : Keeps n s t) :
    Keeps n s (place position kind k t).2 := keeps_boundaryWork _ _ (keeps_updCt _ h)

theorem keeps_placeDue (due k : Nat) (h : Keeps n s t) : Keeps n s (placeDue due k t).2 := by
  unfold placeDue
  split
  · exact keeps_place _ _ _ h
  · exact h

theorem keeps_placeLocked (b : Boundary) (limit k : Nat) (crossing : Option Nat) (h : Keeps n s t) :
    Keeps n s (placeLocked b limit k crossing t).2 := by
  unfold placeLocked
  dsimp only
  split
  · exact keeps_place _ _ _ (keeps_updCt _ h)
  · split
    · exact keeps_updCt _ (keeps_place _ _ _ h)
    · exact h

theorem keeps_placement (c : CondSet) (h : Keeps n s t) : Keeps n s (placement c t).2 := by
  unfold placement
  split
  · exact keeps_place _ _ _ h
  · split
    · exact keeps_placeDue _ _ h
    · exact keeps_placeDue _ _ h
    · exact keeps_placeDue _ _ h
    · exact keeps_placeLocked _ _ _ _ h

theorem keeps_refChanged (changed : Bool) (h : Keeps n s t) : Keeps n s (refChanged changed t) := by
  unfold refChanged
  split
  · exact keeps_reportRefChange (h.latch _)
  · exact h

theorem keeps_enterLocked (order : LockOrder) (h : Keeps n s t) : Keeps n s (enterLocked order t) := by
  have locked := keeps_updCt CT.lockOn h
  unfold enterLocked
  dsimp only
  split
  · exact keeps_refChanged _ (keeps_readyTest locked)
  · exact keeps_readyTest (keeps_refChanged _ locked)
  · exact keeps_refChanged _ locked

theorem keeps_lock (c : CondSet) (position : Nat) (h : Keeps n s t) : Keeps n s (lock c position t).2 := by
  have entered := keeps_enterLocked (.ofDraw t.draws) h.draw
  unfold lock
  rw [draw_spec] at entered ⊢
  dsimp only at entered ⊢
  split
  · exact keeps_placeLocked _ _ _ _ entered
  · exact entered

theorem keeps_acquisition (c : CondSet) (h : Keeps n s t) : Keeps n s (acquisition c t).2 := by
  unfold acquisition
  split
  · split
    · exact h
    · dsimp only
      split
      · exact keeps_lock _ _ h
      · dsimp only
        exact keeps_updCt _ h
  · exact h

theorem keeps_decideAcquire (values : PerChannel (Option Nat)) (candidate : Phase) (h : Keeps n s t) :
    Keeps n s (decideAcquire t values candidate) := by
  unfold decideAcquire
  dsimp only
  split
  · split <;> exact keeps_updCt _ h
  · exact h

theorem keeps_revert (values : PerChannel (Option Nat)) (reference : Phase) (h : Keeps n s t) :
    Keeps n s (revert t values reference) := by
  unfold revert
  split
  · exact keeps_updCt _ h
  · split
    · dsimp only
      generalize (if t.ct.revertPhase = some _ then t.ct.revertCount + 1 else 1) = count
      split <;> exact keeps_updCt _ h
    · exact keeps_updCt _ h

theorem keeps_decideLocked (values : PerChannel (Option Nat)) (reference : Phase) (h : Keeps n s t) :
    Keeps n s (decideLocked t values reference) := by
  unfold decideLocked
  dsimp only
  split
  · exact keeps_updCt _ h
  · split
    · exact keeps_revert _ _ h
    · split
      · exact h
      · split <;> exact keeps_updCt _ h

theorem keeps_decideReference (values : PerChannel (Option Nat)) (h : Keeps n s t) :
    Keeps n s (decideReference values t) := by
  unfold decideReference
  split
  · split
    · exact keeps_updCt _ h
    · exact h
  · split
    · exact keeps_updCt _ h
    · exact h
  · exact keeps_decideAcquire _ _ h
  · exact keeps_decideLocked _ _ h
  · exact h

theorem keeps_decideAt (p : Placed) (h : Keeps n s t) : Keeps n s (decideAt p t) := by
  unfold decideAt
  split
  · exact keeps_latchSnapshot _ _ (keeps_decideReference _ h)
  · exact h

theorem keeps_trackTake (c : CondSet) (h : Keeps n s t) : Keeps n s (trackTake c t) :=
  keeps_readyTest <| keeps_updCt _ <| keeps_updCt _ <| keeps_decideAt _ <| keeps_acquisition c <| keeps_placement c h

theorem keeps_restartTracker (h : Keeps n s t) : Keeps n s (restartTracker t) := keeps_updCt _ h

/-! ## The lane and the monitor (chapter 1) -/

theorem keeps_matchFrame (m : Fin 4) (sequence : Nat) (f : LaneFrame) (h : Keeps n s t) :
    Keeps n s (matchFrame m sequence f t) := by
  unfold matchFrame
  dsimp only
  split
  · split
    · exact keeps_setModule _ _ (keeps_setLr _ h)
    · exact keeps_setModule _ _ h
  · exact keeps_setModule _ _ h

theorem keeps_laneArrival (bs : List Byte) (h : Keeps n s t) : Keeps n s (laneArrival bs t) := by
  unfold laneArrival
  split
  · exact h
  · split
    · exact h
    · exact keeps_matchFrame _ _ _ h

theorem keeps_expireModule (m : Fin 4) (h : Keeps n s t) : Keeps n s (expireModule t m) := by
  unfold expireModule
  dsimp only
  split
  · exact keeps_requestFetch _ _ (keeps_setModule _ _ h)
  · exact keeps_setModule _ _ h

theorem keeps_monitorIssue (h : Keeps n s t) : Keeps n s (monitorIssue t) := by
  unfold monitorIssue
  split
  · exact keeps_readyTest (.foldl (fun u m => keeps_expireModule m (.refl u)) (keeps_setMm _ h) _)
  · exact keeps_setMm _ h

theorem keeps_restartLane (h : Keeps n s t) : Keeps n s (restartLane t) := keeps_setMm _ (keeps_setLr _ h)

/-! ## The Time Base (section 7.1) -/

theorem keeps_advanceTime (h : Keeps n s t) : Keeps n s (advanceTime t) := keeps_setTb _ h

theorem keeps_stepTime (seconds micros periods : Nat) (h : Keeps n s t) : Keeps n s (stepTime seconds micros periods t) :=
  keeps_stepReport _ _ (keeps_reportTimeStep (.latch _ (keeps_setTb _ h)))

theorem keeps_acceptMark (seconds micros periods : Nat) (h : Keeps n s t) :
    Keeps n s (acceptMark seconds micros periods t) := by
  have synced := keeps_setTb { t.tb with quality := .synced, age := some 0 } h
  unfold acceptMark
  dsimp only
  split
  · exact keeps_setTb _ synced
  · exact keeps_stepTime _ _ _ synced

theorem keeps_markArrives (payload : List Byte) (periods : Nat) (h : Keeps n s t) :
    Keeps n s (markArrives payload periods t) := by
  unfold markArrives
  split
  · exact h
  · split
    · exact h
    · exact keeps_acceptMark _ _ _ h

theorem keeps_sourceSet (old : TimeSource) (h : Keeps n s t) : Keeps n s (sourceSet old t) := by
  unfold sourceSet
  split
  · exact keeps_setTb _ h
  · exact h

/-! ## The strobe issue -/

theorem keeps_takeSet (k : Nat) (frames : PerModule (Option LaneFrame)) (h : Keeps n s t) : Keeps n s (takeSet k frames t) := by
  have tracked := keeps_addSet (condition t.cc.table k frames) (keeps_trackTake (condition t.cc.table k frames) h)
  exact keeps_forwardHeld _ _ (Keeps.draw (tracked.store (keeps_captureTake _ (.refl _))))

theorem keeps_flushAge (h : Keeps n s t) : Keeps n s (flushAge t) := by
  unfold flushAge
  split
  · exact h.store (keeps_samePage (.refl t) rfl rfl)
  · exact h

theorem keeps_armIssue (h : Keeps n s t) : Keeps n s (armIssue t) := by
  unfold armIssue
  split
  · next arming =>
    have counted : Keeps n s (t.setIa { t.ia with armTimer := t.ia.armTimer + 1 }) := h.setIa rfl rfl
    dsimp only
    split
    · exact keeps_enterRunning (by simp [arming]) counted
    · exact counted
  · exact h

theorem keeps_issuePart (set : Option (Nat × PerModule (Option LaneFrame))) (rolled : Bool) (p : IssuePart) (h : Keeps n s t) :
    Keeps n s (issuePart set rolled t p) := by
  unfold issuePart
  split
  · split
    · exact keeps_takeSet _ _ h
    · exact h
  · exact keeps_monitorIssue h
  · split
    · exact keeps_rolloverReport h
    · exact h
  · exact keeps_armIssue h
  · exact keeps_flushAge h

theorem keeps_runTimers (h : Keeps n s t) : Keeps n s (runTimers t) :=
  keeps_setMb (h.store (keeps_setSr (.refl t) rfl rfl)) id fun b => ⟨⟨b.1, b.2, b.3, b.4, b.5⟩, rfl⟩

theorem keeps_issueFirst (h : Keeps n s t) : Keeps n s (issueFirst t) := keeps_runTimers (keeps_setTb _ (keeps_setLr _ h))

theorem keeps_strobeIssueWith (chosen : List IssuePart) (h : Keeps n s t) : Keeps n s (strobeIssueWith chosen t) :=
  .foldl (fun u p => keeps_issuePart _ _ p (.refl u)) (keeps_issueFirst h) _

theorem keeps_strobeIssue (h : Keeps n s t) : Keeps n s (strobeIssue t) := keeps_strobeIssueWith _ h.draw

theorem keeps_issueWhen (due : Bool) (h : Keeps n s t) : Keeps n s (issueWhen due t) := by
  unfold issueWhen
  split
  · exact keeps_strobeIssue h
  · exact h

end

end Sys2Proof.Machine
end

section
/-! The orders, the link and everything that follows an event keep what the invariants ask (chapters 7, 8, 9 and 11). -/

namespace Sys2Proof.Machine

section
variable {n : Nat} {s t : State}

theorem Keeps.answered (tag : Byte) (kind : Nat) (body : List Byte) (h : Keeps 0 s t) : Keeps 2 s (answerOk tag kind body t) :=
  (keeps_answerOk tag kind body h).mono (by omega)

theorem Keeps.refused (tag : Byte) (kind : Nat) (reason : Reason) (s : State) : Keeps 2 s (refuse tag kind reason s) :=
  (keeps_refuse tag kind reason (.refl s)).mono (by omega)

/-! ## Settings and tables -/

theorem keeps_emptyRing (h : Keeps n s t) : Keeps n s (emptyRing t) := h.store (keeps_setCu (.refl t) id)

theorem keeps_liveOff (h : Keeps n s t) : Keeps n s (liveOff t) :=
  h.store (keeps_markAllEmitted (keeps_setSl (.refl t) rfl rfl rfl rfl))

theorem keeps_ownerActs (old : Settings) (k : Setting) (h : Keeps n s t) : Keeps n s (ownerActs old k t) := by
  unfold ownerActs
  dsimp only
  split
  iterate 4
    · split
      · exact keeps_emptyRing h
      · exact h
  · exact keeps_sourceSet _ h
  · split
    · exact h
    · exact keeps_liveOff h
  · split
    · exact h.store (keeps_clearStop (.refl t))
    · exact h
  · split
    · exact h.store (keeps_clearCache (.refl t))
    · exact h
  · exact keeps_ownerSet h
  · exact h

theorem keeps_placeValue (k : Setting) (v : Nat) (h : Keeps n s t) : Keeps n s (placeValue k v t) := by
  unfold placeValue
  split
  · exact h.store (keeps_setSl (.refl t) rfl rfl rfl rfl)
  · exact keeps_ownerActs _ _ (h.store (keeps_setSl (.refl t) rfl rfl rfl rfl))

theorem keeps_setItem (code : Byte) (v : Nat) (h : Keeps n s t) : Keeps n s (setItem code v t).2 := by
  unfold setItem
  split
  · exact h
  · split
    · exact h
    · split
      · exact h
      · exact keeps_placeValue _ _ h

theorem keeps_setItems (items : List (Byte × BitVec 32)) (h : Keeps n s t) : Keeps n s (setItems items t).2 := by
  induction items generalizing t with
  | nil => exact h
  | cons item rest ih => exact ih (keeps_setItem item.1 item.2.toNat h)

theorem keeps_orderSet (tag : Byte) (items : List (Byte × BitVec 32)) (s : State) : Keeps 2 s (orderSet tag items s) :=
  (keeps_formReply _ (keeps_setItems items (.refl s))).mono (by omega)

theorem keeps_orderGet (tag : Byte) (codes : List Byte) (s : State) : Keeps 2 s (orderGet tag codes s) :=
  (keeps_formReply _ (.refl s)).mono (by omega)

theorem keeps_orderLoadChannel (tag : Byte) (entries : List ChannelArg) (s : State) :
    Keeps 2 s (orderLoadChannel tag entries s) := by
  unfold orderLoadChannel
  split
  · exact .refused _ _ _ s
  · split
    · exact .refused _ _ _ s
    · next table _ =>
      have placed : Keeps 0 s (s.setCc { s.cc with table := table }) := keeps_sameBuffer (.refl s) rfl
      split
      · exact .answered _ _ _ (.foldl (f := moduleAfterLoad s.cc.table) (fun u m => keeps_moduleAfterLoad _ m (.refl u)) placed _)
      · exact .refused _ _ _ s

theorem keeps_orderLoadPass (tag : Byte) (entries : List PassArg) (s : State) : Keeps 2 s (orderLoadPass tag entries s) := by
  unfold orderLoadPass
  split
  · split
    · exact .answered _ _ _ (keeps_sameBuffer (.refl s) rfl)
    · exact .refused _ _ _ s
  · exact .refused _ _ _ s

theorem keeps_orderLoadLimit (tag : Byte) (entries : List LimitArg) (s : State) :
    Keeps 2 s (orderLoadLimit tag entries s) := by
  unfold orderLoadLimit
  split
  · dsimp only
    split <;> exact .answered _ _ _ (keeps_sameEvents (.refl s) rfl rfl)
  · exact .refused _ _ _ s

theorem keeps_orderLoadGrid (tag : Byte) (lists : List GridArg) (s : State) : Keeps 2 s (orderLoadGrid tag lists s) := by
  unfold orderLoadGrid
  split
  · exact .refused _ _ _ s
  · split
    · split
      · exact .answered _ _ _ (keeps_sameEvents (.refl s) rfl rfl)
      · exact .refused _ _ _ s
    · exact .refused _ _ _ s

end

/-! ## What the records and the close of a campaign leave -/

/-- The campaign's state with the STOP that waits, the reader, and the Station Link Interface but for its settings. -/
def restView (s : State) :=
  (s.ia.state, s.ia.stopTag, s.ia.endSeq, s.ia.number, s.ia.armTimer, s.sr, s.sl.linkUp, s.sl.orders, s.sl.replies,
    s.sl.reserved, s.sl.storeOrder)

section
variable (s : State)

@[simp] theorem restView_releaseCapture : restView (releaseCapture s) = restView s := by
  unfold releaseCapture
  split <;> rfl

@[simp] theorem restView_departed (e : Entry) : restView (departed s e) = restView s := by
  unfold departed
  dsimp only
  split
  · rw [restView_releaseCapture]
    split <;> rfl
  · split <;> rfl

/-- A fold of steps that leave the rest leaves it. -/
theorem restView_foldl {α : Type} {f : State → α → State} (step : ∀ u a, restView (f u a) = restView u) (l : List α) :
    restView (l.foldl f s) = restView s := by
  induction l generalizing s with
  | nil => rfl
  | cons a l ih => exact (ih (f s a)).trans (step s a)

@[simp] theorem restView_sweep : restView (sweep s) = restView s :=
  (restView_foldl _ restView_departed _).trans rfl

@[simp] theorem restView_countLost (n : Nat) : restView (countLost n s) = restView s := by
  unfold countLost
  split <;> rfl

@[simp] theorem restView_handRecord (body : RecordBody) : restView (handRecord body s).2 = restView s := by
  unfold handRecord
  split
  · rfl
  · dsimp only
    split
    · exact (restView_sweep _).trans rfl
    · exact (restView_countLost _ _).trans rfl

@[simp] theorem restView_settingsRecord (cause : SettingsCause) (applied : BitVec 8) :
    restView (settingsRecord cause applied s) = restView s := restView_handRecord s _

@[simp] theorem restView_applyPending (cause : SettingsCause) : restView (applyPending cause s) = restView s := by
  unfold applyPending
  split
  · rfl
  · exact (restView_settingsRecord _ _ _).trans rfl

@[simp] theorem restView_applyUnlessHold (cause : SettingsCause) : restView (applyUnlessHold cause s) = restView s := by
  unfold applyUnlessHold
  split
  · rfl
  · exact restView_applyPending s cause

@[simp] theorem restView_countGrid (swell : Bool) (cell : Option (Nat × Nat)) : restView (countGrid swell cell s) = restView s := by
  unfold countGrid
  split
  · rfl
  · split <;> rfl

@[simp] theorem restView_closeEvent (e : OpenEvent) (cause : CloseCause) (b : Boundary) (stamp : Stamp) :
    restView (closeEvent e cause b stamp s) = restView s := by
  have handed := fun swell cell body =>
    (restView_handRecord (countGrid swell cell s) body).trans (restView_countGrid s swell cell)
  unfold closeEvent
  dsimp only
  split
  · exact handed _ _ _
  · exact handed _ _ _

@[simp] theorem restView_forceClose (cause : CloseCause) : restView (forceClose cause s) = restView s := by
  unfold forceClose
  split
  · rfl
  · dsimp only
    split
    · rw [restView_closeEvent]
      split
      · exact restView_closeEvent s _ _ _ _
      · rfl
    · split
      · exact restView_closeEvent s _ _ _ _
      · rfl

@[simp] theorem restView_closeCapture (truncated cut : Bool) : restView (closeCapture truncated cut s) = restView s := by
  have handed : ∀ (x : CU) (body : RecordBody), restView (handRecord body (s.setCu x)).2 = restView s :=
    fun x body => restView_handRecord (s.setCu x) body
  unfold closeCapture
  split
  · rfl
  · dsimp only
    generalize eq : handRecord _ _ = r
    have handed := eq ▸ handed _ _
    split
    · exact handed
    · exact (restView_releaseCapture _).trans handed

@[simp] theorem restView_stopCapture : restView (stopCapture s) = restView s := by
  unfold stopCapture
  split
  · rfl
  · rfl
  · exact restView_closeCapture s _ _
  · rfl

@[simp] theorem restView_applyPendingCal : restView (applyPendingCal s) = restView s := by
  refine restView_foldl s (fun u m => ?_) _
  split <;> rfl

@[simp] theorem restView_closeInterval (stop : Stamp) (ended early : Bool) :
    restView (closeInterval stop ended early s) = restView s := by
  unfold closeInterval
  split
  · rfl
  · exact (restView_handRecord s _).trans rfl

end

/-- The campaign's state and the STOP that waits, of what the records leave. -/
theorem campaign_of_restView {s t : State} (h : restView t = restView s) :
    t.ia.state = s.ia.state ∧ t.ia.stopTag = s.ia.stopTag := by
  simp only [restView, Prod.mk.injEq] at h
  exact ⟨h.1, h.2.1⟩

section
variable {n : Nat} {s t : State}

/-! ## The campaign (section 7.3) -/

theorem keeps_clearGrids (h : Keeps n s t) : Keeps n s (clearGrids t) := keeps_sameEvents h rfl rfl

theorem keeps_beginCampaign (state : t.ia.state = .stopped) (h : Keeps n s t) : Keeps n s (beginCampaign t) := by
  unfold beginCampaign
  dsimp only
  generalize opened : (clearGrids (t.setIa { t.ia with number := nextCampaign t.ia.number, summary := .zero })).setRq _ = u
  have stopped : u.ia.state = .stopped := by
    rw [← opened]
    exact state
  have open' : Keeps n s u := by
    have numbered : Keeps n s (t.setIa { t.ia with number := nextCampaign t.ia.number, summary := .zero }) := h.setIa rfl rfl
    rw [← opened]
    exact (keeps_clearGrids numbered).store (keeps_setRq (.refl _) rfl)
  generalize recorded : settingsRecord .start 0 (handRecord (.campaignStart (startBody u)) u).2 = v
  have rest : restView v = restView u := by simp [← recorded]
  have recorded : Keeps n s v := by
    rw [← recorded]
    exact open'.store (keeps_settingsRecord _ _ (keeps_handRecord _ (.refl u)))
  obtain ⟨state, -⟩ := campaign_of_restView rest
  exact keeps_readyTest (keeps_setState recorded rfl fun shape waits =>
    absurd waits (shape.noStop (by rw [state, stopped]; decide)))

theorem keeps_orderStart (tag : Byte) (s : State) : Keeps 2 s (orderStart tag s) := by
  unfold orderStart
  split
  · next allowed =>
    have stopped : s.ia.state = .stopped := by
      simp only [startAllowed, Bool.and_eq_true, beq_iff_eq] at allowed
      exact allowed.1.1
    exact .answered _ _ _ (keeps_beginCampaign stopped (.refl s))
  · exact .refused _ _ _ s

/-- The work of a STOP or a RESTART once the campaign is no longer RUNNING (R130, R132). -/
def campaignEnds (restart running : Bool) (s : State) : HandResult × State :=
  let s := forceClose (endCauses restart).1 s
  let s := stopCapture s
  let s := applyPendingCal (abandonWindow s)
  let s :=
    if running then applyUnlessHold (endCauses restart).2 (closeInterval (nowStamp s) true false s) else s
  handRecord (.campaignEnd (endBody restart s)) s

theorem endCampaign_eq (restart : Bool) (s : State) :
    endCampaign restart s = campaignEnds restart (s.ia.state == .running) (setCampaign .stopping s) := rfl

theorem keeps_campaignEnds (restart running : Bool) (h : Keeps n s t) : Keeps n s (campaignEnds restart running t).2 := by
  have abandoned := keeps_applyPendingCal (keeps_abandonWindow
    ((keeps_forceClose (endCauses restart).1 h).store (keeps_stopCapture (.refl _))))
  unfold campaignEnds
  dsimp only
  split
  · exact ((abandoned.closeInterval _ _ _).applyUnlessHold _).store (keeps_handRecord _ (.refl _))
  · exact abandoned.store (keeps_handRecord _ (.refl _))

@[simp] theorem restView_campaignEnds (restart running : Bool) (s : State) :
    restView (campaignEnds restart running s).2 = restView s := by
  have abandoned : restView (applyPendingCal (abandonWindow (stopCapture (forceClose (endCauses restart).1 s)))) = restView s := by
    rw [restView_applyPendingCal]
    exact (restView_stopCapture _).trans (restView_forceClose s _)
  unfold campaignEnds
  dsimp only
  split
  · rw [restView_handRecord, restView_applyUnlessHold, restView_closeInterval, abandoned]
  · rw [restView_handRecord, abandoned]

theorem keeps_awaitEnd (r : HandResult) (h : Keeps n s t) : Keeps n s (awaitEnd r t) := by
  unfold awaitEnd
  split
  · split
    · exact h.store (keeps_enterStopped _ (.refl t))
    · exact h.setIa rfl rfl
  · exact h.store (keeps_enterStopped _ (.refl t))
  · exact h.store (keeps_enterStopped _ (.refl t))

/-- A STOP taken waits in STOPPING for its final reply (R130). -/
theorem keeps_stopTaken (tag : Byte) (state : s.ia.state ≠ .stopping) :
    Keeps 2 s (setCampaign .stopping
      ((accept tag 6 s).setIa { (accept tag 6 s).ia with stopTag := some tag })) := by
  obtain ⟨f, r, e, -⟩ := accept_keeps tag 6 s
  have ia : (accept tag 6 s).ia = s.ia := by rw [accept_eq]; rfl
  refine .of_accept tag 6 f r e (fun b => ⟨b.1, b.2, b.3, b.4, b.5, b.6, b.7, b.8, b.9, b.10⟩) fun m d r => ?_
  have noStop : (accept tag 6 s).ia.stopTag = none := by
    simpa using r.shape.noStop (by rw [ia]; exact state)
  refine ⟨r.places, ?_, ⟨fun _ => rfl, r.shape.2, r.shape.3, r.shape.4, r.shape.5, r.shape.6, r.shape.7⟩⟩
  have := r.reserved
  simp only [awaiting, setCampaign, State.setIa_ia, State.setIa_sl, State.setIa_sr, State.setIa_mb, noStop, Option.toList_some,
    Option.toList_none, List.length_nil, List.length_singleton] at this ⊢
  omega

theorem keeps_orderStop (tag : Byte) (s : State) : Keeps 2 s (orderStop tag s) := by
  have taken : s.ia.state ≠ .stopping → Keeps 2 s (awaitEnd
      (endCampaign false ((accept tag 6 s).setIa { (accept tag 6 s).ia with stopTag := some tag })).1
      (endCampaign false ((accept tag 6 s).setIa { (accept tag 6 s).ia with stopTag := some tag })).2) := fun state =>
    keeps_awaitEnd _ (keeps_campaignEnds _ _ (keeps_stopTaken tag state))
  unfold orderStop
  split
  · next arming => exact taken (by rw [arming]; decide)
  · next running => exact taken (by rw [running]; decide)
  · exact .refused _ _ _ s
  · exact .refused _ _ _ s

theorem keeps_restartCampaign (s : State) : Keeps 0 s (restartCampaign s) := by
  have ended : s.ia.state ≠ .stopping → Keeps 0 s (setCampaign .stopped (endCampaign true s).2) := fun state => by
    -- no STOP waits in ARMING and RUNNING, and none comes about in the work of the RESTART
    have stopping : Keeps 0 s (setCampaign .stopping s) := keeps_setState (.refl s) rfl fun _ _ => rfl
    have worked := keeps_campaignEnds true (s.ia.state == .running) stopping
    obtain ⟨-, tag⟩ := campaign_of_restView (restView_campaignEnds true (s.ia.state == .running) (setCampaign .stopping s))
    refine ⟨worked.fetch, worked.readback, worked.events,
      fun b => let b := worked.buffers b; ⟨b.1, b.2, b.3, b.4, b.5, b.6, b.7, b.8, b.9, b.10⟩, fun m d r => ?_⟩
    have none : s.ia.stopTag.isSome ≠ true := r.shape.noStop state
    have r := worked.replies m d r
    exact ⟨r.places, r.reserved, ⟨fun waits => absurd (tag ▸ waits) none, r.shape.2, r.shape.3, r.shape.4, r.shape.5,
      r.shape.6, r.shape.7⟩⟩
  unfold restartCampaign
  dsimp only
  split
  · next arming => exact (ended (by rw [arming]; decide)).store (keeps_applyPending _ (.refl _))
  · next running => exact (ended (by rw [running]; decide)).store (keeps_applyPending _ (.refl _))
  · exact .of_store (keeps_applyPending _ (keeps_answerStop _ (.refl s)))
  · exact .of_store (keeps_applyPending _ (.refl s))

theorem keeps_orderRestart (tag : Byte) (s : State) : Keeps 2 s (orderRestart tag s) :=
  .answered _ _ _ <| keeps_restartBus <| keeps_restartMagnitude <| keeps_restartTracker <| keeps_restartConditioner <|
    keeps_restartLane <| keeps_restartCampaign s

/-! ## Captures, ACK and the store orders -/

theorem keeps_orderCapture (tag : Byte) (s : State) : Keeps 2 s (orderCapture tag s) := by
  unfold orderCapture
  split
  · exact .answered _ _ _ (.of_store (keeps_trigger _ _ _ (.refl s)))
  · exact .refused _ _ _ s

theorem keeps_orderAck (tag : Byte) (mask : BitVec 32) (s : State) : Keeps 2 s (orderAck tag mask s) := by
  unfold orderAck
  split
  · exact .refused _ _ _ s
  · exact .answered _ _ _ (.of_store (keeps_setSl (.refl s) rfl rfl rfl rfl))

/-- A long store order taken while none is in flight waits for its final reply (R187). -/
theorem keeps_takeStoreOrder (o : LongOrder) (tag : Byte) (none : s.sl.storeOrder = none) :
    Keeps 2 s (takeStoreOrder o tag s) := by
  obtain ⟨f, r, e, -⟩ := accept_keeps tag o.code s
  have free : (accept tag o.code s).sl.storeOrder = Option.none := by rw [accept_eq]; exact none
  refine .of_accept tag o.code f r e (fun b => ⟨b.1, b.2, b.3, b.4, b.5, b.6, b.7, b.8, b.9, b.10⟩) fun m d r => ?_
  refine ⟨r.places, ?_, ⟨r.shape.1, r.shape.2, r.shape.3, r.shape.4, r.shape.5, r.shape.6, r.shape.7⟩⟩
  have := r.reserved
  simp only [awaiting, takeStoreOrder, State.setSl_ia, State.setSl_sl, State.setSl_sr, State.setSl_mb, free, Option.toList_some,
    Option.toList_none, List.length_nil, List.length_singleton] at this ⊢
  omega

/-- The geometry read with the cache empty (R141, R143). -/
theorem keeps_freshGeometry (h : Keeps n s t) : Keeps n s ((readGeometry t).setCache []) :=
  h.store <| .of_buffers rfl rfl rfl rfl fun b =>
    ⟨b.1, b.2, b.3, b.4, b.5, b.6, Nat.zero_le _, List.nodup_nil, fun _ => rfl, b.10⟩

theorem keeps_orderMount (tag : Byte) (none : s.sl.storeOrder = none) : Keeps 2 s (orderMount tag s) := by
  unfold orderMount
  split
  · exact (keeps_freshGeometry (keeps_takeStoreOrder .mount tag none)).store
      (keeps_setSr (keeps_samePage (.refl _) rfl rfl) rfl rfl)
  all_goals exact .refused _ _ _ s

theorem keeps_orderFormat (tag : Byte) (none : s.sl.storeOrder = none) : Keeps 2 s (orderFormat tag s) := by
  unfold orderFormat
  split
  · exact (keeps_freshGeometry (keeps_takeStoreOrder .format tag none)).store
      (keeps_setSr (keeps_samePage (.refl _) rfl rfl) rfl rfl)
  all_goals exact .refused _ _ _ s

theorem keeps_orderMapLoad (tag : Byte) (start : Nat) (sectors : List Nat) (none : s.sl.storeOrder = none) :
    Keeps 2 s (orderMapLoad tag start sectors s) := by
  unfold orderMapLoad
  split
  · split
    · exact .refused _ _ _ s
    · split
      · exact .refused _ _ _ s
      · exact (keeps_freshGeometry (keeps_takeStoreOrder .mapLoad tag none)).store (keeps_setSr (.refl _) rfl rfl)
  all_goals exact .refused _ _ _ s

theorem keeps_orderUnmount (tag : Byte) (none : s.sl.storeOrder = none) : Keeps 2 s (orderUnmount tag s) := by
  have taken := keeps_takeStoreOrder .unmount tag none
  unfold orderUnmount
  split
  · exact .refused _ _ _ s
  · exact .refused _ _ _ s
  · exact .refused _ _ _ s
  · exact .refused _ _ _ s
  · split
    · exact .refused _ _ _ s
    · exact taken.store (keeps_enterUnmounted (.refl _))
  · split
    · exact .refused _ _ _ s
    · exact taken.store (keeps_cancelAll (keeps_unmountWriter (keeps_setSr (.refl _) rfl rfl)))

theorem keeps_orderRelease (tag : Byte) (w : Nat) (s : State) : Keeps 2 s (orderRelease tag w s) := by
  have moved : StoreKeeps s (s.setSw { s.sw with watermark := w }) := keeps_samePage (.refl s) rfl rfl
  unfold orderRelease
  split
  · split
    · exact .refused _ _ _ s
    · refine .answered _ _ _ (.of_store ?_)
      dsimp only
      split
      · split
        · exact keeps_clearStop moved
        · exact moved
      · exact moved
  all_goals exact .refused _ _ _ s

/-! ## Readback orders (R165, R171) -/

theorem keeps_orderReadRecords (tag : Byte) (first count : Nat) (s : State) :
    Keeps 2 s (orderReadRecords tag first count s) := by
  obtain ⟨f, -, e, -⟩ := accept_keeps tag 16 s
  have sr : (accept tag 16 s).sr = s.sr := by rw [accept_eq]; rfl
  unfold orderReadRecords
  split
  · split
    · exact .refused _ _ _ s
    · split
      · exact .refused _ _ _ s
      · next room =>
        dsimp only
        generalize order : ({ tag := tag, first := first, count := count } : ReadOrder) = o
        -- the order joins the queue, and becomes current when it is alone
        generalize joined : startReadback _ = u
        have eq : ∃ x : SR, u = (accept tag 16 s).setSr x ∧ x.queue = s.sr.queue ++ [o] ∧ x.current.isSome = true ∧
            x.current.toList.flatMap Readback.waiters = s.sr.current.toList.flatMap Readback.waiters := by
          rw [← joined, sr]
          unfold startReadback
          simp only [State.setSr_sr]
          cases current : s.sr.current with
          | some r => exact ⟨{ s.sr with queue := s.sr.queue ++ [o] }, by simp [current], rfl, by simp [current], by simp [current]⟩
          | none =>
            cases queue : s.sr.queue with
            | nil => exact ⟨{ s.sr with queue := [o], current := some (Readback.begin o) }, rfl, rfl, rfl, rfl⟩
            | cons p q =>
              exact ⟨{ s.sr with queue := p :: (q ++ [o]), current := some (Readback.begin p) }, rfl, rfl, rfl, rfl⟩
        obtain ⟨x, rfl, queue, current, waiters⟩ := eq
        have readback : ReadbackWf ((accept tag 16 s).setSr x) := by
          simp [ReadbackWf, current, queue]
        refine .of_accept tag 16 f (fun _ => readback) e (fun b => ?_) fun m d r => ?_
        · refine ⟨b.1, b.2, b.3, b.4, ?_, b.6, b.7, b.8, b.9, b.10⟩
          simp only [State.setSr_sr, queue, List.length_append, List.length_singleton]
          omega
        · refine ⟨r.places, ?_, ⟨r.shape.1, r.shape.2, r.shape.3, r.shape.4, r.shape.5, r.shape.6, readback⟩⟩
          have := r.reserved
          simp only [awaiting, sr] at this
          simp only [awaiting, State.setSr_ia, State.setSr_sl, State.setSr_sr, State.setSr_mb, queue, waiters,
            List.length_append, List.length_singleton]
          omega
  all_goals exact .refused _ _ _ s

/-- What a cancelling of the queued orders leaves of the reader. -/
theorem cancelQueued_sr (tag : Byte) (s : State) :
    (cancelQueued tag s).sr = { s.sr with
      queue := s.sr.queue.take 1 ++ (s.sr.queue.drop 1).filter fun o => o.tag != tag } := by
  obtain ⟨l, eq, -⟩ := finals_foldl (f := fun s (o : ReadOrder) => replyDone o.tag 16 true (readbackBody o .zero) s)
    (fun s o => finals_finalReply _ s) ((s.sr.queue.drop 1).filter fun o => o.tag == tag)
    (s.setSr { s.sr with queue := s.sr.queue.take 1 ++ (s.sr.queue.drop 1).filter fun o => o.tag != tag })
  unfold cancelQueued
  dsimp only
  rw [eq]
  rfl

/-- The current readback with one CANCEL READ more that waits on it, then cancelled (R171). -/
theorem room_cancelCurrent {m d : Nat} {tag : Byte} (r : Room m (d + 1) t) (queue : t.sr.queue ≠ []) :
    Room m d (cancelCurrent [tag] t) := by
  have current := r.shape.readbacks.mpr queue
  obtain ⟨x, current⟩ := Option.isSome_iff_exists.mp current
  have waits : Room m d (withReadback (fun r => { r with waiters := r.waiters ++ [tag] }) t) := by
    refine ⟨r.places, ?_, ⟨r.shape.1, r.shape.2, r.shape.3, r.shape.4, r.shape.5, r.shape.6, ?_⟩⟩
    · have := r.reserved
      simp only [awaiting, withReadback, State.setSr_ia, State.setSr_sl, State.setSr_sr, State.setSr_mb, current,
        Option.map_some, Option.toList_some, List.flatMap_singleton, List.length_append, List.length_singleton] at this ⊢
      omega
    · simpa [ReadbackWf, withReadback] using r.shape.readbacks
  unfold cancelCurrent
  dsimp only
  split
  · exact (keeps_withReadback (f := fun r => { r with cancel := true }) (fun _ => rfl) (.refl _)).replies m d waits
  · exact (keeps_endReadback true false (.refl _)).replies m d waits

/-- The waiters of the current readback are nothing that the other invariants look at. -/
theorem cancelCurrent_keeps (waiters : List Byte) (t : State) :
    (FetchWf t → FetchWf (cancelCurrent waiters t)) ∧ (ReadbackWf t → ReadbackWf (cancelCurrent waiters t)) ∧
      (EventsWf t → EventsWf (cancelCurrent waiters t)) ∧ (BuffersWf t → BuffersWf (cancelCurrent waiters t)) := by
  have marked : ∀ u, StoreKeeps (withReadback (fun r => { r with waiters := r.waiters ++ waiters }) t) u →
      (FetchWf t → FetchWf u) ∧ (ReadbackWf t → ReadbackWf u) ∧ (EventsWf t → EventsWf u) ∧
        (BuffersWf t → BuffersWf u) := fun u keeps => by
    have keeps := Keeps.of_store keeps
    exact ⟨keeps.fetch, fun r => keeps.readback (by simpa [ReadbackWf, withReadback] using r), keeps.events,
      fun b => keeps.buffers ⟨b.1, b.2, b.3, b.4, b.5, b.6, b.7, b.8, b.9, b.10⟩⟩
  unfold cancelCurrent
  dsimp only
  split
  · exact marked _ (keeps_withReadback (f := fun r => { r with cancel := true }) (fun _ => rfl) (.refl _))
  · exact marked _ (keeps_endReadback true false (.refl _))

theorem keeps_orderCancelRead (tag target : Byte) (s : State) : Keeps 2 s (orderCancelRead tag target s) := by
  obtain ⟨f, r, e, -⟩ := accept_keeps tag 17 s
  have sr : (accept tag 17 s).sr = s.sr := by rw [accept_eq]; rfl
  have left := Keeps.of_store (keeps_cancelQueued target (.refl (accept tag 17 s)))
  unfold orderCancelRead
  split
  · split
    · next carried =>
      have held : (cancelQueued target (accept tag 17 s)).sr.queue ≠ [] := by
        rw [cancelQueued_sr, sr]
        obtain ⟨o, mem, -⟩ := List.any_eq_true.mp carried
        cases queue : s.sr.queue with
        | nil => simp [queue] at mem
        | cons => simp
      dsimp only
      split
      · obtain ⟨fetch, readback, events, buffers⟩ := cancelCurrent_keeps [tag] (cancelQueued target (accept tag 17 s))
        exact .of_accept tag 17 (fun h => fetch (left.fetch (f h))) (fun h => readback (left.readback (r h)))
          (fun h => events (left.events (e h))) (fun b => buffers (left.buffers b))
          fun m d h => room_cancelCurrent (left.replies m (d + 1) h) held
      · have final : Finals 1 _ (replyDone tag 17 false [] (cancelQueued target (accept tag 17 s))) := finals_finalReply _ _
        have replies := fun m d (h : Room m (d + 1) (accept tag 17 s)) => final.settles (left.replies m (d + 1) h)
        obtain ⟨l, eq, -⟩ := final
        rw [eq] at replies ⊢
        exact .of_accept tag 17 (fun h => left.fetch (f h)) (fun h => left.readback (r h)) (fun h => left.events (e h))
          (fun b => let b := left.buffers b; ⟨b.1, b.2, b.3, b.4, b.5, b.6, b.7, b.8, b.9, b.10⟩) replies
    · exact .refused _ _ _ s
  all_goals exact .refused _ _ _ s

end

end Sys2Proof.Machine
end

section
/-! Every step keeps the buffers, the reply places, the open events and the fetch and readback queues (O5 to O7). -/

namespace Sys2Proof.Machine

section
variable {n : Nat} {s t u : State}

/-! ## Dispatch (R187) -/

theorem keeps_orderStatus (tag : Byte) (s : State) : Keeps 2 s (orderStatus tag s) := .answered _ _ _ (.refl s)

/-- An order carried out takes at most two reply places; a long store order is carried out only while none is in flight. -/
theorem keeps_carryOut (i : Instr) (s : State) (free : Instr.isLongStore i = true → s.sl.storeOrder = none) :
    Keeps 2 s (carryOut i s) := by
  unfold carryOut
  split
  · exact keeps_orderSet _ _ s
  · exact keeps_orderGet _ _ s
  · exact keeps_orderLoadChannel _ _ s
  · exact keeps_orderLoadPass _ _ s
  · exact keeps_orderLoadLimit _ _ s
  · exact keeps_orderLoadGrid _ _ s
  · exact .answered _ _ _ (.refl s)
  · exact .answered _ _ _ (.refl s)
  · exact .answered _ _ _ (.refl s)
  · exact .answered _ _ _ (.refl s)
  · exact keeps_orderStart _ s
  · exact keeps_orderStop _ s
  · exact keeps_orderRestart _ s
  · exact keeps_orderCapture _ s
  · exact keeps_orderAck _ _ s
  · exact keeps_orderStatus _ s
  · exact keeps_orderMount _ (free rfl)
  · exact keeps_orderFormat _ (free rfl)
  · exact keeps_orderMapLoad _ _ _ (free rfl)
  · exact keeps_orderUnmount _ (free rfl)
  · exact keeps_orderRelease _ _ s
  · exact keeps_orderReadRecords _ _ _ s
  · exact keeps_orderCancelRead _ _ s
  · exact keeps_orderModuleRead _ _ _ _ s
  · exact keeps_orderModuleWrite _ _ _ _ s
  · exact keeps_orderModuleFetch _ _ s
  · exact keeps_orderModuleAbort _ s
  · exact (Keeps.refl s).mono (by omega)

theorem keeps_dispatch (o : Order) (s : State) : Keeps 2 s (dispatch o s) := by
  unfold dispatch
  split
  · exact .refused _ _ _ s
  · split
    · exact .refused _ _ _ s
    · next free => exact keeps_carryOut _ s fun long => by simpa [long] using free

/-! ## What a whole operation of the part keeps -/

/-- Every invariant that held holds after it. -/
structure Kept (s t : State) : Prop where
  fetch : FetchWf s → FetchWf t
  readback : ReadbackWf s → ReadbackWf t
  events : EventsWf s → EventsWf t
  buffers : BuffersWf s → BuffersWf t
  replies : RepliesWf s → RepliesWf t

theorem Kept.refl (s : State) : Kept s s := ⟨id, id, id, id, id⟩

theorem Kept.trans (h : Kept s t) (g : Kept t u) : Kept s u :=
  ⟨fun x => g.fetch (h.fetch x), fun x => g.readback (h.readback x), fun x => g.events (h.events x),
    fun x => g.buffers (h.buffers x), fun x => g.replies (h.replies x)⟩

theorem Keeps.kept (h : Keeps 0 s t) : Kept s t :=
  ⟨h.fetch, h.readback, h.events, h.buffers, fun r => repliesWf_iff_room.mpr (h.replies 0 0 (repliesWf_iff_room.mp r))⟩

/-- An operation made only where the reply queue has the places that it takes. -/
theorem Keeps.kept_of_places (h : Keeps n s t) (free : n ≤ freePlaces s) : Kept s t := by
  refine ⟨h.fetch, h.readback, h.events, h.buffers, fun r => repliesWf_iff_room.mpr (h.replies 0 0 ?_)⟩
  have r := repliesWf_iff_room.mp r
  have := r.places
  refine ⟨?_, r.reserved, r.shape⟩
  simp only [freePlaces] at free
  omega

/-! ## The order buffer (R186, R187) -/

/-- The orders that wait changed within the size of the buffer. -/
theorem keeps_setOrders {l : List Order} (short : s.sl.orders.length ≤ 4 → l.length ≤ 4) :
    Keeps 0 s (s.setSl { s.sl with orders := l }) :=
  ⟨id, id, id, fun b => ⟨short b.1, b.2, b.3, b.4, b.5, b.6, b.7, b.8, b.9, b.10⟩, fun _ _ r => Room.congr (s := s) rfl r⟩

theorem kept_dispatchFront (s : State) : Kept s (dispatchFront s) := by
  unfold dispatchFront
  split
  · exact .refl s
  · next orders =>
    split
    · next room =>
      have free : 2 ≤ freePlaces s := of_decide_eq_true room
      refine Keeps.kept_of_places (n := 2) ?_ free
      exact (keeps_setOrders fun short => by rw [orders, List.length_cons] at short; omega).trans (keeps_dispatch _ _)
    · exact .refl s

theorem kept_submitOrder (o : Order) (s : State) : Kept s (submitOrder o s) := by
  unfold submitOrder
  split
  · next short =>
    refine (Keeps.kept (keeps_setOrders fun _ => ?_)).trans (kept_dispatchFront _)
    simp only [List.length_append, List.length_singleton]
    omega
  · have latched : Kept s (latch .orderOverflow s) := ((Keeps.refl s).latch _).kept
    dsimp only
    split
    · next free => exact latched.trans ((keeps_refuse o.tag o.kind.toNat .full (.refl _)).kept_of_places free)
    · exact latched

theorem kept_submit (i : Instr) (s : State) : Kept s (submit i s) := by
  unfold submit
  split
  · exact kept_submitOrder _ s
  · exact .refl s

theorem kept_orderPayload (payload : List Byte) (s : State) : Kept s (orderPayload payload s) := by
  unfold orderPayload
  split
  · exact kept_submitOrder _ s
  · exact ((Keeps.refl s).draw.kept).trans (kept_submitOrder _ _)

theorem kept_orderFrame (bs : List Byte) (s : State) : Kept s (orderFrame bs s) := by
  unfold orderFrame
  split
  · split
    · exact kept_orderPayload _ s
    · exact .refl s
    · exact ((Keeps.refl s).latch _).kept
  · exact .refl s

/-! ## The link (R185, R189) -/

theorem keeps_markFrame (bs : List Byte) (periods : Nat) (h : Keeps n s t) : Keeps n s (markFrame bs periods t) := by
  unfold markFrame
  split
  · split
    · exact keeps_markArrives _ _ h
    · exact h
    · exact h.latch _
  · exact h

theorem keeps_discardedFrame (bs : List Byte) (h : Keeps n s t) : Keeps n s (discardedFrame bs t) := by
  unfold discardedFrame
  split
  · exact h.latch _
  · exact h

theorem keeps_sendSamples (h : Keeps n s t) : Keeps n s (sendSamples t) :=
  (keeps_setCc h fun _ => Nat.zero_le _).store (keeps_beginFrame _ _ _ (.refl _))

theorem keeps_send (c : Category) (h : Keeps n s t) : Keeps n s (send c t) := by
  unfold send
  split
  · exact h.store (keeps_sendReply (.refl t))
  · exact h.store (keeps_sendLive (.refl t))
  · exact h.store (keeps_sendPiece (.refl t))
  · exact keeps_sendSamples h

theorem keeps_sendFirst (h : Keeps n s t) : Keeps n s (sendFirst t) := by
  have taken := h.store (keeps_liveTake (.refl t))
  unfold sendFirst
  dsimp only
  split
  · exact taken
  · exact keeps_send _ taken

theorem keeps_txSettle (h : Keeps n s t) : Keeps n s (txSettle t) := by
  have taken := h.store (keeps_liveTake (.refl t))
  unfold txSettle
  dsimp only
  split
  · split
    · exact taken
    · exact keeps_send _ taken
    · exact keeps_send _ taken.draw
  · exact taken

theorem keeps_transmitEnd (h : Keeps n s t) : Keeps n s (transmitEnd t) := by
  have idle : Keeps n s (t.setSl { t.sl with tx := none }) := h.store (keeps_setSl (.refl t) rfl rfl rfl rfl)
  unfold transmitEnd
  split
  · exact h
  · refine keeps_sendFirst ?_
    split
    · exact idle.store (keeps_liveSent _ _ (.refl _))
    all_goals exact idle

theorem keeps_linkRises (h : Keeps n s t) : Keeps n s (linkRises t) := by
  unfold linkRises
  split
  · exact h
  · exact keeps_sendFirst (h.store (keeps_setSl (.refl t) rfl rfl rfl rfl))

/-- The link-down report empties the reply queue (R188). -/
theorem keeps_repliesGone (h : Keeps n s t) :
    Keeps n s (t.setSl { t.sl with linkUp := false, replies := [], live := none, tx := none }) := by
  refine h.andThen ⟨id, id, id, fun b => ⟨b.1, b.2, b.3, b.4, b.5, b.6, b.7, b.8, b.9, b.10⟩, fun m d r => ?_⟩
  refine ⟨?_, r.reserved, ⟨r.shape.1, r.shape.2, r.shape.3, r.shape.4, r.shape.5, r.shape.6, r.shape.7⟩⟩
  have := r.places
  simp only [State.setSl_sl, List.length_nil]
  omega

theorem keeps_linkFalls (h : Keeps n s t) : Keeps n s (linkFalls t) := by
  unfold linkFalls
  split
  · exact (keeps_setCc (keeps_repliesGone h) fun _ => Nat.zero_le _).store
      (keeps_endReadbacksLinkDown (keeps_markAllEmitted (.refl _)))
  · exact h

/-! ## What follows an event -/

theorem keeps_quiesce (h : Keeps n s t) : Keeps n s (quiesce t) :=
  (keeps_txSettle ((keeps_busSettle h).store (keeps_storeSettle (.refl _)))).store (keeps_storeSettle (.refl _))

theorem kept_drain (n : Nat) (s : State) : Kept s (drain n s) := by
  induction n generalizing s with
  | zero => exact .refl s
  | succ n ih =>
    unfold drain
    split
    · exact ((kept_dispatchFront s).trans (keeps_quiesce (.refl _)).kept).trans (ih _)
    · exact .refl s

theorem kept_settle (h : Kept s t) : Kept s (settle t) :=
  h.trans ((keeps_quiesce (.refl t)).kept.trans (kept_drain _ _))

theorem Keeps.settled (h : Keeps 0 s t) : Kept s (settle t) := kept_settle h.kept

/-! ## The steps -/

/-- The power-on state meets the invariants (R17). -/
theorem reset_fetchWf : FetchWf State.reset := by decide

theorem reset_readbackWf : ReadbackWf State.reset := by decide

theorem reset_eventsWf : EventsWf State.reset := by decide

theorem reset_buffersWf : BuffersWf State.reset :=
  ⟨by decide, by decide, by decide, by decide, by decide, by decide, by decide, by decide, fun _ => rfl,
    fun _ h => by cases h⟩

theorem reset_repliesWf : RepliesWf State.reset :=
  ⟨by decide, by decide, by decide, by decide, by decide, by decide, by decide, by decide, by decide⟩

theorem kept_powerOn (s : State) : Kept s { State.reset with pending := s.pending, draws := s.draws } :=
  ⟨fun _ => reset_fetchWf, fun _ => reset_readbackWf, fun _ => reset_eventsWf,
    fun _ => let b := reset_buffersWf; ⟨b.1, b.2, b.3, b.4, b.5, b.6, b.7, b.8, b.9, b.10⟩,
    fun _ => let r := reset_repliesWf; ⟨r.1, r.2, r.3, r.4, r.5, r.6, r.7, r.8, r.9⟩⟩

end

/-! ## The effect of a command before what follows it -/

/-- What a command brings about before the fetch-start check, the store and the transmitter settle; an order arrives at the
order buffer. -/
def effect (c : Instr) (s : State) : State :=
  match c with
  | .powerOn => { State.reset with pending := s.pending, draws := s.draws }
  | .strobeIssue => strobeIssue s
  | .crossingTimeout => issueWhen (crossingDue s) s
  | .freerunBoundary => issueWhen (freerunDue s) s
  | .heldHalfPeriodBoundary => issueWhen (heldDue s) s
  | .holdoffEnd => issueWhen (holdoffDue s) s
  | .laneFrameArrival frame => laneArrival frame s
  | .monitorWindowExpiry => issueWhen (monitorDue s) s
  | .armTimeout => issueWhen (armDue s) s
  | .holdoverTimerExpiry => issueWhen (holdoverDue s) s
  | .secondRollover => issueWhen s.tb.rollsOver s
  | .markArrival frame periods => markFrame frame periods.toNat s
  | .drifting => issueWhen (driftDue s) s
  | .linkUp => linkRises s
  | .linkDown => linkFalls s
  | .inboundFrameDiscard frame => discardedFrame frame s
  | .orderArrival frame => orderFrame frame s
  | .frameTransmitEnd => transmitEnd s
  | .flushAgeExpiry => issueWhen (flushAgeDue s) s
  | .pageProgramDone => endProgramDone s
  | .pageProgramFailed => endProgramFailed s
  | .mapByteProgramEnd ok => endMapProgram ok s
  | .sectorEraseDone => endErase true s
  | .sectorEraseFailed => endErase false s
  | .headerReadDone header => endHeaderRead header s
  | .mapEntryReadDone entry => endMapRead entry s
  | .mountPageReadDone page => endMountRead page s
  | .readbackPageReadDone page => endPageRead page s
  | .storeOperationTimeout => endTimeout s
  | .fetchComplete block => endFetch (bytesOf 16 block) s
  | .busNoAck acked => endNoAck acked.toNat s
  | .retryHoldExpiry module => endHold module s
  | .moduleReadComplete data => endRead (bytesOf 32 data) s
  | .moduleWriteComplete => endWrite s
  | .busClockHeld acked => clockHeld acked.toNat s
  | .recoveryEnd released => endRecovery released s
  | .busRestartCut acked => endCut acked.toNat s
  | c => submit c s

theorem exec_powerOn (s : State) : exec .powerOn s = .next (effect .powerOn s) := by
  unfold exec effect execPowerOn
  rfl

/-- Every command but POWER_ON settles what it brought about. -/
theorem exec_eq_settle {c : Instr} (other : c ≠ .powerOn) (s : State) : exec c s = .next (settle (effect c s)) := by
  cases c
  case powerOn => exact absurd rfl other
  all_goals rfl

/-- The state that a command answers. -/
theorem exec_eq_next (c : Instr) (s : State) :
    exec c s = .next (if c = .powerOn then effect c s else settle (effect c s)) := by
  split
  · next on => rw [on, exec_powerOn]
  · next other => exact exec_eq_settle other s

/-- Every command keeps the invariants before what follows it. -/
theorem kept_effect (c : Instr) (s : State) : Kept s (effect c s) := by
  cases c with
  | powerOn => exact kept_powerOn s
  | strobeIssue => exact (keeps_strobeIssue (.refl s)).kept
  | crossingTimeout => exact (keeps_issueWhen _ (.refl s)).kept
  | freerunBoundary => exact (keeps_issueWhen _ (.refl s)).kept
  | heldHalfPeriodBoundary => exact (keeps_issueWhen _ (.refl s)).kept
  | holdoffEnd => exact (keeps_issueWhen _ (.refl s)).kept
  | laneFrameArrival _ => exact (keeps_laneArrival _ (.refl s)).kept
  | monitorWindowExpiry => exact (keeps_issueWhen _ (.refl s)).kept
  | armTimeout => exact (keeps_issueWhen _ (.refl s)).kept
  | holdoverTimerExpiry => exact (keeps_issueWhen _ (.refl s)).kept
  | secondRollover => exact (keeps_issueWhen _ (.refl s)).kept
  | markArrival _ _ => exact (keeps_markFrame _ _ (.refl s)).kept
  | drifting => exact (keeps_issueWhen _ (.refl s)).kept
  | linkUp => exact (keeps_linkRises (.refl s)).kept
  | linkDown => exact (keeps_linkFalls (.refl s)).kept
  | inboundFrameDiscard _ => exact (keeps_discardedFrame _ (.refl s)).kept
  | orderArrival _ => exact kept_orderFrame _ s
  | frameTransmitEnd => exact (keeps_transmitEnd (.refl s)).kept
  | flushAgeExpiry => exact (keeps_issueWhen _ (.refl s)).kept
  | pageProgramDone => exact (Keeps.of_store (keeps_endProgramDone (.refl s))).kept
  | pageProgramFailed => exact (Keeps.of_store (keeps_endProgramFailed (.refl s))).kept
  | mapByteProgramEnd _ => exact (Keeps.of_store (keeps_endMapProgram _ (.refl s))).kept
  | sectorEraseDone => exact (Keeps.of_store (keeps_endErase _ (.refl s))).kept
  | sectorEraseFailed => exact (Keeps.of_store (keeps_endErase _ (.refl s))).kept
  | headerReadDone _ => exact (Keeps.of_store (keeps_endHeaderRead _ (.refl s))).kept
  | mapEntryReadDone _ => exact (Keeps.of_store (keeps_endMapRead _ (.refl s))).kept
  | mountPageReadDone _ => exact (Keeps.of_store (keeps_endMountRead _ (.refl s))).kept
  | readbackPageReadDone _ => exact (Keeps.of_store (keeps_endPageRead _ (.refl s))).kept
  | storeOperationTimeout => exact (Keeps.of_store (keeps_endTimeout (.refl s))).kept
  | fetchComplete _ => exact (keeps_endFetch _ (.refl s)).kept
  | busNoAck _ => exact (keeps_endNoAck _ (.refl s)).kept
  | retryHoldExpiry _ => exact (keeps_endHold _ (.refl s)).kept
  | moduleReadComplete _ => exact (keeps_endRead _ (.refl s)).kept
  | moduleWriteComplete => exact (keeps_endWrite (.refl s)).kept
  | busClockHeld _ => exact (keeps_clockHeld _ (.refl s)).kept
  | recoveryEnd _ => exact (keeps_endRecovery _ (.refl s)).kept
  | busRestartCut _ => exact (keeps_endCut _ (.refl s)).kept
  | _ =>
    unfold effect
    exact kept_submit _ s

/-- Every command keeps the invariants. -/
theorem kept_exec {c : Instr} {s t : State} (next : exec c s = .next t) : Kept s t := by
  rw [exec_eq_next] at next
  cases next
  split
  · exact kept_effect c s
  · exact kept_settle (kept_effect c s)

/-- A step carries out the command in front, or idles. -/
theorem step_next {s t : State} (next : step s = .next t) :
    (s.pending = [] ∧ t = s) ∨ ∃ c rest, s.pending = c :: rest ∧ exec c (s.setPending rest) = .next t := by
  unfold step at next
  split at next
  · next none =>
    cases next
    exact .inl ⟨none, rfl⟩
  · next c rest waits => exact .inr ⟨c, rest, waits, next⟩

/-- The commands that wait are nothing that the invariants look at. -/
theorem kept_setPending (l : List Instr) (s : State) : Kept s (s.setPending l) :=
  (Keeps.of_same (s := s) (t := s.setPending l) rfl).kept

/-- Every step keeps the invariants. -/
theorem kept_step {s t : State} (next : step s = .next t) : Kept s t := by
  rcases step_next next with ⟨-, rfl⟩ | ⟨c, rest, -, next⟩
  · exact .refl _
  · exact (kept_setPending rest s).trans (kept_exec next)

/-- Settles O6: an operation that keeps every size, carried through every command and every step. -/
theorem buffersStayInBounds : Obligations.BuffersStayInBounds := by
  unfold Obligations.BuffersStayInBounds
  exact fun s t wf next => (kept_step next).buffers wf

/-- Settles O7: each final reply releases the place reserved for it, and a dispatch takes places that are free. -/
theorem repliesKeepTheirPlaces : Obligations.RepliesKeepTheirPlaces := by
  unfold Obligations.RepliesKeepTheirPlaces
  exact fun s t wf next => (kept_step next).replies wf

end Sys2Proof.Machine
end

section
/-! A calm state: nothing is left to settle, so an event that leaves one ends there (R173, R179, R187, R189). -/

namespace Sys2Proof.Machine

section
variable {s : State}

/-- A step that leaves a state leaves it however often it is taken. -/
theorem repeatStep_fixed {f : State → State} (fixed : f s = s) (n : Nat) : repeatStep f n s = s := by
  induction n with
  | zero => rfl
  | succ n ih => rw [repeatStep, fixed, ih]

/-! ## The bus and the transmitter -/

theorem busSettle_of_calm (calm : busCalm s = true) : busSettle s = s := by
  unfold busSettle
  split
  · next free =>
    have none : servable s = none := by simpa [busCalm, free] using calm
    rw [none]
  · rfl

/-- The record in live emission is the one that the transmitter takes. -/
theorem liveTake_of_calm (calm : liveCalm s = true) : liveTake s = s := by
  have same : ∀ l, l = s.sl.live → s.setSl { s.sl with live := l } = s := fun l eq => by rw [eq]; rfl
  unfold liveTake
  refine same _ ?_
  cases live : s.sl.live with
  | some l =>
    simp only [liveCalm, live] at calm
    simp [Option.filter, calm]
  | none =>
    simp only [liveCalm, live, Bool.or_eq_true, Bool.not_eq_true', List.all_eq_true] at calm
    simp only [Option.filter_none]
    split
    · next on =>
      rcases calm with off | emitted
      · rw [on] at off
        cases off
      · rw [List.find?_eq_none.mpr fun e mem => by simp [emitted e mem]]
        rfl
    · rfl

theorem txSettle_of_calm (calm : txCalm s = true) : txSettle s = s := by
  simp only [txCalm, Bool.and_eq_true, Bool.or_eq_true, Bool.not_eq_true', List.isEmpty_iff] at calm
  obtain ⟨live, idle⟩ := calm
  unfold txSettle
  rw [liveTake_of_calm live]
  dsimp only
  split
  · next free =>
    simp only [Bool.and_eq_true, Option.isNone_iff_eq_none] at free
    have none : readyCategories s = [] := by simpa [free.1, free.2] using idle
    rw [none]
  · rfl

/-! ## The store -/

/-- A store at rest grants nothing, and its port stays free. -/
theorem grantStep_of_free (job : s.sr.job = .none) (writer : writerRequest s = none) (current : s.sr.current = none)
    (holder : s.sr.holder = none) (tenure : s.sr.tenure = 0) : grantStep s = s := by
  have reader : readerRequest s = none := by simp [readerRequest, current]
  have free : portFree s = s := by
    unfold portFree
    rw [← holder, ← tenure]
    rfl
  unfold grantStep
  split
  · rfl
  · rw [writer, reader, show jobRequest s = none by simp [jobRequest, job]]
    exact free

theorem jobAdvance_of_none (job : s.sr.job = .none) : jobAdvance s = s := by
  unfold jobAdvance
  split
  · exact repeatStep_fixed (by simp [jobStep, job]) 16
  · rfl

theorem readerAdvance_of_none (queue : s.sr.queue = []) : readerAdvance s = s := by
  unfold readerAdvance
  split
  · rfl
  · exact repeatStep_fixed (by simp [readerStep, queue]) 96

/-- A writer without records, tasks or a program due does nothing. -/
theorem writerAdvance_of_calm (calm : writerCalm s = true) : writerAdvance s = s ∧ writerRequest s = none := by
  simp only [writerCalm, Bool.and_eq_true, beq_iff_eq, List.isEmpty_iff, Bool.not_eq_true'] at calm
  obtain ⟨⟨⟨-, entries⟩, tasks⟩, due⟩ := calm
  have append : writerAppend s = s := by
    unfold writerAppend
    split
    · rw [entries]
      dsimp only [appendEntries]
      rw [← entries]
      rfl
    · rfl
  have work : writerStep s = s := by
    unfold writerStep
    simp only [tasks, programStep, due]
    rfl
  constructor
  · unfold writerAdvance
    rw [append, repeatStep_fixed work]
    simp [due]
  · unfold writerRequest
    split
    · rw [tasks]
      cases head : s.sw.head <;> simp [due]
    · rfl

/-- A store that is not mounted, or whose program the writer waits for, appends nothing. -/
theorem writerAppend_of_idle (idle : s.sr.state ≠ .mounted ∨ programInFlight s = true) : writerAppend s = s := by
  unfold writerAppend
  split
  · next work => rcases idle with idle | idle <;> simp_all
  · rfl

theorem finishUnmount_of_not (state : s.sr.state ≠ .unmounting) : finishUnmount s = s := by
  simp [finishUnmount, unmountReady, state]

theorem storePass_of_calm (calm : storeCalm s = true) : storePass s = s := by
  simp only [storeCalm, Bool.and_eq_true, Bool.or_eq_true, List.isEmpty_iff] at calm
  obtain ⟨queue, calm⟩ := calm
  have parts : jobAdvance s = s ∧ writerAdvance s = s ∧ s.sr.state ≠ .unmounting ∧ grantStep s = s := by
    rcases calm with ⟨port, writer⟩ | ⟨⟨flight, state⟩, busy⟩
    · simp only [portCalm, Bool.and_eq_true, Option.isNone_iff_eq_none, beq_iff_eq] at port
      obtain ⟨⟨⟨⟨-, job⟩, holder⟩, tenure⟩, current⟩ := port
      have done : writerAdvance s = s ∧ writerRequest s = none ∧ s.sr.state ≠ .unmounting := by
        rcases writer with idle | calm
        · have idle : writerWorks s = false := by simpa using idle
          have states : s.sr.state ≠ .mounted ∧ s.sr.state ≠ .unmounting := by simpa [writerWorks] using idle
          exact ⟨by simp [writerAdvance, idle, writerAppend_of_idle (.inl states.1)], by simp [writerRequest, idle], states.2⟩
        · obtain ⟨advance, request⟩ := writerAdvance_of_calm calm
          refine ⟨advance, request, ?_⟩
          simp only [writerCalm, Bool.and_eq_true, beq_iff_eq] at calm
          rw [calm.1.1.1]
          decide
      exact ⟨jobAdvance_of_none job, done.1, done.2.2, grantStep_of_free job done.2.1 current holder tenure⟩
    · have state : s.sr.state ≠ .unmounting := by simpa using state
      have flown : s.sr.flight.isNone = false := by simpa using flight
      refine ⟨by simp [jobAdvance, flown], ?_, state, by simp [grantStep, flight]⟩
      have busy : s.sr.state ≠ .mounted ∨ programInFlight s = true ∧ writerBusy s = true := by simpa using busy
      unfold writerAdvance
      rcases busy with idle | ⟨program, busy⟩
      · rw [writerAppend_of_idle (.inl idle)]
        simp [writerWorks, idle, state]
      · rw [writerAppend_of_idle (.inr program)]
        simp [busy]
  obtain ⟨job, writer, state, grant⟩ := parts
  unfold storePass
  rw [job, writer, readerAdvance_of_none queue, finishUnmount_of_not state, repeatStep_fixed grant]

theorem storeSettle_of_calm (calm : storeCalm s = true) : storeSettle s = s := repeatStep_fixed (storePass_of_calm calm) 2

/-! ## All that follows an event -/

theorem quiesce_of_calm (bus : busCalm s = true) (store : storeCalm s = true) (tx : txCalm s = true) : quiesce s = s := by
  rw [quiesce, busSettle_of_calm bus, storeSettle_of_calm store, txSettle_of_calm tx, storeSettle_of_calm store]

theorem settle_of_calm (calm : Calm s = true) : settle s = s := by
  simp only [Calm, Bool.and_eq_true] at calm
  obtain ⟨⟨⟨bus, store⟩, tx⟩, waiting⟩ := calm
  unfold settle
  rw [quiesce_of_calm bus store tx]
  dsimp only
  cases count : s.sl.orders.length with
  | zero => rfl
  | succ n =>
    have stop : (!s.sl.orders.isEmpty && mayDispatch s) = false := by
      cases h : s.sl.orders.isEmpty <;> simp_all
    simp [drain, stop]

/-- Without an order that waits an event ends once the blocks have settled. -/
theorem settle_of_no_orders (none : s.sl.orders = []) : settle s = quiesce s := by
  have wait := waitOf_quiesce s
  simp only [waitOf, Prod.mk.injEq] at wait
  unfold settle
  dsimp only
  rw [wait.1, none]
  rfl

end

/-- Settles O3: a calm state is left by every part of the settling, and the clock's blocks by all of them. -/
theorem settleKeepsCalmStatesAndClock : Obligations.SettleKeepsCalmStatesAndClock := by
  unfold Obligations.SettleKeepsCalmStatesAndClock
  refine ⟨fun s calm => settle_of_calm calm, fun s none => ?_⟩
  have clock := clockOf_quiesce s
  simp only [clockOf, Prod.mk.injEq] at clock
  rw [settle_of_no_orders none]
  exact ⟨clock.1, clock.2.1, clock.2.2.1, clock.2.2.2⟩

/-- Settles O1: a step is the command in front, and no command's meaning is a fault or a refusal. -/
theorem stepRunsFrontCommand : Obligations.StepRunsFrontCommand := by
  unfold Obligations.StepRunsFrontCommand
  refine ⟨fun s => ⟨fun c rest waits => ?_, fun none => ?_⟩, fun c s => ⟨_, exec_eq_next c s⟩⟩
  · simp [step, waits]
  · simp [step, none]

/-- Settles O4: the invariants hold of the power-on values. -/
theorem resetMeetsInvariants : Obligations.ResetMeetsInvariants := by
  unfold Obligations.ResetMeetsInvariants
  exact ⟨by decide, by decide, reset_fetchWf, reset_readbackWf, reset_eventsWf, reset_buffersWf, reset_repliesWf⟩

/-- Settles O2: the power-on values, read off the power-on state. -/
theorem resetLeavesPowerOnValues : Obligations.ResetLeavesPowerOnValues := by
  unfold Obligations.ResetLeavesPowerOnValues
  refine ⟨rfl, by decide, rfl, by decide, fun c => by cases c <;> exact ⟨rfl, rfl, rfl, rfl⟩, by decide,
    rfl, rfl, rfl, rfl, rfl, rfl, rfl, rfl, rfl, rfl, rfl, rfl, rfl,
    rfl, rfl, rfl, rfl, rfl, rfl, rfl, rfl, rfl, rfl, rfl, rfl, rfl, rfl, rfl, rfl, rfl, rfl, rfl, rfl, rfl, rfl, rfl, rfl, rfl,
    fun s => rfl⟩

end Sys2Proof.Machine
end

section
/-! The strobe index, the monitor window's count and the strobe time: only strobe issues move the index, and every step keeps
the ranges (O5, O8). -/

namespace Sys2Proof.Machine

/-! ## What an operation outside the strobe issues leaves of the clock -/

/-- The strobe index stays, and the ranges of the monitor window and of the strobe time are kept. -/
structure Beats (s t : State) : Prop where
  strobe : t.lr.strobe = s.lr.strobe
  monitor : MonitorWf s → MonitorWf t
  time : TimeWf s → TimeWf t

section
variable {s t u : State}

theorem Beats.refl (s : State) : Beats s s := ⟨rfl, id, id⟩

theorem Beats.trans (h : Beats s t) (g : Beats t u) : Beats s u :=
  ⟨g.strobe.trans h.strobe, fun x => g.monitor (h.monitor x), fun x => g.time (h.time x)⟩

/-- An operation that leaves lane, monitor and time base. -/
theorem Beats.of_lane (h : laneOf t = laneOf s) : Beats s t := by
  simp only [laneOf, Prod.mk.injEq] at h
  obtain ⟨lr, mm, tb⟩ := h
  exact ⟨by rw [lr], by simp only [MonitorWf, mm]; exact id, by simp only [TimeWf, tb]; exact id⟩

theorem Beats.of_clock (h : clockOf t = clockOf s) : Beats s t := .of_lane (laneOf_of_clockOf h)

/-- A change of the lane that leaves the strobe index. -/
theorem Beats.setLr {x : LR} (strobe : x.strobe = s.lr.strobe) : Beats s (s.setLr x) := ⟨strobe, id, id⟩

/-- A change of the monitor's modules. -/
theorem beats_setModule (m : Fin 4) (x : ModMon) (s : State) : Beats s (s.setModule m x) := ⟨rfl, id, id⟩

/-- A change of the time base that leaves the strobe time. -/
theorem Beats.setTb {x : TB} (seconds : x.seconds = s.tb.seconds) (sub : x.sub = s.tb.sub) : Beats s (s.setTb x) :=
  ⟨rfl, id, fun h => by simpa only [TimeWf, State.setTb_tb, seconds, sub] using h⟩

theorem Beats.foldl {α : Type} {f : State → α → State} (step : ∀ t a, Beats t (f t a)) (h : Beats s t) (l : List α) :
    Beats s (l.foldl f t) := by
  induction l generalizing t with
  | nil => exact h
  | cons a l ih => exact ih (h.trans (step t a))

/-! ## The lane, the channel table and RESTART (R4, R7, R17) -/

theorem beats_matchFrame (m : Fin 4) (sequence : Nat) (f : LaneFrame) (s : State) : Beats s (matchFrame m sequence f s) := by
  unfold matchFrame
  dsimp only
  split
  · split
    · refine Beats.trans ?_ (beats_setModule _ _ _)
      exact .setLr rfl
    · exact beats_setModule _ _ s
  · exact beats_setModule _ _ s

theorem beats_laneArrival (bs : List Byte) (s : State) : Beats s (laneArrival bs s) := by
  unfold laneArrival
  split
  · exact .refl s
  · split
    · exact .refl s
    · exact beats_matchFrame _ _ _ s

theorem beats_moduleAfterLoad (before : PerChannel ChanEntry) (s : State) (m : Fin 4) :
    Beats s (moduleAfterLoad before s m) := by
  unfold moduleAfterLoad
  split
  · exact (beats_setModule _ _ _).trans (.setLr rfl)
  · exact beats_setModule _ _ s
  · exact .refl s

theorem beats_orderLoadChannel (tag : Byte) (entries : List ChannelArg) (s : State) :
    Beats s (orderLoadChannel tag entries s) := by
  have refused : ∀ r, Beats s (refuse tag 3 r s) := fun r => .of_clock (by simp)
  unfold orderLoadChannel
  split
  · exact refused _
  · split
    · exact refused _
    · next table _ =>
      have placed : Beats s (s.setCc { s.cc with table := table }) := .of_clock rfl
      split
      · exact (placed.foldl (beats_moduleAfterLoad s.cc.table) allModules).trans (.of_clock (by simp))
      · exact refused _

theorem beats_restartLane (s : State) : Beats s (restartLane s) := ⟨rfl, fun _ => Nat.zero_lt_succ 127, id⟩

theorem beats_restartTracker (s : State) : Beats s (restartTracker s) := .of_lane (by simp [restartTracker])

theorem beats_orderRestart (tag : Byte) (s : State) : Beats s (orderRestart tag s) := by
  have campaign : Beats s (restartCampaign s) := .of_clock (by simp)
  have lane := campaign.trans (beats_restartLane _)
  have conditioner := lane.trans (.of_clock (clockOf_restartConditioner _))
  have tracker := conditioner.trans (beats_restartTracker _)
  change Beats s (answerOk tag 7 [] (restartBus (restartMagnitude
    (restartTracker (restartConditioner (restartLane (restartCampaign s)))))))
  refine tracker.trans (.of_clock ?_)
  simp

/-! ## Settings and marks (R115, R117, R192) -/

theorem beats_sourceSet (old : TimeSource) (s : State) : Beats s (sourceSet old s) := by
  unfold sourceSet
  split
  · exact .setTb rfl rfl
  · exact .refl s

theorem beats_ownerActs (old : Settings) (k : Setting) (s : State) : Beats s (ownerActs old k s) := by
  unfold ownerActs
  dsimp only
  split
  iterate 4
    · split
      · exact .of_clock rfl
      · exact .refl s
  · exact beats_sourceSet _ s
  · split
    · exact .refl s
    · exact .of_clock (by simp [liveOff])
  · split
    · exact .of_clock (by simp)
    · exact .refl s
  · split
    · exact .of_clock rfl
    · exact .refl s
  · exact .of_clock (by simp)
  · exact .refl s

theorem beats_setItem (code : Byte) (v : Nat) (s : State) : Beats s (setItem code v s).2 := by
  have placed : ∀ k w, Beats s (placeValue k w s) := fun k w => by
    unfold placeValue
    split
    · exact .of_clock rfl
    · refine Beats.trans ?_ (beats_ownerActs _ _ _)
      exact .of_clock rfl
  unfold setItem
  split
  · exact .refl s
  · split
    · exact .refl s
    · split
      · exact .refl s
      · exact placed _ _

theorem beats_setItems (items : List (Byte × BitVec 32)) (s : State) : Beats s (setItems items s).2 := by
  induction items generalizing s with
  | nil => exact .refl s
  | cons item rest ih => exact (beats_setItem item.1 item.2.toNat s).trans (ih _)

theorem beats_orderSet (tag : Byte) (items : List (Byte × BitVec 32)) (s : State) : Beats s (orderSet tag items s) :=
  (beats_setItems items s).trans (.of_clock (by simp [orderSet]))

/-- A time in ticks gives a strobe time in its ranges (R113, R117). -/
theorem beats_setTicks (ticks : Int) (s : State) {x : TB} (seconds : x.seconds = (s.tb.setTicks ticks).seconds)
    (sub : x.sub = (s.tb.setTicks ticks).sub) : Beats s (s.setTb x) := by
  refine ⟨rfl, id, fun _ => ?_⟩
  simp only [TimeWf, State.setTb_tb, seconds, sub, TB.setTicks, wrap32]
  exact ⟨Nat.mod_lt _ (by decide), Nat.mod_lt _ (by decide)⟩

theorem beats_stepTime (seconds micros periods : Nat) (s : State) : Beats s (stepTime seconds micros periods s) :=
  Beats.trans
    (beats_setTicks ((seconds * secondTicks + micros * 2048 : Nat) - (periodTicks periods : Nat)) s
      (x := { s.tb.setTicks ((seconds * secondTicks + micros * 2048 : Nat) - (periodTicks periods : Nat)) with slew := 0 })
      rfl rfl)
    (.of_clock (by simp [stepTime]))

theorem beats_markArrives (payload : List Byte) (periods : Nat) (s : State) : Beats s (markArrives payload periods s) := by
  unfold markArrives
  split
  · exact .refl s
  · split
    · exact .refl s
    · have synced : Beats s (s.setTb { s.tb with quality := .synced, age := some 0 }) := .setTb rfl rfl
      unfold acceptMark
      dsimp only
      split
      · exact synced.trans (.setTb rfl rfl)
      · exact synced.trans (beats_stepTime _ _ _ _)

theorem beats_markFrame (bs : List Byte) (periods : Nat) (s : State) : Beats s (markFrame bs periods s) := by
  unfold markFrame
  split
  · split
    · exact beats_markArrives _ _ s
    · exact .refl s
    · exact .of_clock (by simp)
  · exact .refl s

/-! ## Orders and what follows an event -/

theorem beats_carryOut (i : Instr) (s : State) : Beats s (carryOut i s) := by
  unfold carryOut
  split
  · exact beats_orderSet _ _ s
  · exact .of_clock (by simp)
  · exact beats_orderLoadChannel _ _ s
  iterate 9
    · exact .of_clock (by simp)
  · exact beats_orderRestart _ s
  iterate 15
    · exact .of_clock (by simp)

theorem beats_dispatch (o : Order) (s : State) : Beats s (dispatch o s) := by
  unfold dispatch
  split
  · exact .of_clock (by simp)
  · split
    · exact .of_clock (by simp)
    · exact beats_carryOut _ s

theorem beats_dispatchFront (s : State) : Beats s (dispatchFront s) := by
  unfold dispatchFront
  split
  · exact .refl s
  · split
    · refine Beats.trans ?_ (beats_dispatch _ _)
      exact .of_clock rfl
    · exact .refl s

theorem beats_submitOrder (o : Order) (s : State) : Beats s (submitOrder o s) := by
  unfold submitOrder
  split
  · refine Beats.trans ?_ (beats_dispatchFront _)
    exact .of_clock rfl
  · refine .of_clock ?_
    dsimp only
    split <;> simp

theorem beats_submit (i : Instr) (s : State) : Beats s (submit i s) := by
  unfold submit
  split
  · exact beats_submitOrder _ s
  · exact .refl s

theorem beats_orderFrame (bs : List Byte) (s : State) : Beats s (orderFrame bs s) := by
  unfold orderFrame
  split
  · split
    · unfold orderPayload
      split
      · exact beats_submitOrder _ s
      · exact Beats.trans (.of_clock (by simp)) (beats_submitOrder _ _)
    · exact .refl s
    · exact .of_clock (by simp)
  · exact .refl s

theorem beats_drain (n : Nat) (s : State) : Beats s (drain n s) := by
  induction n generalizing s with
  | zero => exact .refl s
  | succ n ih =>
    unfold drain
    split
    · exact ((beats_dispatchFront s).trans (.of_clock (clockOf_quiesce _))).trans (ih _)
    · exact .refl s

theorem beats_settle (s : State) : Beats s (settle s) := Beats.trans (.of_clock (clockOf_quiesce s)) (beats_drain _ _)

/-! ## The strobe issue (R2, R9, R113) -/

/-- The time base after a strobe issue is in its ranges (R113, R116). -/
theorem timeWf_advanceTime (h : TimeWf s) : TimeWf (advanceTime s) := by
  have grow : ∀ (source : TimeSource) (x : TB), (x.grow source).sub = x.sub ∧ (x.grow source).seconds = x.seconds :=
    fun source x => by
      unfold TB.grow
      split <;> exact ⟨rfl, rfl⟩
  have slew : ∀ x : TB, x.sub ≤ 160000 → (x.applySlew).sub < 2048000000 ∧ (x.applySlew).seconds = x.seconds := fun x low => by
    unfold TB.applySlew
    split
    · refine ⟨?_, rfl⟩
      dsimp only
      omega
    · refine ⟨?_, rfl⟩
      dsimp only
      omega
  obtain ⟨sub, seconds⟩ := h
  simp only [TimeWf, advanceTime, State.setTb_tb, grow]
  unfold TB.advance
  split
  · obtain ⟨less, same⟩ := slew { s.tb with
      sub := s.tb.sub + strobeTicks - secondTicks, seconds := wrap32 (s.tb.seconds + 1) } (by
        simp only [strobeTicks, secondTicks]
        omega)
    rw [same]
    exact ⟨less, Nat.mod_lt _ (by decide)⟩
  · next rolls =>
    exact ⟨Nat.lt_of_not_le fun le => rolls (decide_eq_true le), seconds⟩

theorem beats_expireModule (s : State) (m : Fin 4) : Beats s (expireModule s m) := by
  unfold expireModule
  dsimp only
  split
  · refine (beats_setModule m ((s.mm.mods.get m).expire s) s).trans (.of_clock ?_)
    simp
  · exact beats_setModule _ _ s

theorem beats_monitorIssue (s : State) : Beats s (monitorIssue s) := by
  unfold monitorIssue
  split
  · have restarted : Beats s (s.setMm { s.mm with count := 0 }) := ⟨rfl, fun _ => Nat.zero_lt_succ 127, id⟩
    exact (restarted.foldl beats_expireModule allModules).trans (.of_clock (by simp))
  · next more =>
    refine ⟨rfl, fun h => ?_, id⟩
    simp only [MonitorWf, State.setMm_mm] at h ⊢
    omega

theorem beats_issuePart (set : Option (Nat × PerModule (Option LaneFrame))) (rolled : Bool) (s : State) (p : IssuePart) :
    Beats s (issuePart set rolled s p) := by
  unfold issuePart
  split
  · split
    · exact .of_lane (by simp)
    · exact .refl s
  · exact beats_monitorIssue s
  · split
    · exact .of_clock (by simp)
    · exact .refl s
  · exact .of_clock (by simp)
  · exact .of_clock (by simp)

/-- What a strobe issue does to the clock: the index goes one on, and the ranges are kept. -/
structure Ticks (s t : State) : Prop where
  strobe : t.lr.strobe = nextStrobe s
  monitor : MonitorWf s → MonitorWf t
  time : TimeWf s → TimeWf t

theorem ticks_strobeIssueWith (chosen : List IssuePart) (s : State) : Ticks s (strobeIssueWith chosen s) := by
  have parts := Beats.foldl (beats_issuePart ((setAtIssue s).map fun k => (k, closingFrames (nextStrobe s) s)) s.tb.rollsOver)
    (.refl (issueFirst s)) (issueParts chosen)
  exact ⟨parts.strobe.trans rfl, fun h => parts.monitor h, fun h => parts.time (timeWf_advanceTime (s := issueLane s) h)⟩

theorem ticks_strobeIssue (s : State) : Ticks s (strobeIssue s) := by
  have issue := ticks_strobeIssueWith (Config.issueOrder s.draws) (draw s).2
  exact ⟨issue.strobe, issue.monitor, issue.time⟩

/-- A time-driven command is a strobe issue, or changes nothing. -/
theorem issueWhen_cases (due : Bool) (s : State) : Ticks s (issueWhen due s) ∨ issueWhen due s = s := by
  unfold issueWhen
  split
  · exact .inl (ticks_strobeIssue s)
  · exact .inr rfl

/-! ## Every command -/

/-- What a command does to the clock before what follows it. -/
theorem effect_clock (c : Instr) (s : State) :
    Beats s (effect c s) ∨ issuesStrobe c = true ∧ Ticks s (effect c s) ∨ c = .powerOn := by
  have timed : ∀ {c due}, issuesStrobe c = true → Beats s (issueWhen due s) ∨ issuesStrobe c = true ∧ Ticks s (issueWhen due s) ∨
      c = .powerOn := fun {c due} issues => by
    rcases issueWhen_cases due s with ticks | eq
    · exact .inr (.inl ⟨issues, ticks⟩)
    · rw [eq]
      exact .inl (.refl s)
  cases c with
  | powerOn => exact .inr (.inr rfl)
  | strobeIssue => exact .inr (.inl ⟨rfl, ticks_strobeIssue s⟩)
  | crossingTimeout => exact timed rfl
  | freerunBoundary => exact timed rfl
  | heldHalfPeriodBoundary => exact timed rfl
  | holdoffEnd => exact timed rfl
  | monitorWindowExpiry => exact timed rfl
  | armTimeout => exact timed rfl
  | holdoverTimerExpiry => exact timed rfl
  | secondRollover => exact timed rfl
  | drifting => exact timed rfl
  | flushAgeExpiry => exact timed rfl
  | laneFrameArrival frame => exact .inl (beats_laneArrival frame s)
  | markArrival frame periods => exact .inl (beats_markFrame frame _ s)
  | orderArrival frame => exact .inl (beats_orderFrame frame s)
  | linkUp => exact .inl (.of_clock (clockOf_linkRises s))
  | linkDown => exact .inl (.of_clock (clockOf_linkFalls s))
  | inboundFrameDiscard frame => exact .inl (.of_clock (clockOf_discardedFrame frame s))
  | frameTransmitEnd => exact .inl (.of_clock (clockOf_transmitEnd s))
  | pageProgramDone => exact .inl (.of_clock (clockOf_endProgramDone s))
  | pageProgramFailed => exact .inl (.of_clock (clockOf_endProgramFailed s))
  | mapByteProgramEnd ok => exact .inl (.of_clock (clockOf_endMapProgram ok s))
  | sectorEraseDone => exact .inl (.of_clock (clockOf_endErase true s))
  | sectorEraseFailed => exact .inl (.of_clock (clockOf_endErase false s))
  | headerReadDone header => exact .inl (.of_clock (clockOf_endHeaderRead header s))
  | mapEntryReadDone entry => exact .inl (.of_clock (clockOf_endMapRead entry s))
  | mountPageReadDone page => exact .inl (.of_clock (clockOf_endMountRead page s))
  | readbackPageReadDone page => exact .inl (.of_clock (clockOf_endPageRead page s))
  | storeOperationTimeout => exact .inl (.of_clock (clockOf_endTimeout s))
  | fetchComplete block => exact .inl (.of_clock (clockOf_endFetch _ s))
  | busNoAck acked => exact .inl (.of_clock (clockOf_endNoAck _ s))
  | retryHoldExpiry module => exact .inl (.of_clock (clockOf_endHold module s))
  | moduleReadComplete data => exact .inl (.of_clock (clockOf_endRead _ s))
  | moduleWriteComplete => exact .inl (.of_clock (clockOf_endWrite s))
  | busClockHeld acked => exact .inl (.of_clock (clockOf_clockHeld _ s))
  | recoveryEnd released => exact .inl (.of_clock (clockOf_endRecovery released s))
  | busRestartCut acked => exact .inl (.of_clock (clockOf_endCut _ s))
  | _ =>
    refine .inl ?_
    unfold effect
    exact beats_submit _ s

/-- What a command does to the clock. -/
theorem exec_clock {c : Instr} (next : exec c s = .next t) :
    Beats s t ∨ issuesStrobe c = true ∧ Ticks s t ∨ c = .powerOn ∧ t = effect .powerOn s := by
  by_cases on : c = .powerOn
  · subst on
    rw [exec_powerOn] at next
    cases next
    exact .inr (.inr ⟨rfl, rfl⟩)
  · rw [exec_eq_settle on] at next
    obtain rfl := Host.Outcome.next.inj next
    have settled := beats_settle (effect c s)
    rcases effect_clock c s with beats | ⟨issues, ticks⟩ | eq
    · exact .inl (beats.trans settled)
    · exact .inr (.inl ⟨issues, settled.strobe.trans ticks.strobe, fun h => settled.monitor (ticks.monitor h),
        fun h => settled.time (ticks.time h)⟩)
    · exact absurd eq on

/-- Every command keeps the ranges of the monitor window and of the strobe time. -/
theorem exec_ranges {c : Instr} (next : exec c s = .next t) : (MonitorWf s → MonitorWf t) ∧ (TimeWf s → TimeWf t) := by
  rcases exec_clock next with beats | ⟨-, ticks⟩ | ⟨-, rfl⟩
  · exact ⟨beats.monitor, beats.time⟩
  · exact ⟨ticks.monitor, ticks.time⟩
  · exact ⟨fun _ => by change State.reset.mm.count < 128; decide,
      fun _ => by change State.reset.tb.sub < 2048000000 ∧ State.reset.tb.seconds < 4294967296; decide⟩

/-- Every step keeps the ranges of the monitor window and of the strobe time. -/
theorem step_ranges (next : step s = .next t) : (MonitorWf s → MonitorWf t) ∧ (TimeWf s → TimeWf t) := by
  rcases step_next next with ⟨-, rfl⟩ | ⟨c, rest, -, next⟩
  · exact ⟨id, id⟩
  · exact exec_ranges (s := s.setPending rest) next

end

/-- Settles O5: the ranges of the clock by what a command does to it, the other three by what every operation keeps. -/
theorem rangesStayWellFormed : Obligations.RangesStayWellFormed := by
  unfold Obligations.RangesStayWellFormed
  exact ⟨fun s t wf next => (step_ranges next).2 wf, fun s t wf next => (step_ranges next).1 wf,
    fun s t wf next => (kept_step next).fetch wf, fun s t wf next => (kept_step next).readback wf,
    fun s t wf next => (kept_step next).events wf⟩

/-- Settles O8: of all the operations only a strobe issue moves the index, and what follows an event never does. -/
theorem strobeIndexMovesOnlyAtIssues : Obligations.StrobeIndexMovesOnlyAtIssues := by
  unfold Obligations.StrobeIndexMovesOnlyAtIssues
  intro c s t next
  rcases exec_clock next with beats | ⟨issues, ticks⟩ | ⟨on, rfl⟩
  · exact .inl beats.strobe
  · exact .inr (.inl ⟨issues, ticks.strobe⟩)
  · exact .inr (.inr ⟨on, rfl⟩)

end Sys2Proof.Machine
end

section
/-! The layouts (chapter 12): what is written as the layouts say is read back. -/

namespace Sys2Proof.Machine

/-! ## Link frames (section 12.3) -/

/-- The check of a frame made of a kind, a length field, a payload and a CRC-32 over them holds, and its kind decides. -/
theorem readLinkFrame_inboundFrame {kind : Nat} {payload : List Byte} (fits : payload.length ≤ 1024) (small : kind < 16) :
    readLinkFrame (inboundFrame kind payload) =
      if kind = 1 then .order payload else if kind = 2 then .mark payload else .discard := by
  let covered := leBytes 1 kind ++ leBytes 2 payload.length ++ payload
  have whole : inboundFrame kind payload = covered ++ crc32Bytes covered := rfl
  have coveredLength : covered.length = 3 + payload.length := by simp [covered]; omega
  have lengthField : fieldNat (covered ++ crc32Bytes covered) 1 2 = payload.length :=
    leNat_leBytes 2 payload.length (by omega)
  have checked : (covered ++ crc32Bytes covered).drop (3 + payload.length) =
      crc32Bytes ((covered ++ crc32Bytes covered).take (3 + payload.length)) := by
    rw [← coveredLength, List.drop_left, List.take_left]
  have frameLength : (covered ++ crc32Bytes covered).length = 7 + payload.length := by
    simp [coveredLength, crc32Bytes]; omega
  have kindField : (((covered ++ crc32Bytes covered).headD 0).toNat) % 16 = kind := by
    have read : ((covered ++ crc32Bytes covered).headD 0).toNat = kind := byteOf_small kind (by omega)
    rw [read, Nat.mod_eq_of_lt small]
  have content : field (covered ++ crc32Bytes covered) 3 payload.length = payload :=
    List.take_left' (l₁ := payload) (l₂ := crc32Bytes covered) rfl
  have passes : ¬ ((covered ++ crc32Bytes covered).length ≠ 7 + payload.length ∨ 1024 < payload.length ∨
      (covered ++ crc32Bytes covered).drop (3 + payload.length) ≠
        crc32Bytes ((covered ++ crc32Bytes covered).take (3 + payload.length))) := by
    rw [checked, frameLength]
    simpa using fits
  simp only [whole, readLinkFrame, lengthField, kindField, content, if_neg passes]

/-! ## Page headers (section 12.6) -/

/-- A page header whose numbers fit their fields reads back. -/
theorem readHeader_bytes {h : PageHeader} (serial : h.serial < 4294967296) (seqRef : h.seqRef < 4294967296)
    (starts : h.starts < 256) (firstOffset : h.firstOffset < 256) : readHeader h.bytes = some h := by
  have marker : field h.bytes 0 3 = [0x4C, 0x5A, 1] ∧ field h.bytes 14 2 = crc16Bytes (h.bytes.take 14) := by
    cases openMark : h.tailOpen <;> simp only [PageHeader.bytes, openMark] <;> exact ⟨rfl, rfl⟩
  have serialField : fieldNat h.bytes 4 4 = h.serial := by
    cases openMark : h.tailOpen <;> simp only [PageHeader.bytes, openMark] <;> exact leNat_leBytes 4 _ serial
  have refField : fieldNat h.bytes 8 4 = h.seqRef := by
    cases openMark : h.tailOpen <;> simp only [PageHeader.bytes, openMark] <;> exact leNat_leBytes 4 _ seqRef
  have startsField : fieldNat h.bytes 12 1 = h.starts := by
    cases openMark : h.tailOpen <;> simp only [PageHeader.bytes, openMark] <;> exact leNat_leBytes 1 _ starts
  have offsetField : fieldNat h.bytes 13 1 = h.firstOffset := by
    cases openMark : h.tailOpen <;> simp only [PageHeader.bytes, openMark] <;> exact leNat_leBytes 1 _ firstOffset
  have openField : (fieldNat h.bytes 3 1 % 2 == 1) = h.tailOpen := by
    cases openMark : h.tailOpen <;> simp only [PageHeader.bytes, openMark] <;> rfl
  simp only [readHeader, if_pos marker, serialField, refField, startsField, offsetField, openField]

/-! ## Records (section 12.6) -/

/-- The header of a record has 20 bytes. -/
theorem Record.length_header (points : List Point) (r : Record) : (r.header points).length = 20 := by
  simp [Record.header, Stamp.bytes]

/-- A record is as long as its header says. -/
theorem Record.length_bytes (points : List Point) (r : Record) : (r.bytes points).length = r.length points := by
  simp only [Record.bytes, Record.length, List.length_append, Record.length_header, crc32Bytes, leBytes_length]

/-- A record's trailer is the CRC-32 over the bytes before it. -/
theorem recordChecks_bytes (points : List Point) (r : Record) : recordChecks (r.bytes points) = true := by
  have trailer : (r.bytes points).length - 4 = (r.header points ++ r.body.bytes points).length := by
    simp only [Record.bytes, List.length_append, crc32Bytes, leBytes_length]
    omega
  simp only [recordChecks, trailer, beq_iff_eq]
  simp only [Record.bytes, List.drop_left, List.take_left]

/-- Settles O10: link frames, lane frames, page headers and records, each read back from its own layout. -/
theorem layoutsReadBack : Obligations.LayoutsReadBack := by
  unfold Obligations.LayoutsReadBack
  refine ⟨fun payload fits => ⟨?_, ?_, fun kind small notOrder notMark => ?_⟩, ?_, ?_, ?_⟩
  · exact readLinkFrame_inboundFrame fits (by decide)
  · exact readLinkFrame_inboundFrame fits (by decide)
  · rw [readLinkFrame_inboundFrame fits small, if_neg notOrder, if_neg notMark]
  · exact fun m sequence status a b => readLaneFrame_laneBytes m status
  · exact fun h => readHeader_bytes
  · exact fun points r => ⟨recordChecks_bytes points r, Record.length_bytes points r⟩

/-! ## Orders (section 12.4) -/

/-- A counted list of bytes reads back when its count is in range. -/
theorem countedPieces_bytes {most : Nat} {l : List Byte} (low : 1 ≤ l.length) (high : l.length ≤ most)
    (byte : most < 256) :
    (countedPieces 1 most (counted l.length l)).map (fun p => p.map fun b => byteAt b 0) = some l := by
  have cut := countedPieces_flatMap 1 most (fun b : Byte => [b]) (fun _ => rfl) l low high byte
  have joined : (l.flatMap fun b : Byte => [b]) = l := by simp
  rw [joined] at cut
  simp [cut, byteAt, Function.comp_def]

/-- The layout of a SET item reads back. -/
theorem readItem_bytes (x : Byte × BitVec 32) :
    (byteAt ([x.1] ++ leBytes 4 x.2.toNat) 0, fieldVec 32 ([x.1] ++ leBytes 4 x.2.toNat) 1 4) = x := by
  have value : fieldVec 32 ([x.1] ++ leBytes 4 x.2.toNat) 1 4 = x.2 := fieldVec32 x.2
  rw [value]
  rfl

/-- What the arguments of a known kind but LOAD TABLE and READ TABLE spell is the order they are read as. -/
theorem readOrder_readArgs {tag kind : Byte} {args : List Byte} {i : Instr} (known : 1 ≤ kind.toNat ∧ kind.toNat ≤ 21)
    (notLoad : kind ≠ 3) (notRead : kind ≠ 4) (read : readArgs tag kind args = some i) :
    readOrder ⟨tag, kind, args, true⟩ = .inr i := by
  have within : ¬ (kind.toNat = 0 ∨ 21 < kind.toNat) := by omega
  simp only [readOrder, Bool.true_eq_false, if_false, if_neg within, if_neg notLoad, if_neg notRead, read]

/-- The items of a SET read back. -/
theorem readOrder_set (tag : Byte) {items : List (Byte × BitVec 32)} (low : 1 ≤ items.length) (high : items.length ≤ 16) :
    readOrder ⟨tag, 1, counted items.length (items.flatMap fun i => [i.1] ++ leBytes 4 i.2.toNat), true⟩ =
      .inr (.set tag items) := by
  have cut := countedPieces_flatMap 5 16 (fun i : Byte × BitVec 32 => [i.1] ++ leBytes 4 i.2.toNat) (fun _ => rfl)
    items low high (by decide)
  have items' : (items.map fun i => [i.1] ++ leBytes 4 i.2.toNat).map (fun b => (byteAt b 0, fieldVec 32 b 1 4)) = items := by
    simp only [List.map_map, Function.comp_def, readItem_bytes, List.map_id']
  have read : readArgs tag 1 (counted items.length (items.flatMap fun i => [i.1] ++ leBytes 4 i.2.toNat)) =
      some (.set tag items) :=
    (congrArg (Option.map _) cut).trans (congrArg (fun l => some (Instr.set tag l)) items')
  exact readOrder_readArgs (by decide) (by decide) (by decide) read

/-- The codes of a GET read back. -/
theorem readOrder_get (tag : Byte) {codes : List Byte} (low : 1 ≤ codes.length) (high : codes.length ≤ 16) :
    readOrder ⟨tag, 2, counted codes.length codes, true⟩ = .inr (.get tag codes) := by
  have cut := countedPieces_bytes low high (by decide)
  have read : readArgs tag 2 (counted codes.length codes) = some (.get tag codes) := by
    obtain ⟨l, cut, rfl⟩ := Option.map_eq_some_iff.mp cut
    exact congrArg (Option.map _) cut
  exact readOrder_readArgs (by decide) (by decide) (by decide) read

/-- What LOAD TABLE arguments spell is the order they are read as. -/
theorem readOrder_loadTable {tag table : Byte} {rest : List Byte} {i : Instr} (nonempty : rest ≠ []) (known : table.toNat ≤ 3)
    (read : readLoadTable tag table rest = some i) : readOrder ⟨tag, 3, [table] ++ rest, true⟩ = .inr i := by
  have within : ¬ 3 < table.toNat := Nat.not_lt.mpr known
  simp [readOrder, read, nonempty, within]

/-- A counted list is not empty. -/
theorem counted_ne_nil (n : Nat) (bs : List Byte) : counted n bs ≠ [] := by simp [counted, leBytes]

/-- The entries of a channel table read back. -/
theorem readLoadTable_channel (tag : Byte) {entries : List ChannelArg} (low : 1 ≤ entries.length)
    (high : entries.length ≤ 8) (fits : ∀ a ∈ entries, ChannelArg.fits a = true) :
    readLoadTable tag 0 (counted entries.length (entries.flatMap ChannelArg.bytes)) =
      some (.loadTableChannel tag entries) := by
  have cut := countedPieces_flatMap 8 8 ChannelArg.bytes (fun _ => rfl) entries low high (by decide)
  have read := allSome_map ChannelArg.bytes readChannelArg entries fun a member => readChannelArg_bytes a (fits a member)
  simp only [readLoadTable, if_true, cut, Option.bind_some, read, Option.map_some]

/-- The entries of a pass table read back. -/
theorem readLoadTable_pass (tag : Byte) {entries : List PassArg} (low : 1 ≤ entries.length)
    (high : entries.length ≤ 4) (fits : ∀ a ∈ entries, PassArg.fits a = true) :
    readLoadTable tag 1 (counted entries.length (entries.flatMap PassArg.bytes)) = some (.loadTablePass tag entries) := by
  have cut := countedPieces_flatMap 3 4 PassArg.bytes (fun _ => rfl) entries low high (by decide)
  have read := allSome_map PassArg.bytes readPassArg entries fun a member => readPassArg_bytes a (fits a member)
  have name : (1 : Byte) ≠ 0 := by decide
  simp only [readLoadTable, if_neg name, if_true, cut, Option.bind_some, read, Option.map_some]

/-- The profiles of a limit table read back. -/
theorem readLoadTable_limit (tag : Byte) {entries : List LimitArg} (low : 1 ≤ entries.length)
    (high : entries.length ≤ 4) :
    readLoadTable tag 2 (counted entries.length (entries.flatMap LimitArg.bytes)) =
      some (.loadTableLimit tag entries) := by
  have cut := countedPieces_flatMap 13 4 LimitArg.bytes (fun _ => rfl) entries low high (by decide)
  simp [readLoadTable, cut, Function.comp_def, readLimitArg_bytes]

/-- The lists of a grid table read back. -/
theorem readLoadTable_grid (tag : Byte) {lists : List GridArg} (low : 1 ≤ lists.length) (high : lists.length ≤ 3)
    (fits : ∀ a ∈ lists, a.fits = true) :
    readLoadTable tag 3 (counted lists.length (lists.flatMap GridArg.bytes)) = some (.loadTableGrid tag lists) := by
  have count : (byteOf lists.length).toNat = lists.length := byteOf_small _ (by omega)
  simp [readLoadTable, counted, leBytes, count, low, high, readGridArgs_bytes lists fits]

/-- The entries of a MAP LOAD read back. -/
theorem readOrder_mapLoad (tag : Byte) (start : BitVec 16) {sectors : List (BitVec 16)} (low : 1 ≤ sectors.length)
    (high : sectors.length ≤ 64) :
    readOrder ⟨tag, 13, leBytes 2 start.toNat ++ counted sectors.length (sectors.flatMap fun p => leBytes 2 p.toNat), true⟩ =
      .inr (.mapLoad tag start sectors) := by
  have cut := countedPieces_flatMap 2 64 (fun p : BitVec 16 => leBytes 2 p.toNat) (fun _ => rfl) sectors low high (by decide)
  have sectors' : (sectors.map fun p => leBytes 2 p.toNat).map (fun b => fieldVec 16 b 0 2) = sectors := by
    simp only [List.map_map, Function.comp_def, fieldVec16, List.map_id']
  have start' : fieldVec 16 (leBytes 2 start.toNat ++
      counted sectors.length (sectors.flatMap fun p => leBytes 2 p.toNat)) 0 2 = start := fieldVec16 start
  have read : readArgs tag 13 (leBytes 2 start.toNat ++
      counted sectors.length (sectors.flatMap fun p => leBytes 2 p.toNat)) = some (.mapLoad tag start sectors) :=
    (congrArg (Option.map _) cut).trans (by rw [Option.map_some, sectors', start'])
  exact readOrder_readArgs (by decide) (by decide) (by decide) read

/-- The data of a MODULE WRITE read back. -/
theorem readOrder_moduleWrite (tag address offset : Byte) {data : List Byte} (low : 1 ≤ data.length)
    (high : data.length ≤ 16) :
    readOrder ⟨tag, 19, [address, offset] ++ counted data.length data, true⟩ =
      .inr (.moduleWrite tag address offset data) := by
  have cut := countedPieces_bytes low high (by decide)
  have read : readArgs tag 19 ([address, offset] ++ counted data.length data) =
      some (.moduleWrite tag address offset data) := by
    obtain ⟨l, cut, rfl⟩ := Option.map_eq_some_iff.mp cut
    exact congrArg (Option.map _) cut
  exact readOrder_readArgs (by decide) (by decide) (by decide) read

/-- An order of a kind outside the table is UNKNOWN (R187). -/
theorem readOrder_unknownKind {tag kind : Byte} (args : List Byte) (outside : kind.toNat = 0 ∨ 21 < kind.toNat) :
    readOrder ⟨tag, kind, args, true⟩ = .inl .unknown := by
  simp [readOrder, outside]

/-- An order of a known kind that fits its layout is read back as that order (R187). -/
theorem readOrder_orderOf {i : Instr} {o : Order} (spelt : orderOf i = some o) (fits : i.fits = true)
    (known : ∀ tag kind args, i ≠ .orderUnknownKind tag kind args) : readOrder o = .inr i := by
  cases i with
  | orderUnknownKind tag kind args => exact absurd rfl (known tag kind args)
  | set tag items =>
    obtain rfl := Option.some.inj spelt
    simp only [Instr.fits, countIn, decide_eq_true_eq] at fits
    exact readOrder_set tag fits.1 fits.2
  | get tag codes =>
    obtain rfl := Option.some.inj spelt
    simp only [Instr.fits, countIn, decide_eq_true_eq] at fits
    exact readOrder_get tag fits.1 fits.2
  | loadTableChannel tag entries =>
    obtain rfl := Option.some.inj spelt
    simp only [Instr.fits, countIn, Bool.and_eq_true, decide_eq_true_eq, List.all_eq_true] at fits
    exact readOrder_loadTable (counted_ne_nil _ _) (by decide) (readLoadTable_channel tag fits.1.1 fits.1.2 fits.2)
  | loadTablePass tag entries =>
    obtain rfl := Option.some.inj spelt
    simp only [Instr.fits, countIn, Bool.and_eq_true, decide_eq_true_eq, List.all_eq_true] at fits
    exact readOrder_loadTable (counted_ne_nil _ _) (by decide) (readLoadTable_pass tag fits.1.1 fits.1.2 fits.2)
  | loadTableLimit tag entries =>
    obtain rfl := Option.some.inj spelt
    simp only [Instr.fits, countIn, decide_eq_true_eq] at fits
    exact readOrder_loadTable (counted_ne_nil _ _) (by decide) (readLoadTable_limit tag fits.1 fits.2)
  | loadTableGrid tag lists =>
    simp only [Instr.fits, countIn, Bool.and_eq_true, decide_eq_true_eq] at fits
    obtain ⟨⟨low, high⟩, all⟩ := fits
    simp only [orderOf, all, Option.some.injEq] at spelt
    obtain rfl := spelt
    exact readOrder_loadTable (counted_ne_nil _ _) (by decide)
      (readLoadTable_grid tag low high (List.all_eq_true.mp all))
  | mapLoad tag start sectors =>
    obtain rfl := Option.some.inj spelt
    simp only [Instr.fits, countIn, decide_eq_true_eq] at fits
    exact readOrder_mapLoad tag start fits.1 fits.2
  | moduleWrite tag address offset data =>
    obtain rfl := Option.some.inj spelt
    simp only [Instr.fits, countIn, decide_eq_true_eq] at fits
    exact readOrder_moduleWrite tag address offset fits.1 fits.2
  | ack tag mask =>
    obtain rfl := Option.some.inj spelt
    exact congrArg (fun x => Sum.inr (Instr.ack tag x)) (fieldVec32 mask)
  | release tag w =>
    obtain rfl := Option.some.inj spelt
    exact congrArg (fun x => Sum.inr (Instr.release tag x)) (fieldVec32 w)
  | readRecords tag first count =>
    obtain rfl := Option.some.inj spelt
    exact congrArg₂ (fun x y => Sum.inr (Instr.readRecords tag x y)) (fieldVec32 first) (fieldVec16 count)
  | readTableChannel | readTablePass | readTableLimit | readTableGrid | start | stop | restart | capture | status
  | mount | format | unmount | cancelRead | moduleRead | moduleFetch | moduleAbort =>
    obtain rfl := Option.some.inj spelt
    rfl
  | _ => exact absurd spelt (by simp [orderOf])

/-- Settles O9: kind by kind, the layout's fields read back. -/
theorem orderFormsRoundTrip : Obligations.OrderFormsRoundTrip := by
  unfold Obligations.OrderFormsRoundTrip
  intro i o spelt fits
  cases i with
  | orderUnknownKind tag kind args =>
    obtain rfl := Option.some.inj spelt
    simp only [Instr.fits, Bool.and_eq_true, Bool.or_eq_true, beq_iff_eq, decide_eq_true_eq] at fits
    exact readOrder_unknownKind args (fits.1.imp (fun zero => by rw [zero]; rfl) id)
  | _ => exact readOrder_orderOf spelt fits nofun

end Sys2Proof.Machine
end

section
/-! What the record queue and the ends of readbacks leave as it was, and what they leave in the queue: one view of the
state for each, with an equation for each operation. -/

namespace Sys2Proof.Machine

/-! ## The record queue (R135 to R139) -/

/-- The state but for the record queue and what a departure or a lost record touches: the Capture Unit, the count of
departures in the head sector, and the latched flags. -/
def recordless (s : State) : State :=
  ((((s.setRq State.reset.rq).setCu State.reset.cu).setSw { s.sw with headDepartures := 0 })).setSl
    { s.sl with latched := 0 }

section
variable (s : State)

@[simp] theorem recordless_setRq (x : RQ) : recordless (s.setRq x) = recordless s := rfl

@[simp] theorem recordless_latch (f : Flag) : recordless (latch f s) = recordless s := rfl

@[simp] theorem recordless_releaseCapture : recordless (releaseCapture s) = recordless s := by
  unfold releaseCapture
  split <;> rfl

@[simp] theorem recordless_departed (e : Entry) : recordless (departed s e) = recordless s := by
  unfold departed
  dsimp only
  split
  · rw [recordless_releaseCapture]
    split <;> rfl
  · split <;> rfl

/-- A fold of steps that leave a view leaves it. -/
theorem foldl_view {α β : Type} {view : State → β} {f : State → α → State} (step : ∀ u a, view (f u a) = view u)
    (l : List α) : view (l.foldl f s) = view s := by
  induction l generalizing s with
  | nil => rfl
  | cons a l ih => exact (ih (f s a)).trans (step s a)

@[simp] theorem recordless_sweep : recordless (sweep s) = recordless s :=
  (foldl_view _ recordless_departed _).trans rfl

@[simp] theorem recordless_countLost (n : Nat) : recordless (countLost n s) = recordless s := by
  unfold countLost
  split <;> rfl

@[simp] theorem recordless_handRecord (body : RecordBody) : recordless (handRecord body s).2 = recordless s := by
  unfold handRecord
  split
  · rfl
  · dsimp only
    split
    · exact (recordless_sweep _).trans rfl
    · exact (recordless_countLost _ _).trans rfl

@[simp] theorem recordless_settingsRecord (cause : SettingsCause) (applied : BitVec 8) :
    recordless (settingsRecord cause applied s) = recordless s := recordless_handRecord s _

/-! ## What a departure leaves of the queue -/

@[simp] theorem rq_releaseCapture : (releaseCapture s).rq = s.rq := by
  unfold releaseCapture
  split <;> rfl

@[simp] theorem sl_releaseCapture : (releaseCapture s).sl = s.sl := by
  unfold releaseCapture
  split <;> rfl

@[simp] theorem rq_departed (e : Entry) : (departed s e).rq = s.rq := by
  unfold departed
  dsimp only
  repeat' split
  all_goals simp

@[simp] theorem sl_departed (e : Entry) : (departed s e).sl = s.sl := by
  unfold departed
  dsimp only
  repeat' split
  all_goals simp

/-- The entries with both marks leave the queue, and the others stay in their order (R139). -/
@[simp] theorem rq_sweep : (sweep s).rq = { s.rq with entries := s.rq.entries.filter fun e => !e.leaves } :=
  (foldl_view (view := State.rq) _ rq_departed _).trans rfl

@[simp] theorem sl_sweep : (sweep s).sl = s.sl := (foldl_view (view := State.sl) _ sl_departed _).trans rfl

end

/-! ## A record handed over (R136, R137) -/

/-- Whether the queue has a slot, as R137 says it. -/
theorem hasSlot_iff (isEnd : Bool) (entries : List Entry) :
    hasSlot isEnd entries = true ↔
      entries.length < 16 ∧ (isEnd = true ∨ (entries.filter fun e => !e.record.body.isEnd).length < 15) := by
  simp [hasSlot]

/-- The number that a record created now takes. -/
theorem recordNumber_of {s : State} {n : Nat} (state : s.sr.state = .mounted ∨ s.sr.state = .faulted)
    (next : s.rq.next = .number n) : recordNumber s = some n := by
  rcases state with state | state <;> simp [recordNumber, state, next]

/-- Without a sequence, or in another store state, no record is created. -/
theorem recordNumber_none {s : State}
    (h : (s.sr.state ≠ .mounted ∧ s.sr.state ≠ .faulted) ∨ ∀ n, s.rq.next ≠ .number n) : recordNumber s = none := by
  cases number : recordNumber s with
  | none => rfl
  | some n =>
    obtain ⟨state, next⟩ := recordNumber_some number
    rcases h with ⟨notMounted, notFaulted⟩ | noNumber
    · exact absurd state (not_or.mpr ⟨notMounted, notFaulted⟩)
    · exact absurd next (noNumber n)

/-- The queue with a number taken, the interval loss count read by an INTERVAL record (R136, R138). -/
def RQ.numbered (q : RQ) (n : Nat) (body : RecordBody) : RQ :=
  { q with next := nextAfter n, intervalLoss := if body.isInterval then 0 else q.intervalLoss }

/-- A record that finds a slot enters at the back, and what has both marks leaves (R137, R139). -/
theorem handRecord_entered {s : State} {n : Nat} {body : RecordBody} (number : recordNumber s = some n)
    (slot : hasSlot body.isEnd s.rq.entries = true) :
    handRecord body s =
      (.entered n, sweep (s.setRq { s.rq.numbered n body with
        entries := s.rq.entries ++ [newEntry (s.setRq (s.rq.numbered n body)) (formRecord s n body)] })) := by
  simp only [handRecord, number, slot, if_true]
  rfl

/-- A record that finds no slot is lost under its number (R137). -/
theorem handRecord_lost {s : State} {n : Nat} {body : RecordBody} (number : recordNumber s = some n)
    (slot : ¬ hasSlot body.isEnd s.rq.entries = true) :
    handRecord body s = (.lost n, countLost 1 (s.setRq (s.rq.numbered n body))) := by
  simp only [handRecord, number, slot, if_false]
  rfl

/-- Settles O43: the record is not created, enters or is lost, by its number and by the slots of the queue. -/
theorem recordsNumberedAndQueued : Obligations.RecordsNumberedAndQueued := by
  unfold Obligations.RecordsNumberedAndQueued
  intro s body r slot loss
  refine ⟨fun h => handRecord_notCreated (recordNumber_none h) body, fun n state next => ?_⟩
  have number := recordNumber_of state next
  by_cases room : hasSlot body.isEnd s.rq.entries = true
  · have result : r = _ := handRecord_entered number room
    have queue : r.2.rq = _ := (congrArg (fun x => x.2.rq) result).trans (rq_sweep _)
    refine ⟨by rw [queue]; rfl, fun _ => ⟨by rw [result], by rw [queue]; rfl, ?_, ?_⟩,
      fun full => absurd ((hasSlot_iff _ _).mp room) full⟩
    · rw [result]
      exact sl_sweep _
    · refine ⟨newEntry (s.setRq (s.rq.numbered n body)) (formRecord s n body), rfl, rfl, rfl, rfl, rfl, rfl, ?_, ?_, ?_⟩
      · simp [newEntry]
      · simp [newEntry]
      · rw [queue]
        rfl
  · have result : r = _ := handRecord_lost number room
    refine ⟨by rw [result]; rfl, fun free => absurd ((hasSlot_iff _ _).mpr free) room, fun _ => ?_⟩
    rw [result]
    exact ⟨rfl, rfl, rfl, rfl, rfl, rfl⟩

end Sys2Proof.Machine
end

section
/-! The ends of readbacks and the entry into FAULTED (R154, R172), and the link reports that end readbacks too (R185). -/

namespace Sys2Proof.Machine

/-! ## What the end of a readback leaves (R171, R172) -/

/-- The state but for what the end of a readback changes: the readback queue, the current readback, the piece held, the
operation in flight, and the reply queue with its reserved places. -/
def readerless (s : State) : State :=
  (s.setSr { s.sr with queue := [], current := none, piece := none, flight := none }).setSl
    { s.sl with replies := [], reserved := 0 }

/-- The replies formed between two states stand at the back of the reply queue, and there are none while the link is
DOWN (R188). -/
def RepliesGrow (s t : State) : Prop :=
  s.sl.replies <+: t.sl.replies ∧ (s.sl.linkUp = false → t.sl.replies = s.sl.replies) ∧ t.sl.linkUp = s.sl.linkUp

theorem RepliesGrow.refl (s : State) : RepliesGrow s s := ⟨List.prefix_refl _, fun _ => rfl, rfl⟩

theorem RepliesGrow.of_sl {s t : State} (h : t.sl = s.sl) : RepliesGrow s t :=
  ⟨by rw [h], fun _ => by rw [h], by rw [h]⟩

theorem RepliesGrow.trans {s t u : State} (h : RepliesGrow s t) (g : RepliesGrow t u) : RepliesGrow s u := by
  obtain ⟨hp, hd, hl⟩ := h
  obtain ⟨gp, gd, gl⟩ := g
  exact ⟨hp.trans gp, fun down => (gd (hl.trans down)).trans (hd down), gl.trans hl⟩

section
variable (s : State)

/-- A final reply grows the reply queue. -/
theorem repliesGrow_finalReply (r : Reply) : RepliesGrow s (finalReply r s) := by
  cases link : s.sl.linkUp
  · simp [RepliesGrow, finalReply, formReply, link]
  · simp [RepliesGrow, finalReply, formReply, link]

/-- A fold of steps that grow the reply queue grows it. -/
theorem repliesGrow_foldl {α : Type} {f : State → α → State} (step : ∀ u a, RepliesGrow u (f u a)) (l : List α) :
    RepliesGrow s (l.foldl f s) := by
  induction l generalizing s with
  | nil => exact .refl s
  | cons a l ih => exact (step s a).trans (ih (f s a))

@[simp] theorem readerless_setSr_queue (queue : List ReadOrder) (current : Option Readback) :
    readerless (s.setSr { s.sr with queue := queue, current := current }) = readerless s := rfl

@[simp] theorem readerless_finalReply (r : Reply) : readerless (finalReply r s) = readerless s := by
  unfold finalReply formReply
  split <;> rfl

@[simp] theorem sr_finalReply (r : Reply) : (finalReply r s).sr = s.sr := by
  unfold finalReply formReply
  split <;> rfl

@[simp] theorem rq_finalReply (r : Reply) : (finalReply r s).rq = s.rq := by
  have h := congrArg State.rq (readerless_finalReply s r)
  exact h

@[simp] theorem ia_finalReply (r : Reply) : (finalReply r s).ia = s.ia := by
  have h := congrArg State.ia (readerless_finalReply s r)
  exact h

@[simp] theorem readerless_replyDone (tag : Byte) (kind : Nat) (cancelled : Bool) (body : List Byte) :
    readerless (replyDone tag kind cancelled body s) = readerless s := readerless_finalReply s _

@[simp] theorem readerless_replyFailed (tag : Byte) (kind : Nat) (reason : Reason) (body : List Byte) :
    readerless (replyFailed tag kind reason body s) = readerless s := readerless_finalReply s _

@[simp] theorem readerless_answerWaiters (waiters : List Byte) : readerless (answerWaiters waiters s) = readerless s :=
  foldl_view (view := readerless) _ (fun u _ => readerless_finalReply u _) _

@[simp] theorem sr_answerWaiters (waiters : List Byte) : (answerWaiters waiters s).sr = s.sr :=
  foldl_view (view := State.sr) _ (fun u _ => sr_finalReply u _) _

@[simp] theorem readerless_startReadback : readerless (startReadback s) = readerless s := by
  unfold startReadback
  split <;> rfl

@[simp] theorem readerless_orphanRead : readerless (orphanRead s) = readerless s := by
  unfold orphanRead
  repeat' split
  all_goals rfl

@[simp] theorem sl_orphanRead : (orphanRead s).sl = s.sl := by
  unfold orphanRead
  repeat' split
  all_goals rfl

@[simp] theorem sl_startReadback : (startReadback s).sl = s.sl := by
  unfold startReadback
  split <;> rfl

/-- What a readback's end makes of the reader, by the orders behind it. -/
theorem endReadback_eq {o : ReadOrder} {rest : List ReadOrder} {r : Readback} (queue : s.sr.queue = o :: rest)
    (current : s.sr.current = some r) (cancelled failed : Bool) :
    endReadback cancelled failed s =
      startReadback (answerWaiters r.waiters
        (let t := queueLeft rest (orphanRead s)
        if failed then replyFailed o.tag 16 .fault (readbackBody o r.outcomes) t
        else replyDone o.tag 16 cancelled (readbackBody o r.outcomes) t)) := by
  simp only [endReadback, queue, current]
  rfl

@[simp] theorem readerless_endReadback (cancelled failed : Bool) :
    readerless (endReadback cancelled failed s) = readerless s := by
  unfold endReadback
  split
  · dsimp only
    rw [readerless_startReadback, readerless_answerWaiters]
    split <;> simp
  · rfl

@[simp] theorem readerless_endQueued (cancelled failed : Bool) :
    readerless (endQueued cancelled failed s) = readerless s := by
  refine (foldl_view (view := readerless) _ (fun u o => ?_) _).trans rfl
  split <;> simp

@[simp] theorem sr_endQueued (cancelled failed : Bool) :
    (endQueued cancelled failed s).sr = { s.sr with queue := s.sr.queue.take 1 } := by
  refine (foldl_view (view := State.sr) _ (fun u o => ?_) _).trans rfl
  split <;> exact sr_finalReply u _

@[simp] theorem readerless_closeRecord (mark : PieceMark) (counted : Bool) :
    readerless (closeRecord mark counted s) = readerless s := by
  unfold closeRecord
  repeat' split
  all_goals rfl

@[simp] theorem readerless_closeDamaged : readerless (closeDamaged s) = readerless s := by
  unfold closeDamaged
  split
  · exact readerless_closeRecord s _ _
  · exact readerless_closeRecord s _ _

@[simp] theorem readerless_endReadbacksFaulted : readerless (endReadbacksFaulted s) = readerless s := by
  unfold endReadbacksFaulted
  split
  · rfl
  · simp

@[simp] theorem readerless_endReadbacksLinkDown : readerless (endReadbacksLinkDown s) = readerless s := by
  unfold endReadbacksLinkDown
  dsimp only
  split
  · rfl
  · simp only [readerless_endReadback, readerless_endQueued]
    rfl

/-! ## The replies of the readbacks that end -/

theorem repliesGrow_endReadback (cancelled failed : Bool) : RepliesGrow s (endReadback cancelled failed s) := by
  unfold endReadback
  split
  · next o rest r _ _ =>
    dsimp only
    have orphaned : RepliesGrow s (queueLeft rest (orphanRead s)) := .of_sl (sl_orphanRead s)
    refine orphaned.trans (.trans ?_ (.trans (repliesGrow_foldl _ (fun u _ => repliesGrow_finalReply u _) _)
      (.of_sl (sl_startReadback _))))
    split <;> exact repliesGrow_finalReply _ _
  · exact .refl s

theorem repliesGrow_endQueued (cancelled failed : Bool) : RepliesGrow s (endQueued cancelled failed s) := by
  refine .trans (t := s.setSr { s.sr with queue := s.sr.queue.take 1 }) (.of_sl rfl) (repliesGrow_foldl _ (fun u o => ?_) _)
  split <;> exact repliesGrow_finalReply _ _

theorem repliesGrow_endReadbacksLinkDown : RepliesGrow s (endReadbacksLinkDown s) := by
  unfold endReadbacksLinkDown
  dsimp only
  split
  · exact .of_sl rfl
  · next queue =>
    have dropped : RepliesGrow s (s.setSr { s.sr with piece := none }) := .of_sl rfl
    exact dropped.trans ((repliesGrow_endQueued _ _ _).trans (repliesGrow_endReadback _ _ _))

/-! ## No readback is left (R172) -/

/-- With the queued ones gone, the end of the current readback leaves none. -/
theorem sr_endReadback_last {o : ReadOrder} {r : Readback} (queue : s.sr.queue = [o]) (current : s.sr.current = some r)
    (cancelled failed : Bool) :
    (endReadback cancelled failed s).sr = { (orphanRead s).sr with queue := [], current := none } := by
  rw [endReadback_eq s queue current]
  have left : ∀ u : State, u.sr = { (orphanRead s).sr with queue := [], current := none } →
      (startReadback (answerWaiters r.waiters u)).sr = { (orphanRead s).sr with queue := [], current := none } := by
    intro u h
    have waited := (sr_answerWaiters u r.waiters).trans h
    have gone : (answerWaiters r.waiters u).sr.queue = [] := by rw [waited]
    unfold startReadback
    rw [gone]
    split
    · contradiction
    · exact waited
  refine left _ ?_
  dsimp only
  split <;> exact sr_finalReply _ _

/-- The queued readbacks and then the current one end: none is left. -/
theorem sr_endReadback_endQueued (held : ReadbackWf s) (nonempty : s.sr.queue ≠ []) (cancelled failed cancelled' failed' : Bool) :
    ∃ flight, (endReadback cancelled failed (endQueued cancelled' failed' s)).sr =
      { s.sr with queue := [], current := none, flight := flight } := by
  obtain ⟨r, current⟩ := Option.isSome_iff_exists.mp (held.mpr nonempty)
  obtain ⟨o, rest, queue⟩ := List.exists_cons_of_ne_nil nonempty
  have sr : (endQueued cancelled' failed' s).sr = { s.sr with queue := [o] } := by simp [queue]
  refine ⟨(orphanRead (endQueued cancelled' failed' s)).sr.flight, ?_⟩
  rw [sr_endReadback_last _ (o := o) (r := r) (by rw [sr]) (by rw [sr]; exact current)]
  unfold orphanRead
  repeat' split
  all_goals rw [sr]
  all_goals rfl

end

/-! ## The entry into FAULTED (R154) -/

/-- What the store's port and flash hold, but for the count of departures in the head sector: the writer, the cache, the
reader and the long store order in flight. -/
def storeSide (s : State) : SW × List Translation × SR × Option (LongOrder × Byte) :=
  ({ s.sw with headDepartures := 0 }, s.cache, s.sr, s.sl.storeOrder)

/-- What leaves all but the record queue leaves the store's side. -/
theorem storeSide_of_recordless {s t : State} (h : recordless t = recordless s) : storeSide t = storeSide s := by
  have sw := congrArg State.sw h
  have cache := congrArg State.cache h
  have sr := congrArg State.sr h
  have order := congrArg (fun x => x.sl.storeOrder) h
  simp only [storeSide, Prod.mk.injEq]
  exact ⟨sw, cache, sr, order⟩

section
variable (s : State)

@[simp] theorem storeSide_finalReply (r : Reply) : storeSide (finalReply r s) = storeSide s := by
  unfold finalReply formReply
  split <;> rfl

@[simp] theorem storeSide_applyPending (cause : SettingsCause) : storeSide (applyPending cause s) = storeSide s := by
  unfold applyPending
  split
  · rfl
  · exact (storeSide_of_recordless (recordless_settingsRecord _ _ _)).trans rfl

@[simp] theorem storeSide_enterStopped (outcome : Nat) : storeSide (enterStopped outcome s) = storeSide s := by
  refine (storeSide_applyPending _ _).trans ?_
  unfold answerStop
  split
  · rfl
  · exact (storeSide_finalReply _ _).trans rfl

@[simp] theorem storeSide_endRecordSettled (outcome : Nat) : storeSide (endRecordSettled outcome s) = storeSide s := by
  unfold endRecordSettled
  split
  · exact storeSide_enterStopped s _
  · rfl

/-! ## The entries of a FAULTED store (R139, R154) -/

/-- Every entry stands with its stored mark and without the emitted mark. -/
def Stood (s : State) : Prop := ∀ x ∈ s.rq.entries, x.stored = true ∧ x.emitted = false

/-- Of entries with their stored marks, those that stay have no emitted mark. -/
theorem stood_sweep {s : State} (stored : ∀ x ∈ s.rq.entries, x.stored = true) : Stood (sweep s) := by
  intro x member
  rw [rq_sweep] at member
  obtain ⟨member, stays⟩ := List.mem_filter.mp member
  have stored := stored x member
  simp only [Entry.leaves, stored, Bool.true_and, Bool.not_eq_true'] at stays
  exact ⟨stored, stays⟩

theorem stood_markAllStored : Stood (markAllStored s) := by
  refine stood_sweep fun x member => ?_
  obtain ⟨e, -, rfl⟩ := List.mem_map.mp member
  rfl

/-- A record handed over in FAULTED enters with its stored mark. -/
theorem stood_handRecord {s : State} (body : RecordBody) (faulted : s.sr.state = .faulted) (stood : Stood s) :
    Stood (handRecord body s).2 := by
  cases number : recordNumber s with
  | none =>
    rw [handRecord_notCreated number]
    exact stood
  | some n =>
    by_cases slot : hasSlot body.isEnd s.rq.entries = true
    · rw [handRecord_entered number slot]
      refine stood_sweep fun x member => ?_
      rcases List.mem_append.mp member with old | new
      · exact (stood x old).1
      · rw [List.mem_singleton.mp new]
        exact beq_iff_eq.mpr faulted
    · rw [handRecord_lost number slot]
      exact stood

theorem stood_enterStopped {s : State} (outcome : Nat) (faulted : s.sr.state = .faulted) (stood : Stood s) :
    Stood (enterStopped outcome s) := by
  have answered : ∀ t : State, t.sr = s.sr ∧ t.rq = s.rq → Stood (applyPending .stopped t) := by
    rintro t ⟨sr, rq⟩
    have stood : Stood t := by
      unfold Stood
      rw [rq]
      exact stood
    unfold applyPending
    split
    · exact stood
    · exact stood_handRecord (s := placePending t) _ ((congrArg SR.state sr).trans faulted) stood
  refine answered _ ?_
  unfold answerStop
  split
  · exact ⟨rfl, rfl⟩
  · exact ⟨sr_finalReply _ _, rq_finalReply _ _⟩

/-- After the work of a waiting STOP the campaign is not STOPPING (R131). -/
theorem campaign_endRecordSettled (outcome : Nat) :
    (endRecordSettled outcome s).ia.state = if s.ia.state = .stopping then .stopped else s.ia.state := by
  unfold endRecordSettled
  split
  · refine (campaign_of_restView (restView_applyPending _ _)).1.trans ?_
    unfold answerStop
    split
    · rfl
    · exact congrArg IA.state (ia_finalReply _ _)
  · rfl

/-! ## The flight and the readbacks of a store that faults -/

theorem flight_closeRecord (mark : PieceMark) (counted : Bool) : (closeRecord mark counted s).sr.flight = s.sr.flight := by
  unfold closeRecord
  repeat' split
  all_goals rfl

theorem flight_endReadback {s : State} (idle : s.sr.flight = none) (cancelled failed : Bool) :
    (endReadback cancelled failed s).sr.flight = none := by
  have orphaned : (orphanRead s).sr.flight = none := by
    unfold orphanRead
    simp [idle]
  have started : ∀ t : State, t.sr.flight = none → (startReadback t).sr.flight = none := by
    intro t h
    unfold startReadback
    split <;> exact h
  unfold endReadback
  split
  · refine started _ ((congrArg SR.flight (sr_answerWaiters _ _)).trans ?_)
    dsimp only
    split <;> exact (congrArg SR.flight (sr_finalReply _ _)).trans orphaned
  · exact idle

theorem flight_endReadbacksFaulted {s : State} (idle : s.sr.flight = none) : (endReadbacksFaulted s).sr.flight = none := by
  have closed : (closeDamaged s).sr.flight = none := by
    unfold closeDamaged
    split <;> exact (flight_closeRecord _ _ _).trans idle
  unfold endReadbacksFaulted
  split
  · exact idle
  · exact flight_endReadback (by rw [sr_endQueued]; exact closed) _ _

/-- The record in progress ends DAMAGED without an end of its readback. -/
theorem held_closeDamaged :
    (closeDamaged s).sr.queue = s.sr.queue ∧ (closeDamaged s).sr.current.isSome = s.sr.current.isSome := by
  have closed : ∀ mark counted, (closeRecord mark counted s).sr.queue = s.sr.queue ∧
      (closeRecord mark counted s).sr.current.isSome = s.sr.current.isSome := by
    intro mark counted
    unfold closeRecord
    repeat' split
    all_goals simp_all
  unfold closeDamaged
  split <;> exact closed _ _

theorem queue_endReadbacksFaulted {s : State} (held : ReadbackWf s) : (endReadbacksFaulted s).sr.queue = [] := by
  obtain ⟨queue, current⟩ := held_closeDamaged s
  unfold endReadbacksFaulted
  split
  · assumption
  · next nonempty =>
    have held : ReadbackWf (closeDamaged s) := by
      unfold ReadbackWf
      rw [queue, current]
      exact held
    obtain ⟨flight, sr⟩ := sr_endReadback_endQueued (closeDamaged s) held (by rwa [queue]) false true false true
    rw [sr]

/-! ## The fault itself -/

@[simp] theorem rq_storeOrderFailed : (storeOrderFailed s).rq = s.rq := by
  unfold storeOrderFailed
  split
  · rfl
  · exact rq_finalReply _ _

/-- The long store order in flight ends, and the rest of the store's side stays. -/
theorem storeSide_storeOrderFailed :
    storeSide (storeOrderFailed s) = ({ s.sw with headDepartures := 0 }, s.cache, s.sr, none) := by
  unfold storeOrderFailed
  split
  · next idle => simp [storeSide, idle]
  · exact storeSide_finalReply _ _

@[simp] theorem ia_storeOrderFailed : (storeOrderFailed s).ia = s.ia := by
  unfold storeOrderFailed
  split
  · rfl
  · exact ia_finalReply _ _

/-- The store with the state and cause of a fault, its writer's work dropped (R154). -/
def faultMarked (cause : FaultCause) (s : State) : State :=
  (s.setSr { s.sr with state := .faulted, cause := some cause, job := .none, jobTranslation := none }).setSw
    { s.sw.clearBuffer with tasks := [] }

/-- The store with the fault's state and cause, every entry with its stored mark and its readbacks ended, before a STOP that
waits is answered (R154). -/
def faultStands (cause : FaultCause) (s : State) : State :=
  let t := endReadbacksFaulted (markAllStored (faultMarked cause (storeOrderFailed s)))
  t.setSr { t.sr with flight := t.sr.flight.map fun f => { f with stale := true } }

theorem storeFault_eq {s : State} (notYet : s.sr.state ≠ .faulted) (cause : FaultCause) :
    storeFault cause s = endRecordSettled 1 (faultStands cause s) := if_neg notYet

@[simp] theorem recordless_markAllStored : recordless (markAllStored s) = recordless s := recordless_sweep _

/-- What the readbacks' ends and the marks of the entries leave of the fault's store. -/
theorem readerless_faultStands (cause : FaultCause) :
    readerless (faultStands cause s) = readerless (markAllStored (faultMarked cause (storeOrderFailed s))) :=
  Eq.trans (by rfl) (readerless_endReadbacksFaulted (markAllStored (faultMarked cause (storeOrderFailed s))))

/-- What ends readbacks leaves the writer, the cache and the long store order in flight. -/
theorem writer_of_readerless {s t : State} (h : readerless t = readerless s) :
    t.sw = s.sw ∧ t.cache = s.cache ∧ t.sl.storeOrder = s.sl.storeOrder ∧ t.ia = s.ia ∧ t.rq = s.rq ∧
      t.sr.state = s.sr.state ∧ t.sr.cause = s.sr.cause ∧ t.sr.holder = s.sr.holder ∧ t.sr.tenure = s.sr.tenure := by
  have sw := congrArg State.sw h
  have cache := congrArg State.cache h
  have order := congrArg (fun x => x.sl.storeOrder) h
  have ia := congrArg State.ia h
  have rq := congrArg State.rq h
  have state := congrArg (fun x => x.sr.state) h
  have cause := congrArg (fun x => x.sr.cause) h
  have holder := congrArg (fun x => x.sr.holder) h
  have tenure := congrArg (fun x => x.sr.tenure) h
  exact ⟨sw, cache, order, ia, rq, state, cause, holder, tenure⟩

/-- What the fault leaves of the store's side: no writer's work, no long store order, the cache, the holder and the tenure
count. -/
structure FaultLeaves (cause : FaultCause) (s t : State) : Prop where
  writer : { t.sw with headDepartures := 0 } = { s.sw.clearBuffer with tasks := [], headDepartures := 0 }
  cache : t.cache = s.cache
  order : t.sl.storeOrder = none
  state : t.sr.state = .faulted
  cause : t.sr.cause = some cause
  holder : t.sr.holder = s.sr.holder
  tenure : t.sr.tenure = s.sr.tenure
  flight : s.sr.flight = none → t.sr.flight = none
  readbacks : ReadbackWf s → t.sr.queue = []

theorem faultLeaves_faultStands (cause : FaultCause) : FaultLeaves cause s (faultStands cause s) := by
  have failed := storeSide_storeOrderFailed s
  obtain ⟨sw, cache, order, -, -, state, because, holder, tenure⟩ := writer_of_readerless (readerless_faultStands s cause)
  have swept := storeSide_of_recordless (recordless_markAllStored (faultMarked cause (storeOrderFailed s)))
  simp only [storeSide, Prod.mk.injEq] at failed swept
  obtain ⟨failedSw, failedCache, failedSr, failedOrder⟩ := failed
  obtain ⟨sweptSw, sweptCache, sweptSr, sweptOrder⟩ := swept
  refine ⟨?_, ?_, ?_, ?_, ?_, ?_, ?_, fun idle => ?_, fun held => ?_⟩
  · rw [sw, sweptSw]
    exact congrArg (fun x : SW => { x.clearBuffer with tasks := [] }) failedSw
  · rw [cache, sweptCache]
    exact failedCache
  · rw [order, sweptOrder]
    exact failedOrder
  · rw [state, sweptSr]
    rfl
  · rw [because, sweptSr]
    rfl
  · rw [holder, sweptSr]
    have h := congrArg SR.holder failedSr
    exact h
  · rw [tenure, sweptSr]
    have h := congrArg SR.tenure failedSr
    exact h
  · have before : (markAllStored (faultMarked cause (storeOrderFailed s))).sr.flight = none := by
      rw [sweptSr]
      exact (congrArg SR.flight failedSr).trans idle
    have ended := flight_endReadbacksFaulted before
    simp [faultStands, ended]
  · refine queue_endReadbacksFaulted (s := markAllStored (faultMarked cause (storeOrderFailed s))) ?_
    unfold ReadbackWf
    rw [sweptSr]
    have held' := held
    unfold ReadbackWf at held'
    rw [← failedSr] at held'
    exact held'

/-- The writer's fields of which a fault leaves the values. -/
theorem FaultLeaves.writerFields {cause : FaultCause} {s t : State} (h : FaultLeaves cause s t) :
    t.sw.buffer = [] ∧ t.sw.tasks = [] ∧ t.sw.serial = s.sw.serial ∧ t.sw.usable = s.sw.usable := by
  have buffer := congrArg SW.buffer h.writer
  have tasks := congrArg SW.tasks h.writer
  have serial := congrArg SW.serial h.writer
  have usable := congrArg SW.usable h.writer
  exact ⟨buffer, tasks, serial, usable⟩

/-- What leaves all but the record queue leaves the campaign. -/
theorem ia_of_recordless {s t : State} (h : recordless t = recordless s) : t.ia = s.ia := by
  have ia := congrArg State.ia h
  exact ia

theorem ia_faultStands (cause : FaultCause) : (faultStands cause s).ia = s.ia := by
  obtain ⟨-, -, -, ia, -⟩ := writer_of_readerless (readerless_faultStands s cause)
  rw [ia, ia_of_recordless (recordless_markAllStored _)]
  exact ia_storeOrderFailed s

theorem stood_faultStands (cause : FaultCause) : Stood (faultStands cause s) := by
  obtain ⟨-, -, -, -, rq, -⟩ := writer_of_readerless (readerless_faultStands s cause)
  unfold Stood
  rw [rq]
  exact stood_markAllStored _

/-- The answer to a STOP that waits leaves what the fault left of the store's side. -/
theorem FaultLeaves.endRecordSettled {cause : FaultCause} {s t : State} (h : FaultLeaves cause s t) (outcome : Nat) :
    FaultLeaves cause s (endRecordSettled outcome t) := by
  have settled := storeSide_endRecordSettled t outcome
  simp only [storeSide, Prod.mk.injEq] at settled
  obtain ⟨sw, cache, sr, order⟩ := settled
  exact ⟨sw.trans h.writer, cache.trans h.cache, order.trans h.order, sr ▸ h.state, sr ▸ h.cause, sr ▸ h.holder,
    sr ▸ h.tenure, sr ▸ h.flight, sr ▸ h.readbacks⟩

/-- The entry into FAULTED as the spec says it (R154), with what it leaves of the store's side. -/
theorem storeFaulted_storeFault {s : State} (notYet : s.sr.state ≠ .faulted) (cause : FaultCause) :
    StoreFaulted cause s (storeFault cause s) ∧ FaultLeaves cause s (storeFault cause s) := by
  have frame : StoreFrame s (storeFault cause s) := (keeps_storeFault cause (.refl s)).storeFrame
  have leaves := faultLeaves_faultStands s cause
  have settled := leaves.endRecordSettled 1
  obtain ⟨buffer, tasks, -, -⟩ := settled.writerFields
  have stood : Stood (endRecordSettled 1 (faultStands cause s)) := by
    unfold endRecordSettled
    split
    · exact stood_enterStopped _ leaves.state (stood_faultStands s cause)
    · exact stood_faultStands s cause
  rw [storeFault_eq notYet] at frame ⊢
  refine ⟨⟨settled.state, settled.cause, buffer, tasks, settled.order, settled.readbacks, stood, fun stopping => ?_, frame⟩,
    settled⟩
  rw [campaign_endRecordSettled, ia_faultStands, if_pos stopping]

end

/-- An operation that reaches its limit faults the store with the port free (R175). -/
theorem exec_storeOperationTimeout {s : State} {f : InFlight} (flight : s.sr.flight = some f) :
    exec .storeOperationTimeout s = .next (settle (storeFault .timeout (portFree (endOp s)))) := by
  have timeout : endTimeout s = storeFault .timeout (portFree (endOp s)) := by simp only [endTimeout, flight]
  exact congrArg (fun t => Host.Outcome.next (settle t)) timeout

/-- Settles O57: the flight ends, the port is free, and the store faults. -/
theorem storeTimeoutFaults : Obligations.StoreTimeoutFaults := by
  unfold Obligations.StoreTimeoutFaults
  intro s f flight notYet
  obtain ⟨faulted, leaves⟩ := storeFaulted_storeFault (s := portFree (endOp s)) notYet .timeout
  obtain ⟨-, -, serial, usable⟩ := leaves.writerFields
  exact ⟨_, exec_storeOperationTimeout flight,
    ⟨faulted.state, faulted.cause, faulted.buffer, faulted.tasks, faulted.order, faulted.readbacks, faulted.entries,
      faulted.campaign, faulted.frame⟩,
    leaves.flight rfl, leaves.holder, leaves.tenure, serial, usable, leaves.cache⟩

end Sys2Proof.Machine
end

section
/-! The ends of sector erases (R148, R153, R155, R156). -/

namespace Sys2Proof.Machine

/-- A fault of the landed part is a fault of the part: the operation in flight over makes no difference to what a fault
says. -/
theorem StoreFaulted.of_landed {cause : FaultCause} {s e : State} (h : StoreFaulted cause (landed s) e) :
    StoreFaulted cause s e :=
  ⟨h.state, h.cause, h.buffer, h.tasks, h.order, h.readbacks, h.entries, h.campaign, h.frame⟩

/-- A fault of the landed part, as the spec says it. -/
theorem storeFaulted_landed {s : State} (notYet : s.sr.state ≠ .faulted) (cause : FaultCause) :
    StoreFaulted cause s (storeFault cause (landed s)) :=
  (storeFaulted_storeFault (s := landed s) notYet cause).1.of_landed

section
variable {s : State} {a n : Nat}

/-- The end of the writer's erase is the writer's, with the port free for its next choice. -/
theorem endErase_writer (flight : s.sr.flight = some ⟨.erase a, some .writer, n, false⟩) (ok : Bool) :
    endErase ok s = (if ok then headErasedNow else headEraseFailed) (landed s) := by
  simp only [endErase, flight, awaited, Bool.false_eq_true, if_false]
  rfl

/-- The end of FORMAT's erase. -/
theorem endErase_format {sector : Nat} {retiring : Bool} {first : Option Nat}
    (flight : s.sr.flight = some ⟨.erase a, none, n, false⟩) (job : s.sr.job = .format sector retiring first) (ok : Bool) :
    endErase ok s = formatErased sector first ok (landed s) := by
  simp only [endErase, flight, job, awaited, Bool.false_eq_true, if_false]
  rfl

/-- The end of the map sector's erase. -/
theorem endErase_map {start done : Nat} {erase : Bool} {left : List Nat}
    (flight : s.sr.flight = some ⟨.eraseMap, none, n, false⟩) (job : s.sr.job = .mapLoad start erase left done) (ok : Bool) :
    endErase ok s = mapErased start left ok (landed s) := by
  simp only [endErase, flight, job, awaited, Bool.false_eq_true, if_false]
  rfl

theorem exec_sectorEraseDone (s : State) : exec .sectorEraseDone s = .next (settle (endErase true s)) := rfl

theorem exec_sectorEraseFailed (s : State) : exec .sectorEraseFailed s = .next (settle (endErase false s)) := rfl

end

/-- Settles O53: the end goes to the one whose erase it is, and a failed one retires the sector in MAPPED or faults the
store. -/
theorem sectorEraseEnds : Obligations.SectorEraseEnds := by
  unfold Obligations.SectorEraseEnds
  intro s a n notYet
  simp only [exec_sectorEraseDone, exec_sectorEraseFailed]
  refine ⟨fun h flight head => ?_, fun sector retiring first flight job => ?_, fun start erase left done flight job => ?_⟩
  · rw [endErase_writer flight, endErase_writer flight]
    refine ⟨rfl, fun mode => ?_, fun mode => ⟨_, rfl, ?_⟩⟩
    · have failed : headEraseFailed (landed s) =
          (landed s).setSw { s.sw with tasks := [.retire h.sector false] } := by
        simp only [headEraseFailed, landed, State.setSr_sw, mode, head]
      exact congrArg (fun t => Host.Outcome.next (settle t)) failed
    · have failed : headEraseFailed (landed s) = storeFault .erase (landed s) := by
        simp only [headEraseFailed, landed, State.setSr_sw, mode]
      rw [if_neg Bool.false_ne_true, failed]
      exact storeFaulted_landed notYet .erase
  · rw [endErase_format flight job, endErase_format flight job]
    refine ⟨rfl, fun mode => ?_, fun mode => ⟨_, rfl, ?_⟩⟩
    · have failed : formatErased sector first false (landed s) =
          (landed s).setSr { s.sr with flight := none, job := .format sector true first } := by
        simp [formatErased, landed, mode]
      exact congrArg (fun t => Host.Outcome.next (settle t)) failed
    · have failed : formatErased sector first false (landed s) = storeFault .erase (landed s) := by
        simp [formatErased, landed, mode]
      exact failed ▸ storeFaulted_landed notYet .erase
  · rw [endErase_map flight job, endErase_map flight job]
    exact ⟨rfl, _, rfl, storeFaulted_landed notYet .map⟩

end Sys2Proof.Machine
end

section
/-! The station link (section 11.1): the link reports, frames that do not check, and how orders reach the order buffer. -/

namespace Sys2Proof.Machine

/-! ## Link reports (R185) -/

theorem exec_linkUp (s : State) : exec .linkUp s = .next (settle (linkRises s)) := rfl

/-- At the link-down report, when the link was UP, the link's queues empty and every readback ends (R185). -/
theorem linkFalls_up {s : State} (up : s.sl.linkUp = true) :
    linkFalls s = endReadbacksLinkDown (markAllEmitted
      ((s.setSl { s.sl with linkUp := false, replies := [], live := none, tx := none }).setCc { s.cc with buffer := [] })) := by
  simp only [linkFalls, up, if_true]
  rfl

/-- The end of a readback leaves the piece held. -/
theorem piece_endReadback (cancelled failed : Bool) (s : State) :
    (endReadback cancelled failed s).sr.piece = s.sr.piece := by
  have orphaned : (orphanRead s).sr.piece = s.sr.piece := by
    unfold orphanRead
    repeat' split
    all_goals rfl
  have started : ∀ t : State, (startReadback t).sr.piece = t.sr.piece := by
    intro t
    unfold startReadback
    split <;> rfl
  unfold endReadback
  split
  · refine (started _).trans ((congrArg SR.piece (sr_answerWaiters _ _)).trans ?_)
    dsimp only
    split <;> exact (congrArg SR.piece (sr_finalReply _ _)).trans orphaned
  · rfl

/-- The piece held is gone as the readbacks end with the link, and so is every readback (R172). -/
theorem sr_endReadbacksLinkDown (s : State) :
    (endReadbacksLinkDown s).sr.piece = none ∧
      (ReadbackWf s → (endReadbacksLinkDown s).sr.queue = [] ∧ (endReadbacksLinkDown s).sr.current = none) := by
  unfold endReadbacksLinkDown
  dsimp only
  split
  · next queue =>
    exact ⟨rfl, fun held => ⟨queue, Option.not_isSome_iff_eq_none.mp fun some => held.mp some queue⟩⟩
  · next nonempty =>
    refine ⟨?_, fun held => ?_⟩
    · rw [piece_endReadback, sr_endQueued]
      rfl
    · obtain ⟨flight, sr⟩ :=
        sr_endReadback_endQueued (s.setSr { s.sr with piece := none }) held nonempty true false true false
      rw [sr]
      exact ⟨rfl, rfl⟩

/-- Settles O29: the link-up report makes the arbiter choose; at the link-down report the queues are emptied first, then the
entries are marked, then the readbacks end, and a reply formed while the link is DOWN is discarded. -/
theorem linkReports : Obligations.LinkReports := by
  unfold Obligations.LinkReports
  refine ⟨fun s => ⟨linkRises s, exec_linkUp s, ?_, fun down => ?_⟩, fun s up => ⟨linkFalls s, rfl, ?_⟩⟩
  · unfold linkRises
    split
    · assumption
    · have link := congrArg (fun x => x.2.1) (waitOf_sendFirst (s.setSl { s.sl with linkUp := true }))
      exact link
  · rw [exec_linkUp, linkRises, down, if_neg Bool.false_ne_true]
  · have clock := clockOf_linkFalls s
    rw [linkFalls_up up] at clock ⊢
    simp only [clockOf, Prod.mk.injEq] at clock
    obtain ⟨lr, mm, ct, tb⟩ := clock
    generalize cleared : (s.setSl { s.sl with linkUp := false, replies := [], live := none, tx := none }).setCc
      { s.cc with buffer := [] } = t at *
    have sl : (markAllEmitted t).sl = t.sl := sl_sweep _
    have sr : (markAllEmitted t).sr = s.sr := by
      have kept := congrArg (fun x => x.2.2.2.2.2.1) (restView_sweep
        (t.setRq { t.rq with entries := t.rq.entries.map fun e => { e with emitted := true } }))
      exact kept.trans (by rw [← cleared]; rfl)
    obtain ⟨-, discarded, link⟩ := repliesGrow_endReadbacksLinkDown (markAllEmitted t)
    have kept := readerless_endReadbacksLinkDown (markAllEmitted t)
    have live := congrArg (fun x => x.sl.live) kept
    have tx := congrArg (fun x => x.sl.tx) kept
    have cc := congrArg State.cc kept
    have rq := congrArg State.rq kept
    obtain ⟨piece, readbacks⟩ := sr_endReadbacksLinkDown (markAllEmitted t)
    refine ⟨?_, ?_, ?_, ?_, ?_, piece, fun held => readbacks ?_, ?_, lr, mm, ct, tb⟩
    · rw [link, sl, ← cleared]
      rfl
    · rw [discarded (by rw [sl, ← cleared]; rfl), sl, ← cleared]
      rfl
    · have before : (markAllEmitted t).sl.live = none := by rw [sl, ← cleared]; rfl
      exact live.trans before
    · have before : (markAllEmitted t).sl.tx = none := by rw [sl, ← cleared]; rfl
      exact tx.trans before
    · have emptied := congrArg State.cc (recordless_sweep
        (t.setRq { t.rq with entries := t.rq.entries.map fun e => { e with emitted := true } }))
      refine (congrArg CC.buffer (cc.trans emptied)).trans ?_
      rw [← cleared]
      rfl
    · unfold ReadbackWf
      rw [sr]
      exact held
    · intro e member
      have member' : e ∈ (markAllEmitted t).rq.entries := by
        have queue : (endReadbacksLinkDown (markAllEmitted t)).rq = (markAllEmitted t).rq := rq
        rw [← queue]
        exact member
      have marked : (markAllEmitted t).rq.entries =
          (t.rq.entries.map fun e => { e with emitted := true }).filter fun e => !e.leaves :=
        congrArg RQ.entries (rq_sweep _)
      rw [marked] at member'
      obtain ⟨x, -, rfl⟩ := List.mem_map.mp (List.mem_filter.mp member').1
      rfl

/-! ## Frames that do not check (R185) -/

/-- A frame that does not check latches LINK_ERROR while the link is UP, and changes nothing while it is DOWN, whichever
command brings it. -/
theorem discard_cases {s : State} {frame : List Byte} (bad : readLinkFrame frame = .discard) (periods : Nat) :
    (s.sl.linkUp = true → discardedFrame frame s = latch .linkError s ∧ orderFrame frame s = latch .linkError s ∧
      markFrame frame periods s = latch .linkError s) ∧
    (s.sl.linkUp = false → discardedFrame frame s = s ∧ orderFrame frame s = s ∧ markFrame frame periods s = s) := by
  refine ⟨fun up => ?_, fun down => ?_⟩
  · simp [discardedFrame, orderFrame, markFrame, up, bad]
  · simp [discardedFrame, orderFrame, markFrame, down]

/-- Settles O30: the frame is read as none, and each arrival command then does the same. -/
theorem badLinkFramesLatchLinkError : Obligations.BadLinkFramesLatchLinkError := by
  unfold Obligations.BadLinkFramesLatchLinkError
  refine ⟨fun frame bad => if_pos bad, fun s frame periods bad => ?_⟩
  obtain ⟨whenUp, whenDown⟩ := discard_cases (s := s) bad periods.toNat
  refine ⟨fun up => ?_, fun down => ?_⟩
  · obtain ⟨discarded, order, mark⟩ := whenUp up
    exact ⟨congrArg (fun t => Host.Outcome.next (settle t)) discarded,
      congrArg (fun t => Host.Outcome.next (settle t)) order, congrArg (fun t => Host.Outcome.next (settle t)) mark⟩
  · obtain ⟨discarded, order, mark⟩ := whenDown down
    exact ⟨congrArg (fun t => Host.Outcome.next (settle t)) discarded,
      congrArg (fun t => Host.Outcome.next (settle t)) order, congrArg (fun t => Host.Outcome.next (settle t)) mark⟩

/-! ## How orders reach the buffer (R186, R187) -/

/-- A command that is an order arrives as that order, and what follows from it settles. -/
theorem exec_order {i : Instr} {o : Order} (spelt : orderOf i = some o) (s : State) :
    exec i s = .next (settle (submitOrder o s)) := by
  have submitted : submit i s = submitOrder o s := by simp only [submit, spelt]
  rw [← submitted]
  cases i with
  | orderUnknownKind | set | get | loadTableChannel | loadTablePass | loadTableLimit | loadTableGrid | readTableChannel
  | readTablePass | readTableLimit | readTableGrid | start | stop | restart | capture | ack | status | mount | format
  | mapLoad | unmount | release | readRecords | cancelRead | moduleRead | moduleWrite | moduleFetch | moduleAbort => rfl
  | _ => exact absurd spelt (by simp [orderOf])

/-- An order that fits, at a part with no order waiting and room for replies, is carried out in its own event, unless it is
a long store order while one is in flight (R187). -/
theorem exec_order_ready {i : Instr} {o : Order} {s : State} (ready : Ready s) (spelt : orderOf i = some o)
    (read : readOrder o = .inr i) :
    exec i s = .next (settle (if Instr.isLongStore i && s.sl.storeOrder.isSome then refuse o.tag o.kind.toNat .busy s
      else carryOut i s)) := by
  have dispatched : submitOrder o s = dispatch o s := by
    have submitted : submit i s = submitOrder o s := by simp only [submit, spelt]
    rw [← submitted]
    exact submit_ready ready spelt
  rw [exec_order spelt, dispatched, dispatch, read]

/-- The same for an order that is no long store order. -/
theorem exec_carryOut {i : Instr} {o : Order} {s : State} (ready : Ready s) (spelt : orderOf i = some o)
    (read : readOrder o = .inr i) (short : Instr.isLongStore i = false) : exec i s = .next (settle (carryOut i s)) := by
  rw [exec_order_ready ready spelt read, short, Bool.false_and, if_neg Bool.false_ne_true]

/-- Every order is one of the two to thirty bytes and more that its arguments spell: an ORDER frame of it brings it. -/
theorem orderFrame_inboundFrame {s : State} {o : Order} (fits : o.args.length ≤ 1022) (up : s.sl.linkUp = true)
    (whole : o.whole = true) : orderFrame (inboundFrame 1 (o.tag :: o.kind :: o.args)) s = submitOrder o s := by
  have read : readLinkFrame (inboundFrame 1 (o.tag :: o.kind :: o.args)) = .order (o.tag :: o.kind :: o.args) :=
    readLinkFrame_inboundFrame (by simp only [List.length_cons]; omega) (by decide)
  have spelt : orderOfPayload 0 (o.tag :: o.kind :: o.args) = o := by
    obtain ⟨tag, kind, args, w⟩ := o
    obtain rfl : w = true := whole
    simp [orderOfPayload]
  simp [orderFrame, up, read, orderPayload, spelt]

/-- An order enters at the back of the buffer and waits there while the reply queue has fewer than 2 free places. -/
theorem submitOrder_waits {s : State} (o : Order) (room : s.sl.orders.length < 4) (places : freePlaces s < 2) :
    submitOrder o s = s.setSl { s.sl with orders := s.sl.orders ++ [o] } := by
  have full : mayDispatch (s.setSl { s.sl with orders := s.sl.orders ++ [o] }) = false :=
    decide_eq_false (Nat.not_le.mpr places)
  rw [submitOrder, if_pos room]
  unfold dispatchFront
  rw [full]
  split
  · rfl
  · rfl

/-- Settles O31: the order reaches the buffer by its frame or its command, and waits, or overflows it. -/
theorem ordersReachTheBuffer : Obligations.OrdersReachTheBuffer := by
  unfold Obligations.OrdersReachTheBuffer
  refine ⟨fun s i o spelt fits up => ⟨fun whole => ?_, exec_order spelt s⟩,
    fun s i o spelt => ⟨fun room places => ?_, fun full => ?_⟩⟩
  · exact congrArg (fun t => Host.Outcome.next (settle t)) (orderFrame_inboundFrame fits up whole)
  · rw [exec_order spelt, submitOrder_waits o room places]
  · rw [exec_order spelt, submitOrder, if_neg (Nat.not_lt.mpr full)]
    rfl

end Sys2Proof.Machine
end

section
/-! What the work of a boundary and of a set leaves as it was: one view of the state, with an equation for each operation of
the Magnitude Unit, the Event Detector, the Capture Unit and the Cycle Tracker. -/

namespace Sys2Proof.Machine

/-! ## The view -/

/-- An interval with nothing counted in it: its number, its start and its PARTIAL mark alone. -/
def Interval.blank (x : Interval) : Interval := .opened x.number x.start x.partialMark

/-- What the work of a boundary leaves: all but the record queue and what a departure touches, magnitudes, events, the
channel table, the campaign summary and the counts of the open interval. -/
def boundaryless (s : State) :=
  (s.lr, s.mm, s.ct, s.tb, s.cache, s.sr, s.mb, { s.sw with headDepartures := 0 }, { s.sl with latched := 0 },
    s.ia.state, s.ia.number, s.ia.armTimer, s.ia.stopTag, s.ia.endSeq, s.ia.interval.map Interval.blank, s.pending, s.draws)

/-- What leaves all but the record queue leaves this view too. -/
theorem boundaryless_of_recordless {s t : State} (h : recordless t = recordless s) : boundaryless t = boundaryless s := by
  have lr := congrArg State.lr h
  have mm := congrArg State.mm h
  have ct := congrArg State.ct h
  have tb := congrArg State.tb h
  have cache := congrArg State.cache h
  have sr := congrArg State.sr h
  have mb := congrArg State.mb h
  have sw := congrArg State.sw h
  have sl := congrArg State.sl h
  have waiting := congrArg State.pending h
  have draws := congrArg State.draws h
  have sw' : { t.sw with headDepartures := 0 } = { s.sw with headDepartures := 0 } := sw
  have sl' : { t.sl with latched := 0 } = { s.sl with latched := 0 } := sl
  simp only [boundaryless, ia_of_recordless h, sw', sl', Prod.mk.injEq, true_and, and_true]
  exact ⟨lr, mm, ct, tb, cache, sr, mb, waiting, draws⟩

section
variable (s : State)

@[simp] theorem boundaryless_setMu (x : MU) : boundaryless (s.setMu x) = boundaryless s := rfl

@[simp] theorem boundaryless_setEd (x : ED) : boundaryless (s.setEd x) = boundaryless s := rfl

@[simp] theorem boundaryless_setCu (x : CU) : boundaryless (s.setCu x) = boundaryless s := rfl

@[simp] theorem boundaryless_setCc (x : CC) : boundaryless (s.setCc x) = boundaryless s := rfl

@[simp] theorem boundaryless_setRq (x : RQ) : boundaryless (s.setRq x) = boundaryless s := rfl

@[simp] theorem boundaryless_latch (f : Flag) : boundaryless (latch f s) = boundaryless s := rfl

@[simp] theorem boundaryless_releaseCapture : boundaryless (releaseCapture s) = boundaryless s :=
  boundaryless_of_recordless (recordless_releaseCapture s)

@[simp] theorem boundaryless_handRecord (body : RecordBody) : boundaryless (handRecord body s).2 = boundaryless s :=
  boundaryless_of_recordless (recordless_handRecord s body)

@[simp] theorem boundaryless_updSummary (f : Summary → Summary) : boundaryless (updSummary f s) = boundaryless s := rfl

/-- A change of an open interval's counts. -/
theorem boundaryless_updInterval {f : Interval → Interval} (blank : ∀ x, (f x).blank = x.blank) :
    boundaryless (updInterval f s) = boundaryless s := by
  have same : (s.ia.interval.map f).map Interval.blank = s.ia.interval.map Interval.blank := by
    cases s.ia.interval with
    | none => rfl
    | some x => exact congrArg some (blank x)
  simp only [boundaryless, updInterval, State.setIa, same]

/-! ## The Capture Unit -/

@[simp] theorem boundaryless_closeCapture (truncated cut : Bool) :
    boundaryless (closeCapture truncated cut s) = boundaryless s := by
  have handed : ∀ (x : CU) (body : RecordBody), boundaryless (handRecord body (s.setCu x)).2 = boundaryless s :=
    fun x body => boundaryless_handRecord (s.setCu x) body
  unfold closeCapture
  split
  · rfl
  · dsimp only
    generalize eq : handRecord _ _ = r
    have handed := eq ▸ handed _ _
    split
    · exact handed
    · exact (boundaryless_releaseCapture _).trans handed

@[simp] theorem boundaryless_trigger (cause : TrigCause) (event strobe : Nat) :
    boundaryless (trigger cause event strobe s).2 = boundaryless s := by
  unfold trigger
  split <;> rfl

@[simp] theorem boundaryless_handTrigger (cause : TrigCause) (event k : Nat) :
    boundaryless (handTrigger cause event k s).2 = boundaryless s := by
  unfold handTrigger
  split
  · exact boundaryless_trigger s _ _ _
  · rfl

/-- A capture with the point of a set that its decimation divides (R105). -/
def Capture.taking (c : CondSet) (h : Capture) : Capture :=
  if c.k % h.decim = 0 then { h with points := h.points ++ [pointOf h.channels c] } else h

/-- A set collected: its point, then the close at the post end or at the memory limit (R105). -/
theorem collect_eq (c : CondSet) (h : Capture) :
    collect c h s =
      if c.k + 1 = (h.taking c).postEnd then
        closeCapture false false (s.setCu { s.cu with hand := some (h.taking c) })
      else if (h.taking c).limit ≤ (h.taking c).points.length then
        closeCapture true false (s.setCu { s.cu with hand := some (h.taking c) })
      else s.setCu { s.cu with hand := some (h.taking c) } := rfl

@[simp] theorem boundaryless_collect (c : CondSet) (h : Capture) : boundaryless (collect c h s) = boundaryless s := by
  rw [collect_eq]
  repeat' split
  all_goals simp

@[simp] theorem boundaryless_captureTake (c : CondSet) : boundaryless (captureTake c s) = boundaryless s := by
  unfold captureTake
  split
  · rfl
  · split
    · exact boundaryless_collect s c _
    · rfl
  · rfl
  · rfl

/-! ## The Event Detector -/

@[simp] theorem boundaryless_countGrid (swell : Bool) (cell : Option (Nat × Nat)) :
    boundaryless (countGrid swell cell s) = boundaryless s := by
  unfold countGrid
  repeat' split
  all_goals rfl

@[simp] theorem boundaryless_closeEvent (e : OpenEvent) (cause : CloseCause) (b : Boundary) (stamp : Stamp) :
    boundaryless (closeEvent e cause b stamp s) = boundaryless s := by
  have handed := fun swell cell body =>
    (boundaryless_handRecord (countGrid swell cell s) body).trans (boundaryless_countGrid s swell cell)
  unfold closeEvent
  dsimp only
  split
  · exact handed _ _ _
  · exact handed _ _ _

@[simp] theorem boundaryless_openDip (w : BoundaryWork) : boundaryless (openDip w s) = boundaryless s := by
  unfold openDip
  dsimp only
  rw [boundaryless_updInterval, boundaryless_setEd, boundaryless_handTrigger, boundaryless_setEd]
  exact fun _ => rfl

@[simp] theorem boundaryless_openSwell (w : BoundaryWork) : boundaryless (openSwell w s) = boundaryless s := by
  unfold openSwell
  dsimp only
  rw [boundaryless_updInterval, boundaryless_setEd, boundaryless_handTrigger, boundaryless_setEd]
  exact fun _ => rfl

@[simp] theorem boundaryless_escalate (w : BoundaryWork) : boundaryless (escalate w s) = boundaryless s := by
  unfold escalate
  split
  · rfl
  · split
    · dsimp only
      rw [boundaryless_updInterval, boundaryless_setEd, boundaryless_handTrigger]
      exact fun _ => rfl
    · rfl

@[simp] theorem boundaryless_endTests (w : BoundaryWork) (ended : Nat → Bool) (e : OpenEvent) :
    boundaryless (endTests w ended e s) = boundaryless s := by
  unfold endTests
  repeat' split
  all_goals simp

@[simp] theorem boundaryless_runDip (w : BoundaryWork) : boundaryless (runDip w s) = boundaryless s := by
  unfold runDip
  split
  · split <;> simp
  · dsimp only
    split
    · rw [boundaryless_escalate, boundaryless_setEd]
    · rw [boundaryless_endTests, boundaryless_escalate, boundaryless_setEd]

@[simp] theorem boundaryless_runSwell (w : BoundaryWork) : boundaryless (runSwell w s) = boundaryless s := by
  unfold runSwell
  split
  · split <;> simp
  · rw [boundaryless_endTests, boundaryless_setEd]

@[simp] theorem boundaryless_boundaryEvents (w : BoundaryWork) :
    boundaryless (boundaryEvents w s).2 = boundaryless s := by
  unfold boundaryEvents
  dsimp only
  split
  · exact (boundaryless_runSwell _ w).trans (boundaryless_runDip s w)
  · rfl

/-! ## The Magnitude Unit -/

@[simp] theorem boundaryless_applyPendingCal : boundaryless (applyPendingCal s) = boundaryless s := by
  refine foldl_view _ (fun u m => ?_) _
  split <;> rfl

@[simp] theorem boundaryless_startWindow (b : Boundary) (stamp : Stamp) (event : Bool) :
    boundaryless (startWindow b stamp event s) = boundaryless s := boundaryless_applyPendingCal s

@[simp] theorem boundaryless_closeWindow (w : Window) (b : Boundary) (stamp : Stamp) (flags : BitVec 8) :
    boundaryless (closeWindow w b stamp flags s) = boundaryless s :=
  boundaryless_updInterval (f := Interval.add _) s (fun _ => rfl)

@[simp] theorem boundaryless_windowWork (b : Boundary) (stamp : Stamp) (event : Bool)
    (values : PerChannel (Option Nat)) : boundaryless (windowWork b stamp event values s) = boundaryless s := by
  unfold windowWork
  repeat' split
  all_goals simp

@[simp] theorem boundaryless_boundaryWork (b : Boundary) (k : Nat) :
    boundaryless (boundaryWork b k s).2 = boundaryless s := by
  unfold boundaryWork
  simp

@[simp] theorem boundaryless_addSet (c : CondSet) : boundaryless (addSet c s) = boundaryless s := rfl

@[simp] theorem boundaryless_latchSnapshot (b : Boundary) (values : PerChannel (Option Nat)) :
    boundaryless (latchSnapshot b values s) = boundaryless s := rfl

@[simp] theorem boundaryless_reportRefChange : boundaryless (reportRefChange s) = boundaryless s := by
  unfold reportRefChange
  repeat' split
  all_goals rfl

@[simp] theorem boundaryless_reportTimeStep : boundaryless (reportTimeStep s) = boundaryless s := by
  unfold reportTimeStep
  repeat' split
  all_goals rfl

@[simp] theorem boundaryless_refChanged (changed : Bool) : boundaryless (refChanged changed s) = boundaryless s := by
  unfold refChanged
  split
  · exact boundaryless_reportRefChange _
  · rfl

/-! ## The forwarder -/

@[simp] theorem boundaryless_pushFrame (f : FwdFrame) : boundaryless (pushFrame s f) = boundaryless s := by
  unfold pushFrame
  split <;> rfl

@[simp] theorem boundaryless_forwardHeld (collecting : Bool) (newest : CondSet) :
    boundaryless (forwardHeld collecting newest s) = boundaryless s := by
  unfold forwardHeld
  dsimp only
  split
  · unfold forward
    split
    · exact foldl_view (view := boundaryless) _ (fun u m => boundaryless_pushFrame u _) _
    · rfl
  · rfl

end

/-! ## What the view says -/

/-- The blocks that the view holds whole. -/
theorem blocks_of_boundaryless {s t : State} (h : boundaryless t = boundaryless s) :
    t.lr = s.lr ∧ t.mm = s.mm ∧ t.ct = s.ct ∧ t.tb = s.tb ∧ t.cache = s.cache ∧ t.sr = s.sr ∧ t.mb = s.mb := by
  simp only [boundaryless, Prod.mk.injEq] at h
  obtain ⟨lr, mm, ct, tb, cache, sr, mb, -⟩ := h
  exact ⟨lr, mm, ct, tb, cache, sr, mb⟩

/-- The settings, the campaign state and the open interval's identity. -/
theorem campaign_of_boundaryless {s t : State} (h : boundaryless t = boundaryless s) :
    t.sl.settings = s.sl.settings ∧ t.ia.state = s.ia.state ∧ t.ia.armTimer = s.ia.armTimer ∧
      t.ia.interval.map Interval.blank = s.ia.interval.map Interval.blank := by
  simp only [boundaryless, Prod.mk.injEq] at h
  obtain ⟨-, -, -, -, -, -, -, -, sl, state, -, timer, -, -, interval, -⟩ := h
  have settings := congrArg SL.settings sl
  exact ⟨settings, state, timer, interval⟩

/-- The writer but for the count of departures. -/
theorem writer_of_boundaryless {s t : State} (h : boundaryless t = boundaryless s) :
    { t.sw with headDepartures := 0 } = { s.sw with headDepartures := 0 } := by
  simp only [boundaryless, Prod.mk.injEq] at h
  obtain ⟨-, -, -, -, -, -, -, sw, -⟩ := h
  exact sw

end Sys2Proof.Machine
end

section
/-! The strobe issue by its parts: each of the five is taken once, in some order, and leaves what the others act on. -/

namespace Sys2Proof.Machine

/-! ## Each part once -/

theorem mem_onceEach (p : IssuePart) (l : List IssuePart) : p ∈ onceEach l ↔ p ∈ l := by
  induction l with
  | nil => exact Iff.rfl
  | cons q l ih =>
    simp only [onceEach, List.mem_cons, List.mem_filter, ih, bne_iff_ne]
    by_cases same : p = q <;> simp [same]

theorem nodup_onceEach (l : List IssuePart) : (onceEach l).Nodup := by
  induction l with
  | nil => exact List.nodup_nil
  | cons q l ih => exact List.nodup_cons.mpr ⟨by simp, ih.filter _⟩

/-- Every part stands in a choice of order, once. -/
theorem issueParts_split (chosen : List IssuePart) (p : IssuePart) :
    ∃ before after, issueParts chosen = before ++ p :: after ∧ p ∉ before ∧ p ∉ after := by
  have member : p ∈ issueParts chosen := by
    simp only [issueParts, List.mem_append, List.mem_filter, mem_onceEach]
    by_cases named : p ∈ chosen
    · exact .inl named
    · refine .inr ⟨?_, by simpa using named⟩
      cases p <;> simp [allParts]
  have once : (issueParts chosen).Nodup := by
    refine (nodup_onceEach chosen).append (List.Nodup.filter _ (by decide)) fun q first last => ?_
    have absent := (List.mem_filter.mp last).2
    simp only [List.contains_eq_mem, Bool.not_eq_true', decide_eq_false_iff_not] at absent
    exact absent ((mem_onceEach q chosen).mp first)
  obtain ⟨before, after, split⟩ := List.append_of_mem member
  rw [split] at once
  refine ⟨before, after, split, fun early => ?_, ?_⟩
  · exact (List.nodup_append.mp once).2.2 p early p (by simp) rfl
  · exact (List.nodup_cons.mp (List.nodup_append.mp once).2.1).1

/-- A fold of a step over a list keeps what each step of the list's members keeps. -/
theorem foldl_keeps {α : Type} {f : State → α → State} {P : State → Prop} {l : List α}
    (keep : ∀ a ∈ l, ∀ u, P u → P (f u a)) {s : State} (start : P s) : P (l.foldl f s) := by
  induction l generalizing s with
  | nil => exact start
  | cons a l ih => exact ih (fun b member => keep b (by simp [member])) (keep a (by simp) s start)

/-- The sample set that a strobe issue hands on, with the frames that close at it. -/
def setOf (s : State) : Option (Nat × PerModule (Option LaneFrame)) :=
  (setAtIssue s).map fun k => (k, closingFrames (nextStrobe s) s)

theorem strobeIssue_eq (s : State) :
    strobeIssue s = (issueParts (Config.issueOrder s.draws)).foldl (issuePart (setOf s) s.tb.rollsOver)
      (issueFirst (s.setDraws (s.draws + 1))) := rfl

/-- What one part makes of a strobe issue: the parts before it keep what it needs, and those after it keep what it has
done. -/
theorem strobeIssue_of_part {s : State} (p : IssuePart) {P Q : State → Prop} (first : P (issueFirst (s.setDraws (s.draws + 1))))
    (before : ∀ q, q ≠ p → ∀ u, P u → P (issuePart (setOf s) s.tb.rollsOver u q))
    (act : ∀ u, P u → Q (issuePart (setOf s) s.tb.rollsOver u p))
    (after : ∀ q, q ≠ p → ∀ u, Q u → Q (issuePart (setOf s) s.tb.rollsOver u q)) : Q (strobeIssue s) := by
  obtain ⟨pre, post, split, early, late⟩ := issueParts_split (Config.issueOrder s.draws) p
  rw [strobeIssue_eq, split, List.foldl_append, List.foldl_cons]
  exact foldl_keeps (fun q member => after q (fun same => late (same ▸ member)))
    (act _ (foldl_keeps (fun q member => before q (fun same => early (same ▸ member))) first))

/-- What every part keeps, a strobe issue keeps from its first work on. -/
theorem strobeIssue_keeps {s : State} {P : State → Prop} (first : P (issueFirst (s.setDraws (s.draws + 1))))
    (keep : ∀ q u, P u → P (issuePart (setOf s) s.tb.rollsOver u q)) : P (strobeIssue s) := by
  rw [strobeIssue_eq]
  exact foldl_keeps (fun q _ => keep q) first

/-! ## What the taking of a set leaves -/

/-- The settings but for the four that an application of the pending set changes (R193). -/
def Settings.steady (x : Settings) : Settings :=
  { x with intervalSeconds := 0, activeProfile := 0, attribThreshold := 0, attribFloor := 0 }

/-- What no part of a strobe issue changes: the lane, the time, the writer but for its departures and the flush mark, the
settings but for those that can be pending, and the link. -/
def partView (s : State) :=
  (s.lr, s.tb, { s.sw with headDepartures := 0, flushDue := false }, s.sl.settings.steady, s.sl.linkUp)

/-- The modules, which the monitor part alone changes, with the module bus. -/
def moduleView (s : State) := (s.mm, s.mb)

section
variable {s t : State}

theorem partView_of_boundaryless (h : boundaryless t = boundaryless s) :
    partView t = partView s ∧ moduleView t = moduleView s := by
  simp only [boundaryless, Prod.mk.injEq] at h
  obtain ⟨lr, mm, -, tb, -, -, mb, sw, sl, -⟩ := h
  have settings := congrArg (fun x : SL => x.settings.steady) sl
  have link := congrArg SL.linkUp sl
  have sw := congrArg (fun x : SW => { x with flushDue := false }) sw
  simp only [partView, moduleView, Prod.mk.injEq]
  exact ⟨⟨lr, tb, sw, settings, link⟩, mm, mb⟩

/-- How a campaign can move in an operation that closes no interval: it stays with its interval, or a campaign in ARMING
enters RUNNING with an interval open (R128, R129). -/
def Flows (s t : State) : Prop :=
  t.sl.settings = s.sl.settings ∧
    ((t.ia.state = s.ia.state ∧ t.ia.armTimer = s.ia.armTimer ∧
        t.ia.interval.map Interval.blank = s.ia.interval.map Interval.blank) ∨
      (s.ia.state = .arming ∧ t.ia.state = .running ∧ t.ia.interval.isSome = true))

theorem Flows.refl (s : State) : Flows s s := ⟨rfl, .inl ⟨rfl, rfl, rfl⟩⟩

theorem Flows.of_ia (ia : t.ia = s.ia) (settings : t.sl.settings = s.sl.settings) : Flows s t :=
  ⟨settings, .inl ⟨by rw [ia], by rw [ia], by rw [ia]⟩⟩

theorem Flows.of_boundaryless (h : boundaryless t = boundaryless s) : Flows s t := by
  obtain ⟨settings, state, timer, interval⟩ := campaign_of_boundaryless h
  exact ⟨settings, .inl ⟨state, timer, interval⟩⟩

theorem Flows.trans {u : State} (h : Flows s t) (g : Flows t u) : Flows s u := by
  obtain ⟨hs, hc⟩ := h
  obtain ⟨gs, gc⟩ := g
  refine ⟨gs.trans hs, ?_⟩
  rcases hc with ⟨state, timer, interval⟩ | ⟨arming, running, opened⟩
  · rcases gc with ⟨state', timer', interval'⟩ | ⟨arming', rest⟩
    · exact .inl ⟨state'.trans state, timer'.trans timer, interval'.trans interval⟩
    · exact .inr ⟨state ▸ arming', rest⟩
  · rcases gc with ⟨state', -, interval'⟩ | ⟨arming', -⟩
    · refine .inr ⟨arming, state'.trans running, ?_⟩
      have same := congrArg Option.isSome interval'
      simpa [opened] using same
    · rw [running] at arming'
      cases arming'

/-- Views and campaign together: what the taking of a set leaves. -/
structure Takes (s t : State) : Prop where
  parts : partView t = partView s
  modules : moduleView t = moduleView s
  flush : t.sw.flushDue = s.sw.flushDue
  campaign : Flows s t

theorem Takes.refl (s : State) : Takes s s := ⟨rfl, rfl, rfl, .refl s⟩

theorem Takes.trans {u : State} (h : Takes s t) (g : Takes t u) : Takes s u :=
  ⟨g.parts.trans h.parts, g.modules.trans h.modules, g.flush.trans h.flush, h.campaign.trans g.campaign⟩

theorem Takes.of_boundaryless (h : boundaryless t = boundaryless s) : Takes s t :=
  have flush := congrArg SW.flushDue (writer_of_boundaryless h)
  ⟨(partView_of_boundaryless h).1, (partView_of_boundaryless h).2, flush, .of_boundaryless h⟩

end

section
variable (s : State)

theorem takes_setDraws (n : Nat) : Takes s (s.setDraws n) := ⟨rfl, rfl, rfl, .of_ia rfl rfl⟩

theorem takes_updCt (f : CT → CT) : Takes s (s.updCt f) := ⟨rfl, rfl, rfl, .of_ia rfl rfl⟩

/-- The readiness test takes a campaign in ARMING into RUNNING, or changes nothing (R128). -/
theorem takes_readyTest : Takes s (readyTest s) := by
  unfold readyTest
  split
  · next ready => exact ⟨rfl, rfl, rfl, rfl, .inr ⟨ready.1, rfl, rfl⟩⟩
  · exact .refl s

theorem takes_place (position : Nat) (kind : BoundaryKind) (k : Nat) : Takes s (place position kind k s).2 := by
  unfold place
  dsimp only
  exact .trans (takes_updCt s _) (.of_boundaryless (boundaryless_boundaryWork _ _ _))

theorem takes_placeDue (due k : Nat) : Takes s (placeDue due k s).2 := by
  unfold placeDue
  split
  · exact takes_place s _ _ _
  · exact .refl s

theorem takes_placeLocked (b : Boundary) (limit k : Nat) (crossing : Option Nat) :
    Takes s (placeLocked b limit k crossing s).2 := by
  unfold placeLocked
  dsimp only
  split
  · exact .trans (takes_updCt s _) (takes_place _ _ _ _)
  · split
    · exact .trans (takes_place s _ _ _) (takes_updCt _ _)
    · exact .refl s

theorem takes_placement (c : CondSet) : Takes s (placement c s).2 := by
  unfold placement
  repeat' split
  · exact takes_place s _ _ _
  · exact takes_placeDue s _ _
  · exact takes_placeDue s _ _
  · exact takes_placeDue s _ _
  · exact takes_placeLocked s _ _ _ _

theorem takes_enterLocked (order : LockOrder) : Takes s (enterLocked order s) := by
  have changed : ∀ u, Takes u (refChanged s.ct.changes u) := fun u => .of_boundaryless (boundaryless_refChanged u _)
  unfold enterLocked
  cases order with
  | readyReportPlace => exact (takes_updCt s _).trans ((takes_readyTest _).trans (changed _))
  | reportReadyPlace => exact (takes_updCt s _).trans ((changed _).trans (takes_readyTest _))
  | reportPlaceReady => exact (takes_updCt s _).trans (changed _)

theorem takes_acquisition (c : CondSet) : Takes s (acquisition c s).2 := by
  have locks : ∀ position, Takes s (lock c position s).2 := fun position => by
    have entered := (takes_setDraws s (s.draws + 1)).trans (takes_enterLocked (s.setDraws (s.draws + 1)) (.ofDraw s.draws))
    unfold lock
    simp only [draw]
    split
    · exact entered.trans (takes_placeLocked _ _ _ _ _)
    · exact entered
  unfold acquisition
  split
  · split
    · exact .refl s
    · dsimp only
      split
      · exact locks _
      · exact ⟨rfl, rfl, rfl, .of_ia rfl rfl⟩
  · exact .refl s

/-- The reference decision changes the tracker alone. -/
theorem decideReference_setCt (values : PerChannel (Option Nat)) : ∃ x, decideReference values s = s.setCt x := by
  unfold decideReference decideAcquire decideLocked revert
  dsimp only
  repeat' split
  all_goals exact ⟨_, rfl⟩

theorem takes_decideReference (values : PerChannel (Option Nat)) : Takes s (decideReference values s) := by
  obtain ⟨x, eq⟩ := decideReference_setCt s values
  rw [eq]
  exact ⟨rfl, rfl, rfl, .of_ia rfl rfl⟩

theorem takes_decideAt (p : Placed) : Takes s (decideAt p s) := by
  unfold decideAt
  split
  · exact (takes_decideReference s _).trans (.of_boundaryless (boundaryless_latchSnapshot _ _ _))
  · exact .refl s

theorem takes_trackTake (c : CondSet) : Takes s (trackTake c s) := by
  have placed := (takes_placement s c).trans (takes_acquisition (placement c s).2 c)
  unfold trackTake
  dsimp only
  exact placed.trans ((takes_decideAt _ _).trans ((takes_updCt _ _).trans ((takes_updCt _ _).trans (takes_readyTest _))))

theorem takes_takeSet (k : Nat) (frames : PerModule (Option LaneFrame)) : Takes s (takeSet k frames s) := by
  unfold takeSet
  simp only [draw]
  refine (takes_trackTake s (condition s.cc.table k frames)).trans ?_
  refine (Takes.of_boundaryless (boundaryless_addSet _ (condition s.cc.table k frames))).trans ?_
  refine (Takes.of_boundaryless (boundaryless_captureTake _ (condition s.cc.table k frames))).trans ?_
  exact (takes_setDraws _ _).trans (.of_boundaryless (boundaryless_forwardHeld _ _ _))

end

end Sys2Proof.Machine
end

section
/-! What the parts of a strobe issue do (R2, R9, R113, R120, R128, R147): the lane and the time, the interval test at a
rollover, the timers, and the monitor window. -/

namespace Sys2Proof.Machine

/-- A module's value in a table made from a function. -/
@[simp] theorem PerModule.get_of {α : Type} (f : Fin 4 → α) (m : Fin 4) : (PerModule.of f).get m = f m := by
  match m with
  | 0 | 1 | 2 | 3 => rfl

section
variable (s : State)

/-! ## The five parts -/

theorem partView_applyPending (cause : SettingsCause) : partView (applyPending cause s) = partView s := by
  unfold applyPending
  split
  · rfl
  · exact (partView_of_boundaryless (boundaryless_of_recordless (recordless_settingsRecord _ _ _))).1.trans rfl

theorem moduleView_applyPending (cause : SettingsCause) : moduleView (applyPending cause s) = moduleView s := by
  unfold applyPending
  split
  · rfl
  · exact (partView_of_boundaryless (boundaryless_of_recordless (recordless_settingsRecord _ _ _))).2.trans rfl

theorem views_closeInterval (stop : Stamp) (ended early : Bool) :
    partView (closeInterval stop ended early s) = partView s ∧
      moduleView (closeInterval stop ended early s) = moduleView s := by
  unfold closeInterval
  split
  · exact ⟨rfl, rfl⟩
  · next x _ =>
    obtain ⟨part, modules⟩ := partView_of_boundaryless
      (boundaryless_handRecord s (.interval (intervalBody s x stop ended early)))
    exact ⟨part, modules⟩

theorem views_applyUnlessHold (cause : SettingsCause) :
    partView (applyUnlessHold cause s) = partView s ∧ moduleView (applyUnlessHold cause s) = moduleView s := by
  unfold applyUnlessHold
  split
  · exact ⟨rfl, rfl⟩
  · exact ⟨partView_applyPending s cause, moduleView_applyPending s cause⟩

theorem views_rolloverReport :
    partView (rolloverReport s) = partView s ∧ moduleView (rolloverReport s) = moduleView s := by
  unfold rolloverReport
  split
  · obtain ⟨closed, closed'⟩ := views_closeInterval s ⟨s.tb.seconds, 0⟩ false false
    obtain ⟨applied, applied'⟩ := views_applyUnlessHold (closeInterval ⟨s.tb.seconds, 0⟩ false false s) .interval
    exact ⟨applied.trans closed, applied'.trans closed'⟩
  · exact ⟨rfl, rfl⟩

/-- The rollover's report leaves the campaign state and the arm timer, and an open interval gives way to another. -/
theorem campaign_rolloverReport :
    (rolloverReport s).ia.state = s.ia.state ∧ (rolloverReport s).ia.armTimer = s.ia.armTimer ∧
      (s.ia.interval.isSome = true → (rolloverReport s).ia.interval.isSome = true) := by
  unfold rolloverReport
  split
  · have rest := (restView_applyUnlessHold (closeInterval ⟨s.tb.seconds, 0⟩ false false s) .interval).trans
      (restView_closeInterval s ⟨s.tb.seconds, 0⟩ false false)
    simp only [restView, Prod.mk.injEq] at rest
    obtain ⟨state, -, -, -, timer, -⟩ := rest
    exact ⟨state, timer, fun _ => rfl⟩
  · exact ⟨rfl, rfl, id⟩

theorem views_armIssue : partView (armIssue s) = partView s ∧ moduleView (armIssue s) = moduleView s := by
  unfold armIssue
  split
  · dsimp only
    split <;> exact ⟨rfl, rfl⟩
  · exact ⟨rfl, rfl⟩

theorem views_flushAge :
    partView (flushAge s) = partView s ∧ moduleView (flushAge s) = moduleView s ∧ (flushAge s).ia = s.ia ∧
      (flushAge s).sl = s.sl := by
  unfold flushAge
  split <;> exact ⟨rfl, rfl, rfl, rfl⟩

/-- The expiry for one module changes the module and the fetch queue alone. -/
theorem partView_expireModule (m : Fin 4) :
    partView (expireModule s m) = partView s ∧ (expireModule s m).ia = s.ia ∧ (expireModule s m).sl = s.sl := by
  unfold expireModule
  dsimp only
  split <;> exact ⟨rfl, rfl, rfl⟩

theorem partView_monitorIssue : partView (monitorIssue s) = partView s ∧ Flows s (monitorIssue s) := by
  unfold monitorIssue
  split
  · dsimp only
    have folded : ∀ u : State, partView (allModules.foldl expireModule u) = partView u ∧
        (allModules.foldl expireModule u).ia = u.ia ∧ (allModules.foldl expireModule u).sl = u.sl := fun u =>
      ⟨foldl_view (view := partView) _ (fun v m => (partView_expireModule v m).1) _,
        foldl_view (view := State.ia) _ (fun v m => (partView_expireModule v m).2.1) _,
        foldl_view (view := State.sl) _ (fun v m => (partView_expireModule v m).2.2) _⟩
    obtain ⟨part, ia, sl⟩ := folded (s.setMm { s.mm with count := 0 })
    have ready := takes_readyTest (allModules.foldl expireModule (s.setMm { s.mm with count := 0 }))
    exact ⟨ready.parts.trans part, Flows.trans (.of_ia ia (congrArg SL.settings sl)) ready.campaign⟩
  · exact ⟨rfl, .of_ia rfl rfl⟩

/-- Every part of a strobe issue leaves the lane, the time, the writer's buffer and the steady settings. -/
theorem partView_issuePart (set : Option (Nat × PerModule (Option LaneFrame))) (rolled : Bool) (p : IssuePart) :
    partView (issuePart set rolled s p) = partView s := by
  cases p with
  | sample =>
    cases set with
    | some x => exact (takes_takeSet s x.1 x.2).parts
    | none => rfl
  | monitor => exact (partView_monitorIssue s).1
  | rollover =>
    cases rolled with
    | true => exact (views_rolloverReport s).1
    | false => rfl
  | arm => exact (views_armIssue s).1
  | flush => exact (views_flushAge s).1

/-- All parts but the monitor's leave the modules and the bus. -/
theorem moduleView_issuePart (set : Option (Nat × PerModule (Option LaneFrame))) (rolled : Bool) {p : IssuePart}
    (other : p ≠ .monitor) : moduleView (issuePart set rolled s p) = moduleView s := by
  cases p with
  | monitor => exact absurd rfl other
  | sample =>
    cases set with
    | some x => exact (takes_takeSet s x.1 x.2).modules
    | none => rfl
  | rollover =>
    cases rolled with
    | true => exact (views_rolloverReport s).2
    | false => rfl
  | arm => exact (views_armIssue s).2
  | flush => exact (views_flushAge s).2.1

/-- The parts that touch neither the interval test nor the arm timer let the campaign flow. -/
theorem flows_issuePart (set : Option (Nat × PerModule (Option LaneFrame))) (rolled : Bool) {p : IssuePart}
    (notRollover : p ≠ .rollover) (notArm : p ≠ .arm) : Flows s (issuePart set rolled s p) := by
  cases p with
  | rollover => exact absurd rfl notRollover
  | arm => exact absurd rfl notArm
  | sample =>
    cases set with
    | some x => exact (takes_takeSet s x.1 x.2).campaign
    | none => exact .refl s
  | monitor => exact (partView_monitorIssue s).2
  | flush =>
    obtain ⟨-, -, ia, sl⟩ := views_flushAge s
    exact .of_ia ia (congrArg SL.settings sl)

/-! ## The lane and the time (R2, R113) -/

/-- What a strobe issue leaves of the views after its first work. -/
theorem partView_strobeIssue : partView (strobeIssue s) = partView (issueFirst s) :=
  strobeIssue_keeps (P := fun u => partView u = partView (issueFirst s)) rfl
    fun q u h => (partView_issuePart u _ _ q).trans h

/-- The lane and the time base after a strobe issue. -/
theorem clock_strobeIssue : (strobeIssue s).lr = (issueFirst s).lr ∧ (strobeIssue s).tb = (issueFirst s).tb := by
  have h := partView_strobeIssue s
  simp only [partView, Prod.mk.injEq] at h
  exact ⟨h.1, h.2.1⟩

theorem exec_strobeIssue : exec .strobeIssue s = .next (settle (strobeIssue s)) := rfl

/-- A time-driven command whose condition is met is the strobe issue. -/
theorem issueWhen_due {due : Bool} (met : due = true) : issueWhen due s = strobeIssue s := if_pos met

end

/-- Settles O14: the strobe, the slots and the time move first, and no part moves them again. -/
theorem strobeIssueMovesTheLane : Obligations.StrobeIssueMovesTheLane := by
  unfold Obligations.StrobeIssueMovesTheLane
  intro s noWrap
  obtain ⟨lr, tb⟩ := clock_strobeIssue s
  have issued : nextStrobe s = s.lr.strobe + 1 := Nat.mod_eq_of_lt noWrap
  refine ⟨_, exec_strobeIssue s, ?_, fun m => ?_, ?_⟩
  · rw [lr]
    exact issued
  · have slots : (strobeIssue s).lr.slots = PerModule.of fun m =>
        issueSlots (nextStrobe s) (s.mm.mods.get m).state (s.lr.slots.get m) := by
      rw [lr]
      rfl
    rw [slots, issued, PerModule.get_of]
    rfl
  · rw [tb]
    rfl

end Sys2Proof.Machine
end

section
/-! The strobe time and the timers at a strobe issue (R101, R113, R116, R118, R120, R128, R147). -/

namespace Sys2Proof.Machine

/-! ## The advance of the strobe time (R113, R116) -/

/-- Within the second the sub-second time alone moves. -/
theorem TB.advance_within {t : TB} (within : t.sub + 160000 < 2048000000) : t.advance = { t with sub := t.sub + 160000 } := by
  have rolls : ¬ t.rollsOver = true := by
    have stays : ¬ secondTicks ≤ t.sub + strobeTicks := Nat.not_le.mpr within
    simp only [TB.rollsOver, decide_eq_true_eq, stays, not_false_eq_true]
  rw [TB.advance, if_neg rolls]
  rfl

/-- The slew applied at a rollover, as one amount toward the remainder that does not pass the second back. -/
theorem TB.applySlew_eq (t : TB) :
    ∃ a : Int, a = max (min t.slew 102400) (-(min 102400 t.sub : Nat)) ∧ 0 ≤ t.sub + a ∧
      t.applySlew = { t with sub := (t.sub + a).toNat, slew := t.slew - a } := by
  refine ⟨_, rfl, by omega, ?_⟩
  unfold TB.applySlew
  split
  · have amount : max (min t.slew 102400) (-(min 102400 t.sub : Nat)) = (min t.slew.toNat 102400 : Nat) := by omega
    have sub : t.sub + min t.slew.toNat 102400 = ((t.sub : Int) + (min t.slew.toNat 102400 : Nat)).toNat := by omega
    simp only [amount, sub]
  · have amount : max (min t.slew 102400) (-(min 102400 t.sub : Nat)) = -(min (min t.slew.natAbs 102400) t.sub : Nat) := by
      omega
    have sub : t.sub - min (min t.slew.natAbs 102400) t.sub =
        ((t.sub : Int) + -(min (min t.slew.natAbs 102400) t.sub : Nat)).toNat := by omega
    have slew : t.slew + (min (min t.slew.natAbs 102400) t.sub : Nat) =
        t.slew - -(min (min t.slew.natAbs 102400) t.sub : Nat) := by omega
    simp only [amount, sub, slew]

/-- The seconds after a rollover. -/
theorem TB.advance_rolled {t : TB} (rolls : 2048000000 ≤ t.sub + 160000) :
    t.advance = TB.applySlew { t with
      sub := t.sub + 160000 - 2048000000, seconds := (t.seconds + 1) % 4294967296 } :=
  if_pos (decide_eq_true rolls)

theorem TB.grow_seconds (source : TimeSource) (t : TB) : (t.grow source).seconds = t.seconds := by
  unfold TB.grow
  split <;> rfl

theorem TB.applySlew_seconds (t : TB) : t.applySlew.seconds = t.seconds := by
  unfold TB.applySlew
  split <;> rfl

/-! ## The interval test at a rollover (R120) -/

/-- A campaign in RUNNING whose open interval has an identity. -/
def RunsWith (x : Interval) (s : State) : Prop := s.ia.state = .running ∧ s.ia.interval.map Interval.blank = some x

theorem RunsWith.flows {x : Interval} {s t : State} (h : RunsWith x s) (flow : Flows s t) : RunsWith x t := by
  obtain ⟨state, interval⟩ := h
  rcases flow.2 with ⟨state', -, interval'⟩ | ⟨arming, -⟩
  · exact ⟨state'.trans state, interval'.trans interval⟩
  · rw [state] at arming
    cases arming

/-- The parts other than the rollover's keep a running campaign's interval. -/
theorem RunsWith.issuePart {x : Interval} {s : State} (h : RunsWith x s)
    (set : Option (Nat × PerModule (Option LaneFrame))) (rolled : Bool) {p : IssuePart} (other : p ≠ .rollover) :
    RunsWith x (issuePart set rolled s p) ∧ (Machine.issuePart set rolled s p).sl.settings = s.sl.settings := by
  by_cases arm : p = .arm
  · subst arm
    have idle : armIssue s = s := if_neg (by rw [h.1]; decide)
    have same : Machine.issuePart set rolled s .arm = s := idle
    rw [same]
    exact ⟨h, rfl⟩
  · have flow := flows_issuePart s set rolled other arm
    exact ⟨h.flows flow, flow.1⟩

/-- At a rollover on an interval boundary the next interval opens, with the next number and without the PARTIAL mark. -/
theorem rolloverReport_opens {s : State} {x : Interval} (runs : RunsWith x s)
    (boundary : isIntervalBoundary s s.tb.seconds = true) :
    RunsWith (.opened (x.number + 1) ⟨s.tb.seconds, 0⟩ false) (rolloverReport s) := by
  obtain ⟨state, interval⟩ := runs
  have number : intervalNumber s = x.number := by
    obtain ⟨y, opened, rfl⟩ := Option.map_eq_some_iff.mp interval
    simp [intervalNumber, opened, Interval.blank, Interval.opened]
  refine ⟨(campaign_rolloverReport s).1.trans state, ?_⟩
  rw [rolloverReport, if_pos ⟨state, boundary⟩]
  simp only [number]
  rfl

/-- A strobe issue that rolls the second over, on an interval boundary, in RUNNING. -/
theorem strobeIssue_opensInterval {s : State} {x : Interval} (rolls : s.tb.rollsOver = true) (runs : RunsWith x s)
    (boundary : (issueFirst s).tb.seconds % 86400 % s.sl.settings.intervalSeconds = 0) :
    RunsWith (.opened (x.number + 1) ⟨(issueFirst s).tb.seconds, 0⟩ false) (strobeIssue s) := by
  refine strobeIssue_of_part .rollover
    (P := fun u => RunsWith x u ∧ u.sl.settings = s.sl.settings ∧ partView u = partView (issueFirst s)) ⟨runs, rfl, rfl⟩
    (fun q other u h => ?_) (fun u h => ?_) (fun q other u h => (h.issuePart _ _ other).1)
  · obtain ⟨runs, settings, view⟩ := h
    obtain ⟨runs', settings'⟩ := runs.issuePart (setOf s) s.tb.rollsOver other
    exact ⟨runs', settings'.trans settings, (partView_issuePart u _ _ q).trans view⟩
  · obtain ⟨runs, settings, view⟩ := h
    simp only [partView, Prod.mk.injEq] at view
    obtain ⟨-, tb, -⟩ := view
    have reported : issuePart (setOf s) s.tb.rollsOver u .rollover = rolloverReport u := by rw [rolls]; rfl
    rw [reported, ← tb]
    refine rolloverReport_opens runs ?_
    simpa [isIntervalBoundary, settings, tb] using boundary

/-- Settles O25: the advance by cases of the rollover and of the slew's sign, and the interval test as one part of the
issue. -/
theorem timeAdvancesAndRollsOver : Obligations.TimeAdvancesAndRollsOver := by
  unfold Obligations.TimeAdvancesAndRollsOver
  refine ⟨fun t _ => ⟨TB.advance_within, fun rolls => ?_⟩, fun s rolls => ?_⟩
  · obtain ⟨a, amount, forward, applied⟩ := TB.applySlew_eq { t with
      sub := t.sub + 160000 - 2048000000, seconds := (t.seconds + 1) % 4294967296 }
    exact ⟨_, a, rfl, amount, (TB.advance_rolled rolls).trans applied, forward⟩
  · have rollsOver : s.tb.rollsOver = true := decide_eq_true rolls
    have issued : exec .secondRollover s = .next (settle (strobeIssue s)) :=
      congrArg (fun t => Host.Outcome.next (settle t)) (issueWhen_due s rollsOver)
    obtain ⟨-, tb⟩ := clock_strobeIssue s
    have seconds : (issueFirst s).tb.seconds = (s.tb.seconds + 1) % 4294967296 :=
      calc ((s.tb.advance).grow s.sl.settings.timeSource).seconds = s.tb.advance.seconds := TB.grow_seconds _ _
        _ = (s.tb.seconds + 1) % 4294967296 := by rw [TB.advance_rolled rolls, TB.applySlew_seconds]
    refine ⟨_, issued, tb, by rw [tb, seconds], fun x running opened boundary => ?_⟩
    have runs : RunsWith x.blank s := ⟨running, by rw [opened]; rfl⟩
    obtain ⟨-, interval⟩ := strobeIssue_opensInterval rollsOver runs (by rw [seconds]; exact boundary)
    obtain ⟨y, opened', blank⟩ := Option.map_eq_some_iff.mp interval
    rw [seconds] at blank
    have number := congrArg Interval.number blank
    have mark := congrArg Interval.partialMark blank
    have start := congrArg Interval.start blank
    exact ⟨y, opened', number, mark, start⟩

end Sys2Proof.Machine
end

section
/-! The timers that complete at a strobe issue (R101, R118, R128, R147). -/

namespace Sys2Proof.Machine

/-! ## The mark age and the arm timer (R118, R128) -/

/-- The advance of the strobe time leaves the quality and the mark age. -/
theorem TB.advance_age (t : TB) : t.advance.quality = t.quality ∧ t.advance.age = t.age := by
  have slew : ∀ x : TB, x.applySlew.quality = x.quality ∧ x.applySlew.age = x.age := fun x => by
    unfold TB.applySlew
    split <;> exact ⟨rfl, rfl⟩
  unfold TB.advance
  split
  · exact slew _
  · exact ⟨rfl, rfl⟩

/-- A saturating count one up. -/
theorem satSucc_eq_min (top n : Nat) : satSucc top n = min top (n + 1) := by
  unfold satSucc
  split <;> omega

/-- What the arm timer needs: a campaign in ARMING with its count, or one already in RUNNING with an interval open. -/
def ArmsOrRuns (timer : Nat) (s : State) : Prop :=
  (s.ia.state = .arming ∧ s.ia.armTimer = timer) ∨ (s.ia.state = .running ∧ s.ia.interval.isSome = true)

theorem ArmsOrRuns.flows {timer : Nat} {s t : State} (h : ArmsOrRuns timer s) (flow : Flows s t) : ArmsOrRuns timer t := by
  rcases flow.2 with ⟨state, armTimer, interval⟩ | ⟨-, running, opened⟩
  · refine h.imp (fun ⟨arming, count⟩ => ⟨state.trans arming, armTimer.trans count⟩) fun ⟨running, opened⟩ => ?_
    have same := congrArg Option.isSome interval
    simp only [Option.isSome_map] at same
    exact ⟨state.trans running, same.trans opened⟩
  · exact .inr ⟨running, opened⟩

/-- The parts other than the arm timer's keep what it needs. -/
theorem ArmsOrRuns.issuePart {timer : Nat} {s : State} (h : ArmsOrRuns timer s)
    (set : Option (Nat × PerModule (Option LaneFrame))) (rolled : Bool) {p : IssuePart} (other : p ≠ .arm) :
    ArmsOrRuns timer (issuePart set rolled s p) := by
  by_cases rollover : p = .rollover
  · subst rollover
    cases rolled with
    | false => exact h
    | true =>
      obtain ⟨state, armTimer, interval⟩ := campaign_rolloverReport s
      exact h.imp (fun ⟨arming, count⟩ => ⟨state.trans arming, armTimer.trans count⟩)
        fun ⟨running, opened⟩ => ⟨state.trans running, interval opened⟩
  · exact h.flows (flows_issuePart s set rolled rollover other)

/-- The arm timer at its limit takes the campaign into RUNNING with an interval open (R128, R129). -/
theorem armIssue_runs {timer : Nat} {s : State} (h : ArmsOrRuns timer s)
    (limit : s.sl.settings.armTimeout * 12800 ≤ timer + 1) :
    (armIssue s).ia.state = .running ∧ (armIssue s).ia.interval.isSome = true := by
  rcases h with ⟨arming, count⟩ | ⟨running, opened⟩
  · have reached : s.sl.settings.armTimeout * 12800 ≤ s.ia.armTimer + 1 := by rw [count]; exact limit
    simp only [armIssue, arming, if_true, State.setIa_sl, State.setIa_ia, reached]
    exact ⟨rfl, rfl⟩
  · have idle : armIssue s = s := if_neg (by rw [running]; decide)
    rw [idle]
    exact ⟨running, opened⟩

/-- A running campaign with an open interval stays so in every other part. -/
theorem running_issuePart {s : State} (h : s.ia.state = .running ∧ s.ia.interval.isSome = true)
    (set : Option (Nat × PerModule (Option LaneFrame))) (rolled : Bool) (p : IssuePart) (other : p ≠ .arm) :
    (issuePart set rolled s p).ia.state = .running ∧ (issuePart set rolled s p).ia.interval.isSome = true := by
  have kept : ArmsOrRuns (s.ia.armTimer) (issuePart set rolled s p) := ArmsOrRuns.issuePart (.inr h) set rolled other
  rcases kept with ⟨arming, -⟩ | runs
  · -- A part never takes a campaign out of RUNNING.
    by_cases rollover : p = .rollover
    · subst rollover
      cases rolled with
      | false => exact h
      | true =>
        obtain ⟨state, -, interval⟩ := campaign_rolloverReport s
        exact ⟨state.trans h.1, interval h.2⟩
    · rcases (flows_issuePart s set rolled rollover other).2 with ⟨state, -⟩ | ⟨-, running, opened⟩
      · rw [state, h.1] at arming
        cases arming
      · exact ⟨running, opened⟩
  · exact runs

theorem strobeIssue_arms {s : State} (arming : s.ia.state = .arming)
    (limit : s.sl.settings.armTimeout * 12800 ≤ s.ia.armTimer + 1) :
    (strobeIssue s).ia.state = .running ∧ (strobeIssue s).ia.interval.isSome = true := by
  refine strobeIssue_of_part .arm
    (P := fun u => ArmsOrRuns s.ia.armTimer u ∧ partView u = partView (issueFirst s))
    (Q := fun u => u.ia.state = .running ∧ u.ia.interval.isSome = true) ⟨.inl ⟨arming, rfl⟩, rfl⟩
    (fun q other u h => ⟨h.1.issuePart _ _ other, (partView_issuePart u _ _ q).trans h.2⟩) (fun u h => ?_)
    (fun q other u h => running_issuePart h _ _ q other)
  obtain ⟨arms, view⟩ := h
  simp only [partView, Prod.mk.injEq] at view
  obtain ⟨-, -, -, settings, -⟩ := view
  have timeout : u.sl.settings.armTimeout = s.sl.settings.armTimeout := by
    have h := congrArg Settings.armTimeout settings
    exact h
  exact armIssue_runs arms (by rw [timeout]; exact limit)

/-! ## The holdoff count (R101, R108) -/

/-- The Capture Unit stands, and no CAPTURE record waits in the queue whose departure would move it. -/
def Holds (c : CU) (s : State) : Prop := s.cu = c ∧ ∀ e ∈ s.rq.entries, e.record.body.isCapture = false

section
variable {c : CU} {s t : State}

theorem Holds.same (h : Holds c s) (cu : t.cu = s.cu) (entries : t.rq.entries = s.rq.entries) : Holds c t := by
  unfold Holds
  rw [cu, entries]
  exact h

theorem cu_departed {e : Entry} (plain : e.record.body.isCapture = false) : (departed s e).cu = s.cu := by
  unfold departed
  dsimp only
  rw [plain, if_neg Bool.false_ne_true]
  split <;> rfl

theorem holds_sweep (h : Holds c s) : Holds c (sweep s) := by
  obtain ⟨cu, plain⟩ := h
  refine ⟨?_, fun e member => ?_⟩
  · unfold sweep
    refine foldl_keeps (P := fun u => u.cu = c) (fun e member u same => ?_) cu
    exact (cu_departed (plain e (List.mem_filter.mp member).1)).trans same
  · rw [rq_sweep] at member
    exact plain e (List.mem_filter.mp member).1

/-- A record that is no CAPTURE record is handed on without a word to the Capture Unit. -/
theorem holds_handRecord {body : RecordBody} (plain : body.isCapture = false) (h : Holds c s) :
    Holds c (handRecord body s).2 := by
  cases number : recordNumber s with
  | none =>
    rw [handRecord_notCreated number]
    exact h.same rfl rfl
  | some n =>
    by_cases slot : hasSlot body.isEnd s.rq.entries = true
    · rw [handRecord_entered number slot]
      refine holds_sweep ⟨h.1, fun e member => ?_⟩
      rcases List.mem_append.mp member with old | new
      · exact h.2 e old
      · rw [List.mem_singleton.mp new]
        exact plain
    · rw [handRecord_lost number slot]
      exact h.same rfl rfl

theorem holds_applyUnlessHold (cause : SettingsCause) (h : Holds c s) : Holds c (applyUnlessHold cause s) := by
  unfold applyUnlessHold applyPending
  repeat' split
  · exact h
  · exact h
  · refine holds_handRecord (s := placePending s) rfl ?_
    exact h.same rfl rfl

theorem holds_closeInterval (stop : Stamp) (ended early : Bool) (h : Holds c s) :
    Holds c (closeInterval stop ended early s) := by
  unfold closeInterval
  split
  · exact h
  · next x _ =>
    exact (holds_handRecord (body := .interval (intervalBody s x stop ended early)) rfl h).same rfl rfl

theorem holds_rolloverReport (h : Holds c s) : Holds c (rolloverReport s) := by
  unfold rolloverReport
  split
  · exact (holds_applyUnlessHold _ (holds_closeInterval _ _ _ h)).same rfl rfl
  · exact h

theorem holds_closeEvent (e : OpenEvent) (cause : CloseCause) (b : Boundary) (stamp : Stamp) (h : Holds c s) :
    Holds c (closeEvent e cause b stamp s) := by
  have counted : ∀ swell cell, Holds c (countGrid swell cell s) := fun swell cell => by
    unfold countGrid
    repeat' split
    all_goals exact h.same rfl rfl
  have handed : ∀ swell cell (b : EventBody), Holds c (handRecord (.event b) (countGrid swell cell s)).2 :=
    fun swell cell b => holds_handRecord rfl (counted swell cell)
  unfold closeEvent
  dsimp only
  split <;> exact (handed _ _ _).same rfl rfl

theorem holds_readyTest (h : Holds c s) : Holds c (readyTest s) := by
  unfold readyTest
  split
  · exact h.same rfl rfl
  · exact h

theorem holds_windowWork (b : Boundary) (stamp : Stamp) (event : Bool) (values : PerChannel (Option Nat))
    (h : Holds c s) : Holds c (windowWork b stamp event values s) := by
  have calibrated : ∀ u : State, (applyPendingCal u).cu = u.cu ∧ (applyPendingCal u).rq.entries = u.rq.entries := fun u =>
    ⟨foldl_view (view := State.cu) _ (fun v m => by split <;> rfl) _,
      foldl_view (view := fun v => v.rq.entries) _ (fun v m => by split <;> rfl) _⟩
  have started : ∀ u : State, Holds c u → Holds c (startWindow b stamp event u) := fun u h =>
    h.same (calibrated u).1 (calibrated u).2
  unfold windowWork
  split
  · dsimp only
    split
    · exact started _ (h.same rfl rfl)
    · exact h.same rfl rfl
  · split
    · exact started _ h
    · exact h

section
variable (holdoff : c.state = .holdoff)
include holdoff

/-- In HOLDOFF a trigger is missed, and the Capture Unit stands (R106). -/
theorem holds_handTrigger (cause : TrigCause) (event k : Nat) (h : Holds c s) :
    Holds c (handTrigger cause event k s).2 := by
  have state : s.cu.state = .holdoff := by rw [h.1]; exact holdoff
  unfold handTrigger
  split
  · simp only [trigger, state]
    exact h.same rfl rfl
  · exact h

theorem holds_escalate (w : BoundaryWork) (h : Holds c s) : Holds c (escalate w s) := by
  unfold escalate
  split
  · exact h
  · split
    · exact (holds_handTrigger holdoff _ _ _ h).same rfl rfl
    · exact h

omit holdoff in
theorem holds_endTests (w : BoundaryWork) (ended : Nat → Bool) (e : OpenEvent) (h : Holds c s) :
    Holds c (endTests w ended e s) := by
  unfold endTests
  repeat' split
  · exact holds_closeEvent _ _ _ _ h
  · exact holds_closeEvent _ _ _ _ h
  · exact h

theorem holds_runDip (w : BoundaryWork) (h : Holds c s) : Holds c (runDip w s) := by
  have opened : Holds c (openDip w s) :=
    (holds_handTrigger (s := s.setEd { s.ed with eventNumber := nextEvent s }) holdoff _ _ _ (h.same rfl rfl)).same rfl rfl
  have updated : ∀ x, Holds c (escalate w (s.setEd x)) := fun x => holds_escalate holdoff w (h.same rfl rfl)
  unfold runDip
  split
  · split
    · exact holds_escalate holdoff w opened
    · exact h
  · dsimp only
    split
    · exact updated _
    · exact holds_endTests w _ _ (updated _)

theorem holds_runSwell (w : BoundaryWork) (h : Holds c s) : Holds c (runSwell w s) := by
  have opened : Holds c (openSwell w s) :=
    (holds_handTrigger (s := s.setEd { s.ed with eventNumber := nextEvent s }) holdoff _ _ _ (h.same rfl rfl)).same rfl rfl
  unfold runSwell
  split
  · split
    · exact opened
    · exact h
  · exact holds_endTests w _ _ (h.same rfl rfl)

theorem holds_boundaryWork (b : Boundary) (k : Nat) (h : Holds c s) : Holds c (boundaryWork b k s).2 := by
  have events : ∀ (w : BoundaryWork) (u : State), Holds c u → Holds c (boundaryEvents w u).2 := fun w u h => by
    unfold boundaryEvents
    dsimp only
    split
    · exact (holds_runSwell holdoff w (holds_runDip holdoff w h)).same rfl rfl
    · exact h.same rfl rfl
  unfold boundaryWork
  exact holds_windowWork _ _ _ _ (events _ _ (h.same rfl rfl))

theorem holds_place (position : Nat) (kind : BoundaryKind) (k : Nat) (h : Holds c s) :
    Holds c (place position kind k s).2 := by
  unfold place
  exact holds_boundaryWork holdoff _ _ (h.same rfl rfl)

theorem holds_placeLocked (b : Boundary) (limit k : Nat) (crossing : Option Nat) (h : Holds c s) :
    Holds c (placeLocked b limit k crossing s).2 := by
  unfold placeLocked
  dsimp only
  split
  · exact holds_place holdoff _ _ _ (h.same rfl rfl)
  · split
    · exact (holds_place holdoff _ _ _ h).same rfl rfl
    · exact h

theorem holds_placement (x : CondSet) (h : Holds c s) : Holds c (placement x s).2 := by
  have due : ∀ d, Holds c (placeDue d x.k s).2 := fun d => by
    unfold placeDue
    split
    · exact holds_place holdoff _ _ _ h
    · exact h
  unfold placement
  repeat' split
  · exact holds_place holdoff _ _ _ h
  · exact due _
  · exact due _
  · exact due _
  · exact holds_placeLocked holdoff _ _ _ _ h

theorem holds_acquisition (x : CondSet) (h : Holds c s) : Holds c (acquisition x s).2 := by
  have changed : ∀ b u, Holds c u → Holds c (refChanged b u) := fun b u h => by
    unfold refChanged reportRefChange
    repeat' split
    all_goals exact h.same rfl rfl
  have entered : ∀ order u, Holds c u → Holds c (enterLocked order u) := fun order u h => by
    have locked : Holds c (u.updCt CT.lockOn) := h.same rfl rfl
    cases order with
    | readyReportPlace => exact changed _ _ (holds_readyTest locked)
    | reportReadyPlace => exact holds_readyTest (changed _ _ locked)
    | reportPlaceReady => exact changed _ _ locked
  have locks : ∀ position, Holds c (lock x position s).2 := fun position => by
    have drawn : Holds c (s.setDraws (s.draws + 1)) := h.same rfl rfl
    have taken := entered (.ofDraw s.draws) _ drawn
    unfold lock
    simp only [draw]
    split
    · exact holds_placeLocked holdoff _ _ _ _ taken
    · exact taken
  unfold acquisition
  split
  · split
    · exact h
    · dsimp only
      split
      · exact locks _
      · exact h.same rfl rfl
  · exact h

theorem holds_trackTake (x : CondSet) (h : Holds c s) : Holds c (trackTake x s) := by
  have decided : ∀ p u, Holds c u → Holds c (decideAt p u) := fun p u h => by
    unfold decideAt
    split
    · next values =>
      obtain ⟨t, eq⟩ := decideReference_setCt u values
      rw [eq]
      exact h.same rfl rfl
    · exact h
  unfold trackTake
  dsimp only
  exact holds_readyTest ((decided _ _ (holds_acquisition holdoff x (holds_placement holdoff x h))).same rfl rfl)

end

/-- The forwarder leaves the Capture Unit and the record queue. -/
theorem holds_forwardHeld (collecting : Bool) (newest : CondSet) (h : Holds c s) : Holds c (forwardHeld collecting newest s) := by
  have pushed : ∀ (u : State) f, (pushFrame u f).cu = u.cu ∧ (pushFrame u f).rq.entries = u.rq.entries := fun u f => by
    unfold pushFrame
    split <;> exact ⟨rfl, rfl⟩
  unfold forwardHeld
  dsimp only
  split
  · unfold forward
    split
    · exact h.same (foldl_view (view := State.cu) _ (fun u m => (pushed u _).1) _)
        (foldl_view (view := fun v => v.rq.entries) _ (fun u m => (pushed u _).2) _)
    · exact h.same rfl rfl
  · exact h.same rfl rfl

/-- The parts other than the sample's hand on no CAPTURE record and make no trigger. -/
theorem holds_issuePart (set : Option (Nat × PerModule (Option LaneFrame))) (rolled : Bool) {p : IssuePart}
    (other : p ≠ .sample) (h : Holds c s) : Holds c (issuePart set rolled s p) := by
  have expired : ∀ (u : State) m, (expireModule u m).cu = u.cu ∧ (expireModule u m).rq.entries = u.rq.entries := fun u m => by
    unfold expireModule
    dsimp only
    split <;> exact ⟨rfl, rfl⟩
  cases p with
  | sample => exact absurd rfl other
  | monitor =>
    change Holds c (monitorIssue s)
    unfold monitorIssue
    split
    · exact holds_readyTest (h.same (foldl_view (view := State.cu) _ (fun u m => (expired u m).1) _)
        (foldl_view (view := fun v => v.rq.entries) _ (fun u m => (expired u m).2) _))
    · exact h.same rfl rfl
  | rollover =>
    cases rolled with
    | true => exact holds_rolloverReport h
    | false => exact h
  | arm =>
    change Holds c (armIssue s)
    unfold armIssue
    dsimp only
    repeat' split
    all_goals exact h.same rfl rfl
  | flush =>
    change Holds c (flushAge s)
    unfold flushAge
    split <;> exact h.same rfl rfl

end

/-- With the last set of a holdoff taken the Capture Unit is FILLING (R101). -/
theorem takeSet_endsHoldoff {c : CU} {s : State} (holdoff : c.state = .holdoff) (last : c.holdoff = 1) (h : Holds c s)
    (k : Nat) (frames : PerModule (Option LaneFrame)) :
    ∃ ring, Holds { c with ring := ring, holdoff := 0, state := .filling } (takeSet k frames s) := by
  have added : Holds c (addSet (condition s.cc.table k frames) (trackTake (condition s.cc.table k frames) s)) :=
    (holds_trackTake holdoff _ h).same rfl rfl
  unfold takeSet
  simp only [draw]
  generalize addSet (condition s.cc.table k frames) (trackTake (condition s.cc.table k frames) s) = u at added ⊢
  have cu := added.1
  have taken : captureTake (condition s.cc.table k frames) u =
      u.setCu { c with ring := ringWith (condition s.cc.table k frames) u, holdoff := 0, state := .filling } := by
    simp only [captureTake, cu, holdoff, last]
    rfl
  refine ⟨ringWith (condition s.cc.table k frames) u, holds_forwardHeld _ _ (Holds.same (s := u.setCu { c with
    ring := ringWith (condition s.cc.table k frames) u, holdoff := 0, state := .filling }) ⟨rfl, added.2⟩ ?_ ?_)⟩
  · rw [taken]
    rfl
  · rw [taken]
    rfl

theorem strobeIssue_endsHoldoff {s : State} (holdoff : s.cu.state = .holdoff) (last : s.cu.holdoff = 1)
    (enough : 4 ≤ nextStrobe s) (plain : ∀ e ∈ s.rq.entries, e.record.body.isCapture = false) :
    (strobeIssue s).cu.state = .filling ∧ (strobeIssue s).cu.holdoff = 0 := by
  have set : setOf s = some (nextStrobe s - 4, closingFrames (nextStrobe s) s) := by
    simp only [setOf, setAtIssue, if_pos enough, Option.map_some]
  have ended : ∃ ring, Holds { s.cu with ring := ring, holdoff := 0, state := .filling } (strobeIssue s) := by
    refine strobeIssue_of_part .sample (P := Holds s.cu)
      (Q := fun u => ∃ ring, Holds { s.cu with ring := ring, holdoff := 0, state := .filling } u) ⟨rfl, plain⟩
      (fun q other u h => holds_issuePart _ _ other h) (fun u h => ?_)
      (fun q other u ⟨ring, h⟩ => ⟨ring, holds_issuePart _ _ other h⟩)
    have taken : issuePart (setOf s) s.tb.rollsOver u .sample = takeSet (nextStrobe s - 4) (closingFrames (nextStrobe s) s) u := by
      rw [set]
      rfl
    rw [taken]
    exact takeSet_endsHoldoff holdoff last h _ _
  obtain ⟨ring, cu, -⟩ := ended
  rw [cu]
  exact ⟨rfl, rfl⟩

/-! ## The flush age (R147) -/

/-- The flush mark moves in its own part alone. -/
theorem flushDue_issuePart (s : State) (set : Option (Nat × PerModule (Option LaneFrame))) (rolled : Bool)
    {p : IssuePart} (other : p ≠ .flush) : (issuePart set rolled s p).sw.flushDue = s.sw.flushDue := by
  cases p with
  | flush => exact absurd rfl other
  | sample =>
    cases set with
    | some x => exact (takes_takeSet s x.1 x.2).flush
    | none => rfl
  | monitor =>
    have expired : ∀ (u : State) m, (expireModule u m).sw.flushDue = u.sw.flushDue := fun u m => by
      unfold expireModule
      dsimp only
      split <;> rfl
    change (monitorIssue s).sw.flushDue = _
    unfold monitorIssue
    split
    · exact (takes_readyTest _).flush.trans (foldl_view (view := fun u => u.sw.flushDue) _ expired _)
    · rfl
  | rollover =>
    cases rolled with
    | false => rfl
    | true =>
      have handed : ∀ body u, (handRecord body u).2.sw.flushDue = u.sw.flushDue := fun body u => by
        have sw := congrArg State.sw (recordless_handRecord u body)
        have flush := congrArg SW.flushDue sw
        exact flush
      have closed : ∀ stamp ended early, (closeInterval stamp ended early s).sw.flushDue = s.sw.flushDue := by
        intro stamp ended early
        unfold closeInterval
        split
        · rfl
        · next x _ => exact handed (.interval (intervalBody s x stamp ended early)) s
      change (rolloverReport s).sw.flushDue = _
      unfold rolloverReport
      split
      · refine Eq.trans ?_ (closed ⟨s.tb.seconds, 0⟩ false false)
        change (applyUnlessHold .interval (closeInterval ⟨s.tb.seconds, 0⟩ false false s)).sw.flushDue = _
        unfold applyUnlessHold applyPending
        repeat' split
        · rfl
        · rfl
        · exact handed _ _
      · rfl
  | arm =>
    change (armIssue s).sw.flushDue = _
    unfold armIssue
    dsimp only
    repeat' split
    all_goals rfl

/-- The oldest byte of the page buffer at the flush age makes a flush due. -/
theorem strobeIssue_flushes {s : State} (waiting : s.sw.buffer ≠ [])
    (age : s.sl.settings.flushAge * 12800 ≤ nextStrobe s - s.sw.oldest) : (strobeIssue s).sw.flushDue = true := by
  refine strobeIssue_of_part .flush (P := fun u => partView u = partView (issueFirst s))
    (Q := fun u => u.sw.flushDue = true) rfl (fun q _ u h => (partView_issuePart u _ _ q).trans h) (fun u view => ?_)
    (fun q other u h => (flushDue_issuePart u _ _ other).trans h)
  simp only [partView, Prod.mk.injEq] at view
  obtain ⟨lr, -, sw, settings, -⟩ := view
  have buffer : u.sw.buffer = s.sw.buffer := by
    have h := congrArg SW.buffer sw
    exact h
  have oldest : u.sw.oldest = s.sw.oldest := by
    have h := congrArg SW.oldest sw
    exact h
  have flushAge' : u.sl.settings.flushAge = s.sl.settings.flushAge := by
    have h := congrArg Settings.flushAge settings
    exact h
  have strobe : u.lr.strobe = nextStrobe s := congrArg LR.strobe lr
  have due : u.sw.buffer ≠ [] ∧ u.sl.settings.flushAge * 12800 ≤ u.lr.strobe - u.sw.oldest := by
    rw [buffer, oldest, flushAge', strobe]
    exact ⟨waiting, age⟩
  change (flushAge u).sw.flushDue = true
  rw [flushAge, if_pos due]
  rfl

/-- The mark age runs while TIME_SOURCE is MARKED, and the quality follows it (R118). -/
theorem TB.grow_marked {t : TB} {n : Nat} (age : t.age = some n) :
    t.grow .marked = { t with
      age := some (satSucc 4294967295 n)
      quality := if t.quality = .synced ∧ 3840000 < satSucc 4294967295 n then .drifting else t.quality } := by
  simp only [TB.grow, age]

/-- A mark age that comes to exceed its limit makes a synced quality DRIFTING (R118). -/
theorem TB.grow_drifts {t : TB} {n : Nat} (synced : t.quality = .synced) (age : t.age = some n) (old : 3840000 ≤ n) :
    (t.grow .marked).quality = .drifting ∧ (t.grow .marked).age = some (satSucc 4294967295 n) := by
  have past : 3840000 < satSucc 4294967295 n := by
    rw [satSucc_eq_min]
    omega
  rw [TB.grow_marked age]
  exact ⟨if_pos ⟨synced, past⟩, rfl⟩

/-- A synced quality becomes DRIFTING at the strobe issue that takes the mark age over its limit (R118). -/
theorem strobeIssue_drifts {s : State} {n : Nat} (marked : s.sl.settings.timeSource = .marked)
    (synced : s.tb.quality = .synced) (age : s.tb.age = some n) (old : 3840000 ≤ n) :
    (strobeIssue s).tb.quality = .drifting ∧ (strobeIssue s).tb.age = some (min 4294967295 (n + 1)) := by
  obtain ⟨quality', age'⟩ := TB.advance_age s.tb
  have grown : (strobeIssue s).tb = (s.tb.advance).grow .marked := by
    rw [(clock_strobeIssue s).2, ← marked]
    rfl
  rw [grown, ← satSucc_eq_min]
  exact TB.grow_drifts (quality'.trans synced) (age'.trans age) old

/-- A time-driven command is the strobe issue when its condition is met. -/
theorem exec_drifting {s : State} (due : driftDue s = true) : exec .drifting s = .next (settle (strobeIssue s)) :=
  congrArg (fun t => Host.Outcome.next (settle t)) (issueWhen_due s due)

theorem exec_armTimeout {s : State} (due : armDue s = true) : exec .armTimeout s = .next (settle (strobeIssue s)) :=
  congrArg (fun t => Host.Outcome.next (settle t)) (issueWhen_due s due)

theorem exec_holdoffEnd {s : State} (due : holdoffDue s = true) : exec .holdoffEnd s = .next (settle (strobeIssue s)) :=
  congrArg (fun t => Host.Outcome.next (settle t)) (issueWhen_due s due)

theorem exec_flushAgeExpiry {s : State} (due : flushAgeDue s = true) :
    exec .flushAgeExpiry s = .next (settle (strobeIssue s)) :=
  congrArg (fun t => Host.Outcome.next (settle t)) (issueWhen_due s due)

/-- The strobe and the page buffer after a strobe issue. -/
theorem strobe_buffer_strobeIssue (s : State) :
    (strobeIssue s).lr.strobe = nextStrobe s ∧ (strobeIssue s).sw.buffer = s.sw.buffer := by
  have view := partView_strobeIssue s
  simp only [partView, Prod.mk.injEq] at view
  obtain ⟨lr, -, sw, -⟩ := view
  have strobe := congrArg LR.strobe lr
  have buffer := congrArg SW.buffer sw
  exact ⟨strobe, buffer⟩

/-- Settles O26: each timer in the part of the issue that it belongs to. -/
theorem timersAct : Obligations.TimersAct := by
  unfold Obligations.TimersAct
  refine ⟨fun s n marked synced age old => ?_, fun s arming limit => ?_, fun s holdoff last enough plain => ?_,
    fun s waiting age => ?_⟩
  · have due : driftDue s = true := by simp [driftDue, marked, synced, age, old]
    exact ⟨_, exec_drifting due, strobeIssue_drifts marked synced age old⟩
  · have due : armDue s = true := by simp [armDue, arming, limit]
    exact ⟨_, exec_armTimeout due, strobeIssue_arms arming limit⟩
  · have due : holdoffDue s = true := by simp [holdoffDue, holdoff, last, setAtIssue, enough]
    exact ⟨_, exec_holdoffEnd due, strobeIssue_endsHoldoff holdoff last enough plain⟩
  · have due : flushAgeDue s = true := by simp [flushAgeDue, waiting, age]
    obtain ⟨strobe, buffer⟩ := strobe_buffer_strobeIssue s
    exact ⟨_, exec_flushAgeExpiry due, strobeIssue_flushes waiting age, buffer, strobe⟩

end Sys2Proof.Machine
end

section
/-! Marks (R115 to R117), and what a lane frame and the expiry of the monitor window do (chapter 1). -/

namespace Sys2Proof.Machine

/-! ## The reports of a step (R69, R125) -/

/-- The blocks that no record and no application of the pending set touches. -/
def measures (s : State) := (s.lr, s.mm, s.cc, s.ct, s.tb)

section
variable (s : State)

theorem measures_of_recordless {s t : State} (h : recordless t = recordless s) : measures t = measures s := by
  have lr := congrArg State.lr h
  have mm := congrArg State.mm h
  have cc := congrArg State.cc h
  have ct := congrArg State.ct h
  have tb := congrArg State.tb h
  simp only [measures, Prod.mk.injEq]
  exact ⟨lr, mm, cc, ct, tb⟩

@[simp] theorem measures_applyUnlessHold (cause : SettingsCause) : measures (applyUnlessHold cause s) = measures s := by
  unfold applyUnlessHold applyPending
  repeat' split
  · rfl
  · rfl
  · exact (measures_of_recordless (recordless_settingsRecord _ _ _)).trans rfl

@[simp] theorem measures_closeInterval (stop : Stamp) (ended early : Bool) :
    measures (closeInterval stop ended early s) = measures s := by
  unfold closeInterval
  split
  · rfl
  · next x _ =>
    have handed := measures_of_recordless (recordless_handRecord s (.interval (intervalBody s x stop ended early)))
    exact handed

@[simp] theorem measures_reportTimeStep : measures (reportTimeStep s) = measures s := by
  unfold reportTimeStep
  repeat' split
  all_goals rfl

@[simp] theorem measures_stepReport (before after : Stamp) : measures (stepReport before after s) = measures s := by
  unfold stepReport
  split
  · rfl
  · next x _ =>
    exact (measures_applyUnlessHold (closeInterval before false true s) .early).trans (measures_closeInterval s _ _ _)

/-! ## Latched flags stay latched -/

/-- A flag set stays set. -/
def KeepsFlags (s t : State) : Prop := ∀ i, s.sl.latched.getLsbD i = true → t.sl.latched.getLsbD i = true

theorem KeepsFlags.of_sl {s t : State} (h : t.sl.latched = s.sl.latched) : KeepsFlags s t := fun i set => by rw [h, set]

theorem KeepsFlags.trans {s t u : State} (h : KeepsFlags s t) (g : KeepsFlags t u) : KeepsFlags s u := fun i set => g i (h i set)

theorem keepsFlags_handRecord (body : RecordBody) : KeepsFlags s (handRecord body s).2 := by
  cases number : recordNumber s with
  | none =>
    rw [handRecord_notCreated number]
    exact .of_sl rfl
  | some n =>
    by_cases slot : hasSlot body.isEnd s.rq.entries = true
    · rw [handRecord_entered number slot]
      exact .of_sl (congrArg SL.latched (sl_sweep _))
    · rw [handRecord_lost number slot]
      intro i set
      have joined : (countLost 1 (s.setRq (s.rq.numbered n body))).sl.latched = s.sl.latched ||| Flag.mask .recordLoss := rfl
      rw [joined, BitVec.getLsbD_or, set, Bool.true_or]

theorem keepsFlags_stepReport (before after : Stamp) : KeepsFlags s (stepReport before after s) := by
  have closed : KeepsFlags s (closeInterval before false true s) := by
    unfold closeInterval
    split
    · exact .of_sl rfl
    · next x _ => exact keepsFlags_handRecord s (.interval (intervalBody s x before false true))
  have applied : ∀ u : State, KeepsFlags u (applyUnlessHold .early u) := fun u => by
    unfold applyUnlessHold applyPending
    repeat' split
    · exact .of_sl rfl
    · exact .of_sl rfl
    · exact keepsFlags_handRecord (placePending u) _
  unfold stepReport
  split
  · exact .of_sl rfl
  · exact closed.trans (applied _)

/-! ## Marks (R115 to R117) -/

/-- The payload of a MARK reads back as its seconds and microseconds. -/
theorem fields_markPayload {seconds micros : Nat} (secondsFit : seconds < 4294967296) (microsFit : micros < 4294967296) :
    (markPayload seconds micros).length = 8 ∧ fieldNat (markPayload seconds micros) 0 4 = seconds ∧
      fieldNat (markPayload seconds micros) 4 4 = micros :=
  ⟨rfl, leNat_leBytes 4 seconds secondsFit, leNat_leBytes 4 micros microsFit⟩

/-- A MARK frame that checks brings its payload while the link is UP. -/
theorem markFrame_inboundFrame {payload : List Byte} (fits : payload.length ≤ 1024) (periods : Nat) :
    markFrame (inboundFrame 2 payload) periods s = if s.sl.linkUp then markArrives payload periods s else s := by
  have read : readLinkFrame (inboundFrame 2 payload) = .mark payload := readLinkFrame_inboundFrame fits (by decide)
  simp only [markFrame, read]

/-- A whole number of ticks below 2^32 seconds as strobe time. -/
theorem TB.setTicks_ticks {ticks : Int} (fits : ticks < 4294967296 * 2048000000) (t : TB) :
    (t.setTicks ticks).seconds * 2048000000 + (t.setTicks ticks).sub = ticks.toNat ∧ (t.setTicks ticks).sub < 2048000000 := by
  have whole : ticks.toNat / 2048000000 < 4294967296 := by omega
  have seconds : (t.setTicks ticks).seconds = ticks.toNat / 2048000000 := Nat.mod_eq_of_lt whole
  have sub : (t.setTicks ticks).sub = ticks.toNat % 2048000000 := rfl
  rw [seconds, sub]
  omega

/-- The state just after a step has set the time, before its reports (R117). -/
def steppedTime (seconds micros periods : Nat) (s : State) : State :=
  s.setTb { s.tb.setTicks ((seconds * secondTicks + micros * 2048 : Nat) - (periodTicks periods : Nat)) with slew := 0 }

theorem stepTime_eq (seconds micros periods : Nat) :
    stepTime seconds micros periods s =
      stepReport (nowStamp s) (nowStamp (reportTimeStep (latch .timeStep (steppedTime seconds micros periods s))))
        (reportTimeStep (latch .timeStep (steppedTime seconds micros periods s))) := by
  have now : nowStamp (reportTimeStep (latch .timeStep (steppedTime seconds micros periods s))) =
      nowStamp (steppedTime seconds micros periods s) := by
    have same := measures_reportTimeStep (latch .timeStep (steppedTime seconds micros periods s))
    simp only [measures, Prod.mk.injEq] at same
    obtain ⟨-, -, -, -, tb⟩ := same
    rw [nowStamp, tb]
    rfl
  rw [now]
  rfl

/-- A step leaves the measurement blocks but the time it sets. -/
theorem measures_stepTime (seconds micros periods : Nat) :
    measures (stepTime seconds micros periods s) = measures (steppedTime seconds micros periods s) := by
  rw [stepTime_eq, measures_stepReport, measures_reportTimeStep]
  rfl

/-- TIME_STEP is latched after a step (R117). -/
theorem flag_stepTime (seconds micros periods : Nat) :
    (stepTime seconds micros periods s).sl.latched.getLsbD 13 = true := by
  rw [stepTime_eq]
  refine keepsFlags_stepReport _ _ _ 13 ?_
  have reported : ∀ u : State, (reportTimeStep u).sl = u.sl := fun u => by
    unfold reportTimeStep
    repeat' split
    all_goals rfl
  rw [reported]
  simp [latch, Flag.mask, Flag.bit]

/-- The open interval gives way to the next one, PARTIAL, at a step (R125). -/
theorem interval_stepReport {x : Interval} (opened : s.ia.interval = some x) (before after : Stamp) :
    (stepReport before after s).ia.interval = some (.opened (x.number + 1) after true) := by
  simp only [stepReport, opened]
  rfl

theorem interval_stepTime {x : Interval} (opened : s.ia.interval = some x) (seconds micros periods : Nat) :
    ∃ y, (stepTime seconds micros periods s).ia.interval = some y ∧ y.number = x.number + 1 ∧ y.partialMark = true := by
  have reported : ∀ u : State, (reportTimeStep u).ia = u.ia := fun u => by
    unfold reportTimeStep
    repeat' split
    all_goals rfl
  rw [stepTime_eq]
  refine ⟨_, interval_stepReport _ (x := x) ?_ _ _, rfl, rfl⟩
  rw [reported]
  exact opened

theorem exec_markArrival (frame : List Byte) (periods : BitVec 11) :
    exec (.markArrival frame periods) s = .next (settle (markFrame frame periods.toNat s)) := rfl

end

/-- Settles O27: the mark is discarded, or accepted, and then slews or steps by its offset. -/
theorem markSlewsOrSteps : Obligations.MarkSlewsOrSteps := by
  unfold Obligations.MarkSlewsOrSteps
  refine ⟨fun s payload periods short fits => ?_, fun s seconds micros periods secondsFit microsFit => ?_⟩
  · rw [exec_markArrival, markFrame_inboundFrame s fits]
    have ignored : markArrives payload periods.toNat s = s := if_pos (.inl short)
    rw [ignored, ite_self]
  · obtain ⟨length, secondsField, microsField⟩ := fields_markPayload secondsFit microsFit
    intro frame late mark offset
    have arrives : markFrame frame periods.toNat s =
        if s.sl.linkUp then markArrives (markPayload seconds micros) periods.toNat s else s :=
      markFrame_inboundFrame s (by rw [length]; decide) _
    have accepted : s.sl.settings.timeSource = .marked → micros ≤ 999999 →
        markArrives (markPayload seconds micros) periods.toNat s = acceptMark seconds micros periods.toNat s := by
      intro marked small
      simp only [markArrives, length, secondsField, microsField, marked, ne_eq, not_true_eq_false, reduceCtorEq, or_self,
        if_false, if_neg (Nat.not_lt.mpr small)]
    have offset' : markOffset s.tb seconds micros periods.toNat = offset := rfl
    rw [exec_markArrival, arrives]
    refine ⟨fun discarded => ?_, fun up marked small within => ?_, fun up marked small beyond => ?_⟩
    · rcases discarded with down | free | large
      · rw [down, if_neg Bool.false_ne_true]
      · have ignored : markArrives (markPayload seconds micros) periods.toNat s = s := if_pos (.inr free)
        rw [ignored, ite_self]
      · have ignored : markArrives (markPayload seconds micros) periods.toNat s = s := by
          simp only [markArrives, microsField, large, if_true, ite_self]
        rw [ignored, ite_self]
    · rw [if_pos up, accepted marked small, acceptMark, offset']
      exact congrArg (fun t => Host.Outcome.next (settle t)) (if_pos within)
    · rw [if_pos up, accepted marked small, acceptMark, offset']
      let synced := s.setTb { s.tb with quality := .synced, age := some 0 }
      have far : ¬ offset.natAbs ≤ synced.sl.settings.stepLimitMs * 2048000 := Nat.not_le.mpr beyond
      refine ⟨stepTime seconds micros periods.toNat synced,
        congrArg (fun t => Host.Outcome.next (settle t)) (if_neg far), ?_⟩
      have same := measures_stepTime synced seconds micros periods.toNat
      simp only [measures, Prod.mk.injEq] at same
      obtain ⟨lr, mm, cc, ct, tb⟩ := same
      have ticks : mark - (late : Int) < 4294967296 * 2048000000 := by
        simp only [mark]
        omega
      obtain ⟨time, sub⟩ := TB.setTicks_ticks ticks synced.tb
      rw [tb]
      exact ⟨time, sub, rfl, rfl, rfl, flag_stepTime synced _ _ _, lr, mm, cc, ct,
        fun x opened => interval_stepTime synced opened _ _ _⟩

end Sys2Proof.Machine
end

section
/-! What a lane frame does (R3, R4, R8, R14) and the expiry of the monitor window (R9 to R13). -/

namespace Sys2Proof.Machine

/-! ## The outcomes of a lane frame -/

/-- The monitor state at an acceptance, as one change of each of its fields (R4, R8, R14). -/
theorem ModMon.accept_eq {x : ModMon} (enabled : x.state ≠ .disabled) (fault : Bool) :
    x.accept fault =
      { x with
        accepted := satSucc 65535 x.accepted
        fault := x.fault || fault
        state := if x.state = .absent ∨ (x.state = .qualified ∧ fault = true) then .unqualified else x.state
        good := if (x.state = .absent ∨ (x.state = .qualified ∧ fault = true)) ∨
          (x.state = .unqualified ∧ fault = true) then 0 else x.good
        bad := if x.state = .absent ∨ (x.state = .qualified ∧ fault = true) then 0 else x.bad
        joined := x.joined || x.state == .absent } := by
  cases state : x.state with
  | disabled => exact absurd state enabled
  | absent => simp [ModMon.accept, state]
  | qualified => cases fault <;> simp [ModMon.accept, state]
  | unqualified => cases fault <;> simp [ModMon.accept, state]

/-- A frame that does not check, or names no module, is none (R3). -/
theorem readLaneFrame_bad {frame : List Byte}
    (bad : frame.length ≠ 10 ∨ crc8 (frame.take 9) ≠ (frame.drop 9).headD 0 ∨ 4 ≤ fieldNat frame 0 1) :
    readLaneFrame frame = none := by
  unfold readLaneFrame
  split
  · next checks =>
    obtain ⟨length, crc⟩ := checks
    rcases bad with short | wrong | unknown
    · exact absurd length short
    · exact absurd crc wrong
    · exact dif_neg (Nat.not_lt.mpr unknown)
  · rfl

/-- Settles O11: the frame is matched with an open slot of its module, and the acceptance changes the module's state as the
spec lists it. -/
theorem laneFrameOutcomes : Obligations.LaneFrameOutcomes := by
  unfold Obligations.LaneFrameOutcomes
  refine ⟨fun s frame m sequence f read enabled => ?_, fun s frame bad => ?_, fun s frame m sequence f read disabled => ?_⟩
  · have matched := laneArrival_of_read read enabled
    have arrived : exec (.laneFrameArrival frame) s = .next (settle (matchFrame m sequence f s)) := by
      rw [exec_laneFrameArrival, matched]
    simp only [arrived, matchFrame]
    cases (s.lr.slots.get m).find? fun slot => slot.index % 256 == sequence with
    | none => rfl
    | some slot =>
      cases held : slot.frame with
      | some g => simp only [held]
      | none =>
        simp only [held, ModMon.accept_eq enabled]
        rfl
  · have ignored : laneArrival frame s = s := by simp only [laneArrival, readLaneFrame_bad bad]
    rw [exec_laneFrameArrival, ignored]
  · have ignored : laneArrival frame s = s := by simp only [laneArrival, read, disabled, if_true]
    rw [exec_laneFrameArrival, ignored]

/-! ## Verdicts and streaks (R10 to R12) -/

/-- A setting of 0 is taken as 1. -/
theorem max_one_le_succ (times n : Nat) : max 1 times ≤ n + 1 ↔ times ≤ n + 1 := by omega

/-- What a verdict makes of a module in UNQUALIFIED. -/
theorem ModMon.judge_unqualified {x : ModMon} (state : x.state = .unqualified) (goodTimes failTimes : Nat) :
    x.judge goodTimes failTimes .accepted =
      (if goodTimes ≤ x.good + 1 then { x with state := .qualified, good := 0, bad := 0 }
        else { x with good := x.good + 1 }) ∧
    x.judge goodTimes failTimes .rejected = { x with good := 0 } ∧ x.judge goodTimes failTimes .neutral = x := by
  simp only [ModMon.judge, state, max_one_le_succ, and_self]

/-- What a verdict makes of a module in QUALIFIED. -/
theorem ModMon.judge_qualified {x : ModMon} (state : x.state = .qualified) (goodTimes failTimes : Nat) :
    x.judge goodTimes failTimes .rejected =
      (if failTimes ≤ x.bad + 1 then { x with state := .unqualified, good := 0, bad := 0 }
        else { x with bad := x.bad + 1 }) ∧
    x.judge goodTimes failTimes .accepted = { x with bad := 0 } ∧ x.judge goodTimes failTimes .neutral = x := by
  simp only [ModMon.judge, state, max_one_le_succ, and_self]

theorem ModMon.judge_none (x : ModMon) (goodTimes failTimes : Nat) : x.judge goodTimes failTimes .none = x := by
  cases state : x.state <;> simp only [ModMon.judge, state]

/-- The verdict of a window without the fault mark, by the size of the deviation from 128. -/
theorem verdictOf_iff (accept reject count : Nat) :
    ((128 ≤ count + min accept reject ∧ count ≤ 128 + min accept reject) ↔
      verdictOf accept reject false count = .accepted) ∧
    ((count + reject < 128 ∨ 128 + reject < count) ↔ verdictOf accept reject false count = .rejected) ∧
    (((128 ≤ count + reject ∧ count ≤ 128 + reject) ∧
        (count + min accept reject < 128 ∨ 128 + min accept reject < count)) ↔
      verdictOf accept reject false count = .neutral) := by
  unfold verdictOf
  simp only [Bool.false_eq_true, if_false]
  have near : (((count : Int) - 128).natAbs ≤ min accept reject) ↔
      (128 ≤ count + min accept reject ∧ count ≤ 128 + min accept reject) := by omega
  have far : reject < ((count : Int) - 128).natAbs ↔ (count + reject < 128 ∨ 128 + reject < count) := by omega
  by_cases within : ((count : Int) - 128).natAbs ≤ min accept reject
  · rw [if_pos within]
    simp only [← near, ← far, reduceCtorEq, iff_false, true_iff, iff_true]
    omega
  · rw [if_neg within]
    by_cases beyond : reject < ((count : Int) - 128).natAbs
    · rw [if_pos beyond]
      simp only [← near, ← far, reduceCtorEq, iff_false, iff_true]
      omega
    · rw [if_neg beyond]
      simp only [← near, ← far, reduceCtorEq, iff_false, iff_true]
      omega

/-! ## The expiry of the monitor window (R9 to R13) -/

/-- A module's value after one module is written. -/
theorem PerModule.get_set {α : Type} (p : PerModule α) (k m : Fin 4) (x : α) :
    (p.set k x).get m = if m = k then x else p.get m := by
  match m, k with
  | 0, 0 | 0, 1 | 0, 2 | 0, 3 | 1, 0 | 1, 1 | 1, 2 | 1, 3 | 2, 0 | 2, 1 | 2, 2 | 2, 3 | 3, 0 | 3, 1 | 3, 2 | 3, 3 => rfl

/-- A module has an entry in the fetch queue. -/
def Awaited (m : Fin 4) (s : State) : Prop := ∃ e ∈ s.mb.queue, e.module = m

/-- A fetch request leaves the entries there are, and its module has one. -/
theorem awaited_requestFetch {m k : Fin 4} {forced : Bool} {s : State} (h : Awaited m s ∨ m = k) :
    Awaited m (requestFetch k forced s) := by
  unfold Awaited at h ⊢
  rw [← List.mem_map] at h ⊢
  change m ∈ (joinQueue k forced s.mb.queue).map FetchEntry.module
  rw [map_module_joinQueue]
  split
  · next present =>
    rcases h with waits | rfl
    · exact waits
    · obtain ⟨e, member, here⟩ := List.any_eq_true.mp present
      exact List.mem_map.mpr ⟨e, member, by simpa using here⟩
  · rw [List.mem_append, List.mem_singleton]
    exact h

/-- The settings that a verdict and a streak depend on. -/
theorem ModMon.expire_congr {s t : State} (h : t.sl.settings.steady = s.sl.settings.steady) (x : ModMon) :
    x.expire t = x.expire s := by
  have accept := congrArg Settings.qualAccept h
  have reject := congrArg Settings.qualReject h
  have good := congrArg Settings.qualGoodTimes h
  have fail := congrArg Settings.qualFailTimes h
  have accept : t.sl.settings.qualAccept = s.sl.settings.qualAccept := accept
  have reject : t.sl.settings.qualReject = s.sl.settings.qualReject := reject
  have good : t.sl.settings.qualGoodTimes = s.sl.settings.qualGoodTimes := good
  have fail : t.sl.settings.qualFailTimes = s.sl.settings.qualFailTimes := fail
  unfold ModMon.expire ModMon.verdict
  rw [accept, reject, good, fail]

/-- What the expiry for one module does: its own state, and an entry in the fetch queue when it enters QUALIFIED. -/
theorem expireModule_spec (s : State) (k : Fin 4) :
    (expireModule s k).mm.count = s.mm.count ∧
      (∀ m, (expireModule s k).mm.mods.get m = if m = k then (s.mm.mods.get k).expire s else s.mm.mods.get m) ∧
      (∀ m, Awaited m s → Awaited m (expireModule s k)) ∧
      ((s.mm.mods.get k).state ≠ .qualified → ((s.mm.mods.get k).expire s).state = .qualified →
        Awaited k (expireModule s k)) := by
  have get : ∀ m, (s.mm.mods.set k ((s.mm.mods.get k).expire s)).get m =
      if m = k then (s.mm.mods.get k).expire s else s.mm.mods.get m := fun m => PerModule.get_set _ _ _ _
  unfold expireModule
  dsimp only
  split
  · exact ⟨rfl, get, fun m waits => awaited_requestFetch (.inl waits), fun _ _ => awaited_requestFetch (.inr rfl)⟩
  · next stays => exact ⟨rfl, get, fun m waits => waits, fun was now => absurd ⟨was, now⟩ stays⟩

/-- The expiry for the modules of a list. -/
theorem foldl_expireModule {l : List (Fin 4)} (nodup : l.Nodup) (s : State) :
    (l.foldl expireModule s).mm.count = s.mm.count ∧
      (∀ m, (l.foldl expireModule s).mm.mods.get m =
        if m ∈ l then (s.mm.mods.get m).expire s else s.mm.mods.get m) ∧
      (∀ m, Awaited m s → Awaited m (l.foldl expireModule s)) ∧
      ∀ m ∈ l, (s.mm.mods.get m).state ≠ .qualified → ((s.mm.mods.get m).expire s).state = .qualified →
        Awaited m (l.foldl expireModule s) := by
  induction l generalizing s with
  | nil => exact ⟨rfl, fun m => by simp, fun m h => h, fun m member => absurd member (by simp)⟩
  | cons k l ih =>
    obtain ⟨absent, nodup⟩ := List.nodup_cons.mp nodup
    obtain ⟨count, mods, awaited, enters⟩ := expireModule_spec s k
    obtain ⟨count', mods', awaited', enters'⟩ := ih nodup (expireModule s k)
    have settings : (expireModule s k).sl.settings.steady = s.sl.settings.steady := by rw [(partView_expireModule s k).2.2]
    simp only [List.foldl_cons]
    refine ⟨count'.trans count, fun m => ?_, fun m h => awaited' m (awaited m h), fun m member was now => ?_⟩
    · rw [mods', mods, ModMon.expire_congr settings]
      by_cases same : m = k
      · subst same
        simp [absent]
      · simp [same]
    · by_cases same : m = k
      · subst same
        exact awaited' m (enters was now)
      · have later : m ∈ l := (List.mem_cons.mp member).resolve_left same
        refine enters' m later ?_ ?_
        · rw [mods, if_neg same]
          exact was
        · rw [mods, if_neg same, ModMon.expire_congr settings]
          exact now

/-- The 128th strobe issue of a monitor window judges every module (R9). -/
theorem monitorIssue_judges {s : State} (full : s.mm.count = 127) :
    (monitorIssue s).mm.count = 0 ∧
      ∀ m, (monitorIssue s).mm.mods.get m = (s.mm.mods.get m).expire s ∧
        ((s.mm.mods.get m).state ≠ .qualified → ((s.mm.mods.get m).expire s).state = .qualified →
          Awaited m (monitorIssue s)) := by
  have ready := (takes_readyTest (allModules.foldl expireModule (s.setMm { s.mm with count := 0 }))).modules
  simp only [moduleView, Prod.mk.injEq] at ready
  obtain ⟨mm, mb⟩ := ready
  obtain ⟨count, mods, -, enters⟩ :=
    foldl_expireModule (l := allModules) (by decide) (s.setMm { s.mm with count := 0 })
  have every : ∀ m : Fin 4, m ∈ allModules := by decide
  have expired : monitorIssue s =
      readyTest (allModules.foldl expireModule (s.setMm { s.mm with count := 0 })) := if_pos (by rw [full])
  have awaited : ∀ m, Awaited m (allModules.foldl expireModule (s.setMm { s.mm with count := 0 })) →
      Awaited m (monitorIssue s) := fun m h => by
    rw [expired]
    unfold Awaited
    rw [mb]
    exact h
  refine ⟨by rw [expired, mm]; exact count, fun m => ⟨?_, fun was now => awaited m (enters m (every m) was now)⟩⟩
  rw [expired, mm, mods, if_pos (every m)]
  rfl

/-- The verdict a module gets at the expiry, by its state and its mark (R10). -/
theorem ModMon.verdict_eq (x : ModMon) (s : State) :
    x.verdict s =
      if (x.state = .unqualified ∨ x.state = .qualified) ∧ x.joined = false then
        verdictOf s.sl.settings.qualAccept s.sl.settings.qualReject x.fault (x.accepted + x.duplicate + x.stray)
      else .none := by
  unfold ModMon.verdict
  cases state : x.state <;> cases joined : x.joined <;> simp

/-- What a strobe issue that ends a monitor window leaves in the modules and the fetch queue. -/
theorem strobeIssue_judges {s : State} (full : s.mm.count = 127) :
    (strobeIssue s).mm.count = 0 ∧
      ∀ m, (strobeIssue s).mm.mods.get m = (s.mm.mods.get m).expire s ∧
        ((s.mm.mods.get m).state ≠ .qualified → ((s.mm.mods.get m).expire s).state = .qualified →
          Awaited m (strobeIssue s)) := by
  refine strobeIssue_of_part .monitor (P := fun u => u.mm = s.mm ∧ partView u = partView (issueFirst s))
    (Q := fun u => u.mm.count = 0 ∧ ∀ m, u.mm.mods.get m = (s.mm.mods.get m).expire s ∧
      ((s.mm.mods.get m).state ≠ .qualified → ((s.mm.mods.get m).expire s).state = .qualified → Awaited m u))
    ⟨rfl, rfl⟩ (fun q other u h => ?_) (fun u h => ?_) (fun q other u h => ?_)
  · have kept := moduleView_issuePart u (setOf s) s.tb.rollsOver other
    simp only [moduleView, Prod.mk.injEq] at kept
    exact ⟨kept.1.trans h.1, (partView_issuePart u _ _ q).trans h.2⟩
  · obtain ⟨mm, view⟩ := h
    simp only [partView, Prod.mk.injEq] at view
    obtain ⟨-, -, -, settings, -⟩ := view
    have judged := monitorIssue_judges (s := u) (by rw [mm]; exact full)
    simp only [mm, ModMon.expire_congr (s := s) settings] at judged
    exact judged
  · have kept := moduleView_issuePart u (setOf s) s.tb.rollsOver other
    simp only [moduleView, Prod.mk.injEq] at kept
    obtain ⟨mm, mb⟩ := kept
    unfold Awaited at h ⊢
    rw [mm, mb]
    exact h

theorem exec_monitorWindowExpiry {s : State} (due : monitorDue s = true) :
    exec .monitorWindowExpiry s = .next (settle (strobeIssue s)) :=
  congrArg (fun t => Host.Outcome.next (settle t)) (issueWhen_due s due)

/-- Settles O13: verdicts and streaks by their cases, and the expiry as one part of the 128th issue. -/
theorem monitorWindowExpiryJudges : Obligations.MonitorWindowExpiryJudges := by
  unfold Obligations.MonitorWindowExpiryJudges
  refine ⟨fun accept reject count => ⟨rfl, verdictOf_iff accept reject count⟩,
    fun x goodTimes failTimes => ⟨fun state => x.judge_unqualified state _ _, fun state => x.judge_qualified state _ _,
      x.judge_none _ _⟩, fun s full => ?_⟩
  obtain ⟨count, judged⟩ := strobeIssue_judges full
  refine ⟨_, exec_monitorWindowExpiry (decide_eq_true (by rw [full])), count, fun m => ?_⟩
  obtain ⟨state, enters⟩ := judged m
  intro x v
  have verdict : x.verdict s = v := x.verdict_eq s
  refine ⟨by rw [state, ← verdict]; rfl, fun was now => enters was (by rw [← state]; exact now)⟩

end Sys2Proof.Machine
end

section
/-! The store port's choice (R173), and the ends of transactions on the module bus (chapter 10). -/

namespace Sys2Proof.Machine

/-! ## The store port (R173) -/

/-- A grant with its operation in flight, the holder and the tenure count as R173 says them. -/
def granted (s : State) (who : Requester) (op : PortOp) : State :=
  s.setSr { s.sr with
    holder := some who
    tenure := if s.sr.holder = some who then (if s.sr.tenure < 16 then s.sr.tenure + 1 else 16) else 1
    flight := some { op := op, requester := some who, elapsed := 0, stale := false } }

theorem grantWriter_eq (op : PortOp) (s : State) : grantWriter op s = granted s .writer op := rfl

theorem grantReader_eq {op : PortOp} {s : State} (passes : readPasses s op = true) :
    grantReader op s = granted s .reader op := if_pos passes

/-- Of two that wait at a held port the table decides. -/
theorem grantStep_both {s : State} {w r : PortOp} {h : Requester} (free : s.sr.flight = none) (job : jobRequest s = none)
    (writer : writerRequest s = some w) (reader : readerRequest s = some r) (holder : s.sr.holder = some h) :
    grantStep s =
      match chooseBoth h s.sr.tenure s.sl.settings.writerBurst s.sl.settings.readerBurst (urgent s) with
      | .writer => grantWriter w s
      | .reader => grantReader r s := by
  simp only [grantStep, free, job, writer, reader, chooseWaiting, holder, Option.isSome_none, Bool.false_eq_true, if_false]
  cases chooseBoth h s.sr.tenure s.sl.settings.writerBurst s.sl.settings.readerBurst (urgent s) <;> rfl

/-- Of two that wait at a free port either may be first, by a free choice. -/
theorem grantStep_free {s : State} {w r : PortOp} (free : s.sr.flight = none) (job : jobRequest s = none)
    (writer : writerRequest s = some w) (reader : readerRequest s = some r) (holder : s.sr.holder = none) :
    grantStep s = if Config.pick s.draws % 2 = 0 then grantWriter w (s.setDraws (s.draws + 1))
      else grantReader r (s.setDraws (s.draws + 1)) := by
  simp only [grantStep, free, job, writer, reader, chooseWaiting, holder, draw, Option.isSome_none, Bool.false_eq_true,
    if_false]
  by_cases even : Config.pick s.draws % 2 = 0
  · simp only [even, if_true]
  · simp only [even, if_false]

/-- The check of a page does not depend on the count of free choices. -/
theorem readPasses_setDraws (op : PortOp) (s : State) (n : Nat) : readPasses (s.setDraws n) op = readPasses s op := rfl

/-- Settles O50: who waits decides, and of two the table of R173. -/
theorem storePortArbitrated : Obligations.StorePortArbitrated := by
  unfold Obligations.StorePortArbitrated
  intro s granted' urgent'
  have urgent_iff : urgent s = true ↔ urgent' := decide_eq_true_iff
  refine ⟨fun busy => if_pos busy, fun free => ⟨fun op job => ?_, fun job =>
    ⟨fun writer reader => ?_, fun op writer reader => ?_, fun op writer reader passes => ?_, fun w r writer reader => ?_⟩⟩⟩
  · simp only [grantStep, free, job, Option.isSome_none, Bool.false_eq_true, if_false]
    rfl
  · have alone : grantStep s = portFree s := by
      simp only [grantStep, free, job, writer, reader, Option.isSome_none, Bool.false_eq_true, if_false]
    exact alone
  · simp only [grantStep, free, job, writer, reader, Option.isSome_none, Bool.false_eq_true, if_false]
    rfl
  · simp only [grantStep, free, job, writer, reader, Option.isSome_none, Bool.false_eq_true, if_false]
    exact grantReader_eq passes
  · refine ⟨fun holder first => ?_, fun holder calm full passes => ?_, fun holder first => ?_,
      fun holder calm under passes => ?_, fun holder passes => ?_⟩
    · rw [grantStep_both free job writer reader holder]
      have chosen : chooseBoth .writer s.sr.tenure s.sl.settings.writerBurst s.sl.settings.readerBurst (urgent s) = .writer := by
        unfold chooseBoth
        rcases first with now | under
        · rw [if_pos (urgent_iff.mpr now)]
        · simp [under]
      rw [chosen]
      rfl
    · rw [grantStep_both free job writer reader holder]
      have chosen : chooseBoth .writer s.sr.tenure s.sl.settings.writerBurst s.sl.settings.readerBurst (urgent s) = .reader := by
        unfold chooseBoth
        rw [if_neg (fun now => calm (urgent_iff.mp now))]
        exact if_neg (Nat.not_lt.mpr full)
      rw [chosen]
      exact grantReader_eq passes
    · rw [grantStep_both free job writer reader holder]
      have chosen : chooseBoth .reader s.sr.tenure s.sl.settings.writerBurst s.sl.settings.readerBurst (urgent s) = .writer := by
        unfold chooseBoth
        rcases first with now | full
        · rw [if_pos (urgent_iff.mpr now)]
        · simp [Nat.not_lt.mpr full]
      rw [chosen]
      rfl
    · rw [grantStep_both free job writer reader holder]
      have chosen : chooseBoth .reader s.sr.tenure s.sl.settings.writerBurst s.sl.settings.readerBurst (urgent s) = .reader := by
        unfold chooseBoth
        rw [if_neg (fun now => calm (urgent_iff.mp now))]
        exact if_pos under
      rw [chosen]
      exact grantReader_eq passes
    · rw [grantStep_free free job writer reader holder]
      split
      · exact ⟨.writer, _, rfl, rfl⟩
      · exact ⟨.reader, _, grantReader_eq passes, rfl⟩

/-! ## What the end of a transaction leaves (R177, R183) -/

/-- The bus after the end of a transaction, as one change of each of its fields. -/
theorem MB.ended_eq (b : MB) (state : BusState) (owner : BusOwner) :
    b.ended state owner =
      { b with
        transaction := none, cut := false, owner := owner, heldAbort := none
        state := if b.heldAbort.isSome then .recovering else state
        abortTag := if b.heldAbort.isSome then b.heldAbort else b.abortTag } := by
  unfold MB.ended
  cases held : b.heldAbort with
  | none => simp
  | some tag => simp

/-- A final reply changes the reply queue and releases its place, and nothing else. -/
theorem finalReply_setSl (r : Reply) (s : State) :
    ∃ l, finalReply r s = s.setSl { s.sl with replies := l, reserved := s.sl.reserved - 1 } := by
  obtain ⟨l, eq, -⟩ := finalReply_spec r s
  exact ⟨l, eq⟩

/-- The end of a station transaction that only answers its order. -/
theorem endTransaction_finalReply (state : BusState) (r : Reply) (s : State) :
    let e := endTransaction state (finalReply r s)
    e.mb = s.mb.ended state s.sl.settings.modbusOwner ∧ e.sl = (finalReply r s).sl ∧ SameMeasurement s e ∧ e.sr = s.sr ∧
      e.cc = s.cc := by
  obtain ⟨l, eq⟩ := finalReply_setSl r s
  rw [endTransaction_eq, eq]
  exact ⟨rfl, rfl, ⟨rfl, rfl, rfl, rfl, rfl, rfl⟩, rfl, rfl⟩

/-! ## The report of a write into a calibration block (R27, R181) -/

/-- What a station write into a calibration block is reported to do. -/
structure WriteReported (address offset done : Nat) (s e : State) : Prop where
  sl : e.sl = s.sl
  sr : e.sr = s.sr
  mb : e.mb = { s.mb with queue := e.mb.queue }
  touched : ∀ m : Fin 4, address = 0x50 + m.val → 0 < done ∧ offset ≤ 0x2F ∧ 0x20 < offset + done →
    (∃ y ∈ e.mb.queue, y.module = m) ∧
      ∀ c, (s.cc.table.get c).module = m → (s.cc.table.get c).cal = .fetched → (e.cc.table.get c).cal = .stale
  spared : ∀ m : Fin 4, address = 0x50 + m.val → done = 0 ∨ 0x2F < offset ∨ offset + done ≤ 0x20 →
    e.cc = s.cc ∧ e.mb.queue = s.mb.queue

/-- A channel's value in a mapped table. -/
@[simp] theorem PerChannel.get_map {α β : Type} (p : PerChannel α) (f : α → β) (c : Channel) : (p.map f).get c = f (p.get c) := by
  cases c <;> rfl

/-- A FETCHED entry that names the module is STALE after a write into its calibration block. -/
theorem cal_markStale {s : State} {m : Fin 4} {c : Channel} (module : (s.cc.table.get c).module = m)
    (fetched : (s.cc.table.get c).cal = .fetched) : ((markStale m s).cc.table.get c).cal = .stale := by
  simp [markStale, module, fetched]

theorem moduleAt_address (m : Fin 4) : moduleAt (0x50 + m.val) = some m := by
  match m with
  | 0 | 1 | 2 | 3 => rfl

theorem writeReported_reportWrite (address offset done : Nat) (s : State) :
    WriteReported address offset done s (reportWrite address offset done s) := by
  have touches_iff : touchesBlock offset done = true ↔ 0 < done ∧ offset ≤ 0x2F ∧ 0x20 < offset + done :=
    decide_eq_true_iff
  unfold reportWrite
  cases named : moduleAt address with
  | none =>
    have nameless : ∀ m : Fin 4, address ≠ 0x50 + m.val := fun m here => by
      rw [here, moduleAt_address] at named
      cases named
    exact ⟨rfl, rfl, rfl, fun m here => absurd here (nameless m), fun m here => absurd here (nameless m)⟩
  | some k =>
    have same : ∀ m : Fin 4, address = 0x50 + m.val → m = k := fun m here => by
      rw [here, moduleAt_address] at named
      exact Option.some.inj named
    by_cases touches : touchesBlock offset done = true
    · simp only [touches, if_true]
      refine ⟨rfl, rfl, rfl, fun m here _ => ?_, fun m here spared => ?_⟩
      · obtain rfl := same m here
        exact ⟨awaited_requestFetch (s := markStale m s) (.inr rfl), fun c module fetched => cal_markStale module fetched⟩
      · obtain ⟨positive, low, high⟩ := touches_iff.mp touches
        omega
    · simp only [touches]
      refine ⟨rfl, rfl, rfl, fun m here touched => absurd (touches_iff.mpr touched) touches, fun m here _ => ⟨rfl, rfl⟩⟩

/-- The end of a station write: the order answered, the write reported, the transaction over. -/
theorem endTransaction_write (state : BusState) (r : Reply) (address offset done : Nat) (s : State) :
    let e := endTransaction state (reportWrite address offset done (finalReply r s))
    e.mb = { s.mb with queue := e.mb.queue }.ended state s.sl.settings.modbusOwner ∧ e.sl = (finalReply r s).sl ∧
      e.sr = s.sr ∧
      ∀ m : Fin 4, address = 0x50 + m.val →
        (0 < done ∧ offset ≤ 0x2F ∧ 0x20 < offset + done →
          (∃ y ∈ e.mb.queue, y.module = m) ∧
          ∀ c, (s.cc.table.get c).module = m → (s.cc.table.get c).cal = .fetched → (e.cc.table.get c).cal = .stale) ∧
        (done = 0 ∨ 0x2F < offset ∨ offset + done ≤ 0x20 → e.cc = s.cc ∧ e.mb.queue = s.mb.queue) := by
  obtain ⟨l, eq⟩ := finalReply_setSl r s
  have reported := writeReported_reportWrite address offset done (finalReply r s)
  intro e
  have e_eq : e = _ := endTransaction_eq state (reportWrite address offset done (finalReply r s))
  have queue : e.mb.queue = (reportWrite address offset done (finalReply r s)).mb.queue := by
    rw [e_eq]
    exact MB.ended_queue _ _ _
  have owner : (finalReply r s).sl.settings.modbusOwner = s.sl.settings.modbusOwner := by rw [eq]; rfl
  have mb : (finalReply r s).mb = s.mb := by rw [eq]; rfl
  have cc : (finalReply r s).cc = s.cc := by rw [eq]; rfl
  refine ⟨?_, ?_, ?_, fun m here => ⟨fun touched => ?_, fun spared => ?_⟩⟩
  · rw [queue, e_eq, State.setMb_mb, reported.sl, owner, reported.mb, mb]
  · rw [e_eq, State.setMb_sl, reported.sl]
  · rw [e_eq, State.setMb_sr, reported.sr, sr_finalReply]
  · rw [queue, e_eq, State.setMb_cc, ← cc]
    exact reported.touched m here touched
  · rw [queue, e_eq, State.setMb_cc, ← cc, ← mb]
    exact reported.spared m here spared

end Sys2Proof.Machine
end

section
/-! The ends of transactions, command by command (R179 to R184). -/

namespace Sys2Proof.Machine

/-- The bus after the end of a transaction that leaves a fetch queue. -/
def MB.endedWith (b : MB) (state : BusState) (owner : BusOwner) (queue : List FetchEntry) : MB :=
  { b with
    queue := queue, transaction := none, cut := false, owner := owner, heldAbort := none
    state := if b.heldAbort.isSome then .recovering else state
    abortTag := if b.heldAbort.isSome then b.heldAbort else b.abortTag }

theorem MB.ended_endedWith (b : MB) (state : BusState) (owner : BusOwner) (queue : List FetchEntry) :
    { b with queue := queue }.ended state owner = b.endedWith state owner queue := MB.ended_eq _ _ _

/-- A transaction in flight that no RESTART has cut. -/
theorem running_of {s : State} (busy : s.mb.state = .busy) (whole : s.mb.cut = false) : running s = true := by
  simp [running, busy, whole]

/-- The Station Link Interface after a final reply: formed while the link is UP, its place released (R187, R188). -/
def SL.answered (l : SL) (r : Reply) : SL :=
  { l with replies := if l.linkUp then l.replies ++ [r] else l.replies, reserved := l.reserved - 1 }

theorem finalReply_eq (r : Reply) (s : State) : finalReply r s = s.setSl (s.sl.answered r) := by
  cases up : s.sl.linkUp with
  | true => simp [finalReply, formReply, SL.answered, up]; rfl
  | false => simp [finalReply, formReply, SL.answered, up]

theorem SL.answered_replies (l : SL) (r : Reply) (up : l.linkUp = true) : (l.answered r).replies = l.replies ++ [r] :=
  if_pos up

/-! ## No acknowledge (R180, R181) -/

section
variable {s : State} {m : Fin 4} {d : Nat} {x : FetchEntry}

/-- The first fetch without an acknowledge: the entry goes to the back with its attempt mark and a retry hold. -/
theorem fetchNoAck_first (entry : fetchEntry s m = some x) (first : x.attempt = false) :
    fetchNoAck m s = s.setMb { s.mb with
      queue := s.mb.queue.filter (fun y => y.module != m) ++ [{ x with attempt := true }]
      retryHold := s.mb.retryHold.set m 262144 } := by
  simp only [fetchNoAck, entry, first, Bool.false_eq_true, if_false]
  rfl

/-- The second drops the entry, with CAL_REJECT latched and a tag answered FAILED. -/
theorem fetchNoAck_second (entry : fetchEntry s m = some x) (second : x.attempt = true) :
    fetchNoAck m s =
      let t := (latch .calReject s).setMb { s.mb with
        queue := s.mb.queue.filter (fun y => y.module != m), lastFetch := s.mb.lastFetch.set m .dropped }
      match x.tag with
      | some tag => replyFailed tag 20 .noAck [] t
      | none => t := by
  simp only [fetchNoAck, entry, second, if_true]
  rfl

end

theorem exec_busNoAck {s : State} (acked : BitVec 5) :
    exec (.busNoAck acked) s = .next (settle (endNoAck acked.toNat s)) := rfl

/-- Settles O59: a fetch by its attempt mark, a read, and a write with the bytes it left acknowledged. -/
theorem noAckEndsTheTransaction : Obligations.NoAckEndsTheTransaction := by
  unfold Obligations.NoAckEndsTheTransaction
  intro s acked busy whole ended
  have runs := running_of busy whole
  have ended_eq : ∀ queue, ended queue = s.mb.endedWith .idle s.sl.settings.modbusOwner queue := fun _ => rfl
  refine ⟨fun m d x flight entry => ?_, fun tag address offset count d flight => ?_,
    fun tag address offset data d flight within => ?_⟩
  · have ends : endNoAck acked.toNat s = endTransaction .idle (fetchNoAck m s) := by
      simp only [endNoAck, runs, if_true, flight]
    intro others flagged
    refine ⟨_, (exec_busNoAck acked).trans (by rw [ends]), ?_⟩
    cases attempt : x.attempt with
    | false =>
      rw [fetchNoAck_first entry attempt, endTransaction_eq]
      refine ⟨⟨rfl, rfl, rfl, rfl, rfl, rfl⟩, rfl, fun _ => ⟨?_, rfl⟩, nofun⟩
      simp only [State.setMb_mb, MB.ended_eq]
      rfl
    | true =>
      rw [fetchNoAck_second entry attempt]
      cases tagged : x.tag with
      | none =>
        rw [endTransaction_eq]
        refine ⟨⟨rfl, rfl, rfl, rfl, rfl, rfl⟩, rfl, nofun, fun _ => ⟨?_, fun _ => rfl, nofun⟩⟩
        simp only [State.setMb_mb, MB.ended_eq]
        rfl
      | some tag =>
        have mute : latch .calReject s = s.setSl flagged := rfl
        obtain ⟨mb, sl, same, sr, -⟩ := endTransaction_finalReply .idle (plainReply tag 20 .failed .noAck)
          ((s.setSl flagged).setMb { s.mb with queue := others, lastFetch := s.mb.lastFetch.set m .dropped })
        have sl := sl.trans (congrArg State.sl (finalReply_eq _ _))
        rw [mute]
        refine ⟨same, sr, nofun, fun _ => ⟨mb.trans (MB.ended_eq _ _ _), nofun, fun _ given => ?_⟩⟩
        obtain rfl := Option.some.inj given
        rw [finalReply_eq]
        exact ⟨sl, fun up => (congrArg SL.replies sl).trans (SL.answered_replies flagged _ up)⟩
  · have ends : endNoAck acked.toNat s = endTransaction .idle (finalReply (plainReply tag 18 .failed .noAck) s) := by
      simp only [endNoAck, runs, if_true, flight]
      rfl
    obtain ⟨mb, sl, same, sr, -⟩ := endTransaction_finalReply .idle (plainReply tag 18 .failed .noAck) s
    exact ⟨_, (exec_busNoAck acked).trans (by rw [ends]), mb.trans (MB.ended_eq _ _ _), same, sr, sl⟩
  · have ends : endNoAck acked.toNat s = endTransaction .idle
        (reportWrite address offset acked.toNat (finalReply (plainReply tag 19 .failed .noAck) s)) := by
      simp only [endNoAck, runs, if_true, flight, Nat.min_eq_left within]
      rfl
    obtain ⟨mb, sl, sr, written⟩ :=
      endTransaction_write .idle (plainReply tag 19 .failed .noAck) address offset acked.toNat s
    refine ⟨_, (exec_busNoAck acked).trans (by rw [ends]), mb.trans (MB.ended_endedWith _ _ _ _), sr, sl, fun m here => ?_⟩
    obtain ⟨touched, spared⟩ := written m here
    exact ⟨touched, fun h => spared (h.imp_left fun zero => by rw [zero]; rfl)⟩

end Sys2Proof.Machine
end

section
/-! The other ends of a station transaction: completion, hang, cut and recovery (R181 to R184). -/

namespace Sys2Proof.Machine

theorem exec_readComplete (data : BitVec 256) (s : State) :
    exec (.moduleReadComplete data) s = .next (settle (endRead (bytesOf 32 data) s)) := rfl

theorem exec_writeComplete (s : State) : exec .moduleWriteComplete s = .next (settle (endWrite s)) := rfl

theorem exec_clockHeld (acked : BitVec 5) (s : State) :
    exec (.busClockHeld acked) s = .next (settle (clockHeld acked.toNat s)) := rfl

theorem exec_restartCut (acked : BitVec 5) (s : State) :
    exec (.busRestartCut acked) s = .next (settle (endCut acked.toNat s)) := rfl

theorem exec_recoveryEnd (released : Bool) (s : State) :
    exec (.recoveryEnd released) s = .next (settle (endRecovery released s)) := rfl

/-! ## A transaction that ends without completing (R182, R184) -/

section
variable {s : State} {reason : Reason} {cancelled : Bool} {acked : Nat}

theorem failTransaction_read {tag : Byte} {address offset count d : Nat}
    (flight : s.mb.transaction = some (.read tag address offset count d)) :
    failTransaction reason cancelled acked s =
      finalReply { plainReply tag 18 .failed reason with cancelled := cancelled } s := by
  simp only [failTransaction, flight]
  rfl

theorem failTransaction_write {tag : Byte} {address offset d : Nat} {data : List Byte}
    (flight : s.mb.transaction = some (.write tag address offset data d)) (within : acked ≤ data.length) :
    failTransaction reason cancelled acked s =
      reportWrite address offset acked (finalReply { plainReply tag 19 .failed reason with cancelled := cancelled } s) := by
  simp only [failTransaction, flight, Nat.min_eq_left within]
  rfl

/-- A cut or hung fetch: its entry keeps its place, and a tag on it is answered FAILED and cleared. -/
theorem failTransaction_fetch {m : Fin 4} {d : Nat} {x : FetchEntry} (flight : s.mb.transaction = some (.fetch m d))
    (entry : fetchEntry s m = some x) :
    failTransaction reason cancelled acked s = match x.tag with
      | some tag =>
        (s.setSl (s.sl.answered { plainReply tag 20 .failed reason with cancelled := cancelled })).setMb { s.mb with
          queue := s.mb.queue.map fun y => if y.module = m then { y with tag := none } else y }
      | none => s := by
  have fails : failTransaction reason cancelled acked s = failFetchTag m reason cancelled s := by
    simp only [failTransaction, flight]
  rw [fails]
  simp only [failFetchTag, entry, Option.bind_some]
  cases x.tag with
  | none => rfl
  | some tag =>
    have replied : failStation tag 20 reason cancelled s = _ :=
      finalReply_eq { plainReply tag 20 .failed reason with cancelled := cancelled } s
    simp only [replied]
    rfl

end

/-- What O60 says of a transaction that ends by a hang or a cut. -/
theorem endTransaction_failTransaction {s : State} {acked : Nat} (state : BusState) (reason : Reason) (cancelled : Bool) :
    let e := endTransaction state (failTransaction reason cancelled acked s)
    let ended := s.mb.endedWith state s.sl.settings.modbusOwner
    let failed := fun (tag kind : Byte) =>
      (finalReply { plainReply tag kind .failed reason with cancelled := cancelled } s).sl
    (∀ tag address offset count d, s.mb.transaction = some (.read tag address offset count d) →
      e.mb = ended s.mb.queue ∧ e.sl = failed tag 18 ∧ SameMeasurement s e ∧ e.sr = s.sr) ∧
    (∀ tag address offset data d, s.mb.transaction = some (.write tag address offset data d) → acked ≤ data.length →
      e.mb = ended e.mb.queue ∧ e.sl = failed tag 19 ∧ e.sr = s.sr ∧
      ∀ m : Fin 4, address = 0x50 + m.val →
        (0 < acked ∧ offset ≤ 0x2F ∧ 0x20 < offset + acked →
          (∃ y ∈ e.mb.queue, y.module = m) ∧
          ∀ c, (s.cc.table.get c).module = m → (s.cc.table.get c).cal = .fetched → (e.cc.table.get c).cal = .stale) ∧
        (acked = 0 ∨ 0x2F < offset ∨ offset + acked ≤ 0x20 → e.cc = s.cc ∧ e.mb.queue = s.mb.queue)) ∧
    (∀ m d x, s.mb.transaction = some (.fetch m d) → fetchEntry s m = some x →
      SameMeasurement s e ∧ e.sr = s.sr ∧
      (x.tag = none → e.mb = ended s.mb.queue ∧ e.sl = s.sl) ∧
      (∀ tag, x.tag = some tag → e.sl = failed tag 20 ∧
        e.mb = ended (s.mb.queue.map fun y => if y.module = m then { y with tag := none } else y))) := by
  intro e ended failed
  refine ⟨fun tag address offset count d flight => ?_, fun tag address offset data d flight within => ?_,
    fun m d x flight entry => ?_⟩
  · have at_end : e = endTransaction state
        (finalReply { plainReply tag 18 .failed reason with cancelled := cancelled } s) :=
      congrArg (endTransaction state) (failTransaction_read flight)
    obtain ⟨mb, sl, same, sr, -⟩ :=
      endTransaction_finalReply state { plainReply tag 18 .failed reason with cancelled := cancelled } s
    rw [at_end]
    exact ⟨mb.trans (MB.ended_eq _ _ _), sl, same, sr⟩
  · have at_end : e = endTransaction state (reportWrite address offset acked
        (finalReply { plainReply tag 19 .failed reason with cancelled := cancelled } s)) :=
      congrArg (endTransaction state) (failTransaction_write flight within)
    obtain ⟨mb, sl, sr, written⟩ := endTransaction_write state
      { plainReply tag 19 .failed reason with cancelled := cancelled } address offset acked s
    rw [at_end]
    exact ⟨mb.trans (MB.ended_endedWith _ _ _ _), sl, sr, written⟩
  · have at_end : e = _ :=
      congrArg (endTransaction state) (failTransaction_fetch (acked := acked) flight entry)
    rw [at_end, endTransaction_eq]
    cases x.tag with
    | none => exact ⟨⟨rfl, rfl, rfl, rfl, rfl, rfl⟩, rfl, fun _ => ⟨MB.ended_eq _ _ _, rfl⟩, nofun⟩
    | some tag =>
      refine ⟨⟨rfl, rfl, rfl, rfl, rfl, rfl⟩, rfl, nofun, fun _ same => ?_⟩
      obtain rfl := Option.some.inj same
      exact ⟨(congrArg State.sl (finalReply_eq _ s)).symm, MB.ended_eq _ _ _⟩

/-- Settles O60: the completions by their replies, the hang and the cut by their common accounting, the recoveries. -/
theorem stationTransactionsEnd : Obligations.StationTransactionsEnd := by
  unfold Obligations.StationTransactionsEnd
  intro s acked ended written fails
  have fails_of : ∀ c state reason cancelled,
      exec c s = .next (settle (endTransaction state (failTransaction reason cancelled acked.toNat s))) →
      fails c state reason cancelled := fun c state reason cancelled runs => by
    obtain ⟨read, write, fetch⟩ := endTransaction_failTransaction (s := s) (acked := acked.toNat) state reason cancelled
    exact ⟨fun tag address offset count d flight => ⟨_, runs, read tag address offset count d flight⟩,
      fun tag address offset data d flight within => by
        obtain ⟨mb, sl, sr, written⟩ := write tag address offset data d flight within
        exact ⟨_, runs, mb, sl, written, sr⟩,
      fun m d x flight entry => ⟨_, runs, fetch m d x flight entry⟩⟩
  refine ⟨fun busy whole => ⟨fun tag address offset count d data flight => ?_, fun tag address offset data d flight => ?_⟩,
    fun busy => fails_of _ _ _ _ ?_, fun cut => fails_of _ _ _ _ ?_, fun tag recovering aborted => ⟨?_, ?_, ?_⟩,
    fun m => rfl⟩
  · have ends : endRead (bytesOf 32 data) s = endTransaction .idle (finalReply { plainReply tag 18 .done .none with
        body := leBytes 1 count ++ (bytesOf 32 data).take count } s) := by
      simp only [endRead, flight, running_of busy whole, if_true]
      rfl
    obtain ⟨mb, sl, same, sr, -⟩ := endTransaction_finalReply .idle { plainReply tag 18 .done .none with
        body := leBytes 1 count ++ (bytesOf 32 data).take count } s
    exact ⟨_, (exec_readComplete data s).trans (by rw [ends]), mb.trans (MB.ended_eq _ _ _), sl, same, sr⟩
  · have ends : endWrite s = endTransaction .idle
        (reportWrite address offset data.length (finalReply (plainReply tag 19 .done .none) s)) := by
      simp only [endWrite, flight, running_of busy whole, if_true]
      rfl
    obtain ⟨mb, sl, sr, reported⟩ := endTransaction_write .idle (plainReply tag 19 .done .none) address offset data.length s
    exact ⟨_, (exec_writeComplete s).trans (by rw [ends]), mb.trans (MB.ended_endedWith _ _ _ _), sl, reported, sr⟩
  · rw [exec_clockHeld]
    simp only [clockHeld, busy]
    rfl
  · rw [exec_restartCut]
    simp only [endCut, cut, if_true]
  · rw [exec_recoveryEnd]
    simp only [endRecovery, recovering, aborted, if_true]
    rfl
  · rw [exec_recoveryEnd]
    simp only [endRecovery, recovering, aborted, if_true, Bool.false_eq_true, if_false]
    rfl
  · rw [exec_clockHeld]
    simp only [clockHeld, endRecovery, recovering, aborted, if_true, Bool.false_eq_true, if_false]
    rfl

end Sys2Proof.Machine
end

section
/-! The orders of the module bus: MODULE READ and WRITE, MODULE FETCH, MODULE ABORT (R178, R181 to R183). -/

namespace Sys2Proof.Machine

/-- The Station Link Interface after a reply has been formed (R188). -/
def SL.formed (l : SL) (r : Reply) : SL := { l with replies := if l.linkUp then l.replies ++ [r] else l.replies }

theorem formReply_eq (r : Reply) (s : State) : formReply r s = s.setSl (s.sl.formed r) := by
  cases up : s.sl.linkUp with
  | true => simp [formReply, SL.formed, up]
  | false =>
    rw [formReply_down up, SL.formed, up]
    simp only [Bool.false_eq_true, if_false]
    rw [← up]
    rfl

/-- A final reply takes the place that its ACCEPTED reply reserved. -/
theorem answered_reserved (r : Reply) (s : State) :
    ({ s.sl with reserved := s.sl.reserved + 1 } : SL).answered r = (formReply r s).sl := by
  rw [formReply_eq]
  rfl

theorem rq_endTransaction (state : BusState) (s : State) : (endTransaction state s).rq = s.rq := by
  rw [endTransaction_eq]
  rfl

/-! ## The start of a station transaction -/

/-- A report with no byte acknowledged changes nothing. -/
theorem reportWrite_none (address offset : Nat) (s : State) : reportWrite address offset 0 s = s := by
  unfold reportWrite
  cases moduleAt address with
  | none => rfl
  | some m => rfl

/-- What a transaction that has not begun leaves: its order FAILED. -/
def FailsUnbegun (t : Transaction) (tag : Byte) (kind : Nat) : Prop :=
  ∀ u : State, u.mb.transaction = some t →
    failTransaction .hung false 0 u = finalReply (plainReply tag (byteOf kind) .failed .hung) u

theorem failsUnbegun_read (tag : Byte) (address offset count d : Nat) :
    FailsUnbegun (.read tag address offset count d) tag 18 := fun _ flight => failTransaction_read flight

theorem failsUnbegun_write (tag : Byte) (address offset d : Nat) (data : List Byte) :
    FailsUnbegun (.write tag address offset data d) tag 19 := fun _ flight =>
  (failTransaction_write flight (Nat.zero_le _)).trans (reportWrite_none _ _ _)

/-- A station transaction that begins, or finds the data line low (R181, R182). -/
theorem beginTransaction_accept {t : Transaction} {tag : Byte} {kind : Nat} {s : State} (early : earlyBody kind = [])
    (fails : FailsUnbegun t tag kind) (free : s.mb.heldAbort = none) :
    let e := beginTransaction t (accept tag kind s)
    let a := formReply (plainReply tag (byteOf kind) .accepted .none) s
    ((Config.dataLineLow s.draws = false ∧ e.mb = { s.mb with state := .busy, transaction := some t } ∧
        e.sl = { a.sl with reserved := a.sl.reserved + 1 }) ∨
      (Config.dataLineLow s.draws = true ∧ e.mb.state = .hung ∧ e.mb.transaction = none ∧
        e.sl = (formReply (plainReply tag (byteOf kind) .failed .hung) a).sl)) ∧
      SameMeasurement s e ∧ e.sr = s.sr ∧ e.rq = s.rq := by
  intro e a
  have reserved : accept tag kind s = s.setSl { a.sl with reserved := a.sl.reserved + 1 } := by
    rw [show a = _ from formReply_eq _ s, accept, early, formReply_eq]
    rfl
  let begun := ((s.setSl { a.sl with reserved := a.sl.reserved + 1 }).setDraws (s.draws + 1)).setMb
    { s.mb with state := .busy, transaction := some t }
  have begins : e = if Config.dataLineLow s.draws then hang 0 begun else begun := by
    show beginTransaction t (accept tag kind s) = _
    rw [reserved]
    rfl
  cases low : Config.dataLineLow s.draws with
  | false =>
    rw [begins, low, if_neg Bool.false_ne_true]
    exact ⟨.inl ⟨rfl, rfl, rfl⟩, ⟨rfl, rfl, rfl, rfl, rfl, rfl⟩, rfl, rfl⟩
  | true =>
    have hung : e = endTransaction .hung (finalReply (plainReply tag (byteOf kind) .failed .hung) begun) := by
      rw [begins, low, if_pos rfl, hang, fails begun rfl]
    obtain ⟨mb, sl, same, sr, -⟩ := endTransaction_finalReply .hung (plainReply tag (byteOf kind) .failed .hung) begun
    have quiet : e.mb = begun.mb.endedWith .hung begun.sl.settings.modbusOwner begun.mb.queue := by
      rw [hung]
      exact mb.trans (MB.ended_eq _ _ _)
    have stays : begun.mb.heldAbort.isSome = false := by
      show s.mb.heldAbort.isSome = false
      rw [free]; rfl
    refine ⟨.inr ⟨rfl, ?_, ?_, ?_⟩, ?_⟩
    · rw [quiet, MB.endedWith, stays]; rfl
    · rw [quiet]; rfl
    · rw [hung]
      exact (sl.trans (congrArg State.sl (finalReply_eq _ _))).trans (answered_reserved _ a)
    · rw [hung]
      exact ⟨same, sr, (rq_endTransaction _ _).trans (rq_finalReply _ _)⟩

/-- The judgement of a station transaction, whatever the transaction (R181). -/
theorem stationRefusal_cases (s : State) (address offset count most : Nat) :
    let bad := address < 0x08 ∨ 0x77 < address ∨ count < 1 ∨ most < count ∨ 256 < offset + count
    let judged := stationRefusal s address offset count most
    (bad → judged = some .invalid) ∧
    (¬ bad → s.mb.owner = .auto → judged = some .wrongState) ∧
    (¬ bad → s.mb.owner = .station → s.mb.state = .hung ∨ s.mb.state = .recovering → judged = some .hung) ∧
    (¬ bad → s.mb.owner = .station → s.mb.state = .busy ∨ s.mb.state = .idle ∧ s.mb.heldAbort.isSome = true →
      judged = some .busy) ∧
    (¬ bad → s.mb.owner = .station → s.mb.state = .idle → s.mb.heldAbort = none → judged = none) := by
  intro bad judged
  refine ⟨fun outside => if_pos outside, fun inside auto => ?_, fun inside station down => ?_, fun inside station taken => ?_,
    fun inside station idle free => ?_⟩
  · exact (if_neg inside).trans (if_pos auto)
  · refine (if_neg inside).trans ((if_neg (by rw [station]; nofun)).trans (if_pos ?_))
    rcases down with down | down <;> simp [busDown, down]
  · refine (if_neg inside).trans ((if_neg (by rw [station]; nofun)).trans ((if_neg ?_).trans (if_pos ?_)))
    · rcases taken with busy | ⟨idle, -⟩ <;> simp [busDown, *]
    · exact taken.imp_right And.right
  · refine (if_neg inside).trans ((if_neg (by rw [station]; nofun)).trans ((if_neg ?_).trans (if_neg ?_)))
    · simp [busDown, idle]
    · simp [idle, free]

/-- Settles O48: the judgement is common, and a transaction accepted begins or finds the data line low. -/
theorem stationTransactionsBegin : Obligations.StationTransactionsBegin := by
  unfold Obligations.StationTransactionsBegin
  intro s tag address offset count data ready nonempty short taken judged
  have judged_of : ∀ (n most kind : Nat) (c : Instr) (t : Transaction), earlyBody kind = [] → FailsUnbegun t tag kind →
      exec c s = .next (settle (match stationRefusal s address.toNat offset.toNat n most with
        | some r => refuse tag kind r s
        | none => beginTransaction t (accept tag kind s))) → judged n most (byteOf kind) c t := by
    intro n most kind c t early fails runs
    obtain ⟨invalid, wrongState, hung, busy, accepted⟩ := stationRefusal_cases s address.toNat offset.toNat n most
    have refused : ∀ r, stationRefusal s address.toNat offset.toNat n most = some r →
        exec c s = .next (settle (formReply (plainReply tag (byteOf kind) .refused r) s)) := fun r judged => by
      rw [runs, judged]
      simp only [refuse, early]
      rfl
    refine ⟨fun bad => refused _ (invalid bad), fun good auto => refused _ (wrongState good auto),
      fun good station down => refused _ (hung good station down), fun good station held => refused _ (busy good station held),
      fun good station idle free => ?_⟩
    rw [runs, accepted good station idle free]
    obtain ⟨begun, frame⟩ := beginTransaction_accept early fails free
    exact ⟨_, rfl, begun, frame⟩
  exact ⟨judged_of _ _ 18 _ _ rfl (failsUnbegun_read _ _ _ _ _)
      (exec_carryOut ready rfl (readOrder_orderOf rfl rfl nofun) rfl),
    judged_of _ _ 19 _ _ rfl (failsUnbegun_write _ _ _ _ _)
      (exec_carryOut ready rfl (readOrder_moduleWrite tag address offset nonempty short) rfl)⟩

end Sys2Proof.Machine
end

section
/-! MODULE FETCH, MODULE ABORT, and the completed calibration fetch (R25, R26, R178, R179, R183). -/

namespace Sys2Proof.Machine

/-! ## The fetch queue (R178) -/

section
variable {m : Fin 4} {q : List FetchEntry}

/-- A change to a module's entry leaves the entries of the others. -/
theorem mem_map_entry {f : FetchEntry → FetchEntry} (keep : ∀ e, (f e).module = e.module) {x : FetchEntry}
    (other : x.module ≠ m) : x ∈ q.map (fun e => if e.module = m then f e else e) ↔ x ∈ q := by
  rw [List.mem_map]
  constructor
  · rintro ⟨y, here, eq⟩
    by_cases mine : y.module = m
    · rw [if_pos mine] at eq
      exact absurd ((congrArg FetchEntry.module eq).symm.trans ((keep y).trans mine)) other
    · rw [if_neg mine] at eq
      exact eq ▸ here
  · exact fun here => ⟨x, here, if_neg other⟩

theorem mem_joinQueue {forced : Bool} {x : FetchEntry} (other : x.module ≠ m) : x ∈ joinQueue m forced q ↔ x ∈ q := by
  unfold joinQueue
  split
  · exact mem_map_entry (f := fun e => { e with forced := e.forced || forced }) (fun _ => rfl) other
  · rw [List.mem_append, List.mem_singleton]
    exact or_iff_left fun eq => other (congrArg FetchEntry.module eq)

theorem length_joinQueue (m : Fin 4) (forced : Bool) (q : List FetchEntry) :
    (joinQueue m forced q).length = if q.any (fun x => x.module == m) then q.length else q.length + 1 := by
  unfold joinQueue
  split
  · exact List.length_map _
  · exact List.length_append

/-- After a forced request the module has an entry, forced. -/
theorem exists_joinQueue_forced (m : Fin 4) (q : List FetchEntry) : ∃ x ∈ joinQueue m true q, x.module = m ∧ x.forced = true := by
  unfold joinQueue
  split
  · next here =>
    obtain ⟨y, mem, mine⟩ := List.any_eq_true.mp here
    have mine := beq_iff_eq.mp mine
    exact ⟨_, List.mem_map_of_mem mem, by rw [if_pos mine]; exact ⟨mine, Bool.or_true _⟩⟩
  · exact ⟨_, List.mem_append_right _ (List.mem_singleton_self _), rfl, rfl⟩

end

/-! ## The orders -/

theorem refuse_plain {tag : Byte} {kind : Nat} {r : Reason} {s : State} (early : earlyBody kind = []) :
    refuse tag kind r s = formReply (plainReply tag (byteOf kind) .refused r) s := by
  simp only [refuse, early]
  rfl

theorem orderModuleFetch_of (tag : Byte) (m : Fin 4) (s : State) :
    orderModuleFetch tag m.val s =
      if s.mb.owner = .station then refuse tag 20 .wrongState s
      else if busDown s then refuse tag 20 .hung s
      else if ((fetchEntry s m).bind FetchEntry.tag).isSome then refuse tag 20 .busy s
      else mapEntry m (fun e => { e with tag := some tag }) (requestFetch m true (accept tag 20 s)) := by
  rw [orderModuleFetch, dif_pos m.isLt]

/-- What an accepted MODULE FETCH leaves: the module's one entry, forced, with the tag. -/
theorem moduleFetch_accepted (tag : Byte) (m : Fin 4) (s : State) :
    let e := mapEntry m (fun e => { e with tag := some tag }) (requestFetch m true (accept tag 20 s))
    (∃ x ∈ e.mb.queue, x.module = m ∧ x.forced = true ∧ x.tag = some tag) ∧
    (∀ x, x.module ≠ m → (x ∈ e.mb.queue ↔ x ∈ s.mb.queue)) ∧
    e.mb.queue.length = (if s.mb.queue.any (fun x => x.module == m) then s.mb.queue.length else s.mb.queue.length + 1) ∧
    e.mb.state = s.mb.state ∧ e.sl = acceptedLink (plainReply tag 20 .accepted .none) s ∧
    SameMeasurement s e ∧ e.sr = s.sr := by
  intro e
  have queue : e.mb.queue = (joinQueue m true s.mb.queue).map fun e => if e.module = m then { e with tag := some tag } else e := by
    show (mapEntry m _ (requestFetch m true (accept tag 20 s))).mb.queue = _
    rw [accept_eq]
    rfl
  rw [queue]
  obtain ⟨x, here, mine, forced⟩ := exists_joinQueue_forced m s.mb.queue
  have rest : e.mb.state = s.mb.state ∧ e.sl = acceptedLink (plainReply tag 20 .accepted .none) s ∧ SameMeasurement s e ∧
      e.sr = s.sr := by
    show (mapEntry m _ (requestFetch m true (accept tag 20 s))).mb.state = _ ∧ _
    simp only [e, accept_eq]
    exact ⟨rfl, rfl, ⟨rfl, rfl, rfl, rfl, rfl, rfl⟩, rfl⟩
  exact ⟨⟨_, List.mem_map_of_mem here, by rw [if_pos mine]; exact ⟨mine, forced, rfl⟩⟩,
    fun x other => (mem_map_entry (f := fun e => { e with tag := some tag }) (fun _ => rfl) other).trans (mem_joinQueue other),
    (List.length_map _).trans (length_joinQueue _ _ _), rest⟩

/-- Settles O49: by the judgements in their order, and the abort by the state of the bus. -/
theorem fetchAndAbortOrders : Obligations.FetchAndAbortOrders := by
  unfold Obligations.FetchAndAbortOrders
  intro s tag ready
  refine ⟨fun module => ?_, ?_⟩
  · intro refused
    have runs : exec (.moduleFetch tag module) s = .next (settle (orderModuleFetch tag module.toNat s)) :=
      exec_carryOut ready rfl (readOrder_orderOf rfl rfl nofun) rfl
    have refused_of : ∀ r, orderModuleFetch tag module.toNat s = refuse tag 20 r s → refused r := fun r judged =>
      runs.trans (by rw [judged, refuse_plain rfl]; rfl)
    refine ⟨fun outside => refused_of _ (dif_neg (Nat.not_lt.mpr outside)), fun m here => ?_⟩
    rw [here, orderModuleFetch_of] at runs refused_of
    have automatic : s.mb.owner = .auto → s.mb.owner ≠ .station := fun auto => by rw [auto]; nofun
    refine ⟨fun station => refused_of _ (if_pos station), fun auto down => refused_of _ ?_, fun auto up => ?_⟩
    · have down : busDown s = true := by rcases down with down | down <;> simp [busDown, down]
      rw [if_neg (automatic auto), if_pos down]
    · have up : ¬ busDown s = true := by rcases up with up | up <;> simp [busDown, up]
      rw [if_neg (automatic auto), if_neg up] at runs refused_of
      refine ⟨fun x t entry tagged => refused_of _ (if_pos ?_), fun untagged => ⟨_, runs, ?_⟩⟩
      · simp [entry, tagged]
      · have free : ¬ ((fetchEntry s m).bind FetchEntry.tag).isSome = true := by
          cases entry : fetchEntry s m with
          | none => simp
          | some x =>
            have mine : x.module = m := beq_iff_eq.mp (List.find?_some entry :)
            simp [untagged x (List.mem_of_find?_eq_some entry) mine]
        rw [if_neg free]
        exact moduleFetch_accepted tag m s
  · intro accepted reserved refused
    have runs : exec (.moduleAbort tag) s = .next (settle (orderModuleAbort tag s)) :=
      exec_carryOut ready rfl (readOrder_orderOf rfl rfl nofun) rfl
    have accepts : ∀ b, (accept tag 21 s).updMb b = reserved.setMb (b s.mb) := fun b => by
      have same : accept tag 21 s = reserved := rfl
      have mb : reserved.mb = s.mb := by
        rw [← same, accept_eq]
        rfl
      rw [same, State.updMb, mb]
    refine ⟨fun still => runs.trans ?_, fun busy free => runs.trans ?_, fun busy held => runs.trans ?_,
      fun recovering => runs.trans ?_⟩
    · rcases still with idle | hung
      · simp only [orderModuleAbort, idle, accepts]
      · simp only [orderModuleAbort, hung, accepts]
    · simp only [orderModuleAbort, busy, free, accepts]
      rfl
    · simp only [orderModuleAbort, busy, held]
      rfl
    · simp only [orderModuleAbort, recovering]
      rfl

end Sys2Proof.Machine
end

section
/-! The completed calibration fetch (R25, R26, R179). -/

namespace Sys2Proof.Machine

theorem exec_fetchComplete (block : BitVec 128) (s : State) :
    exec (.fetchComplete block) s = .next (settle (endFetch (bytesOf 16 block) s)) := rfl

/-- A block is good exactly when its CRC-16 and its format version are right (R179). -/
theorem blockValues_eq (bs : List Byte) :
    blockValues bs =
      if (bs.drop 14).take 2 = leBytes 2 (crc16 (bs.take 14)).toNat ∧ fieldNat bs 12 1 = 1 then
        some { gainA := fieldNat bs 0 2, offsetA := fieldInt bs 2 2, gainB := fieldNat bs 4 2, offsetB := fieldInt bs 6 2 }
      else none := rfl

/-- What the delivery of a result changes: the conditioner alone (R25). -/
theorem deliverResult_setCc (m : Fin 4) (r : CalResult) (s : State) : ∃ x, deliverResult m r s = s.setCc x := by
  unfold deliverResult
  split
  · exact ⟨_, rfl⟩
  · exact ⟨_, rfl⟩

theorem deliverResult_running {m : Fin 4} {r : CalResult} {s : State} (running : s.ia.state = .running) :
    (deliverResult m r s).cc.table = s.cc.table ∧
      (deliverResult m r s).cc.pending.get m =
        some ⟨r.values, r.forced || ((s.cc.pending.get m).map CalResult.forced).getD false⟩ := by
  rw [deliverResult, if_pos running]
  exact ⟨rfl, PerModule.get_set_same _ _ _⟩

/-- The entries after a result applied at once (R26). -/
theorem deliverResult_still {m : Fin 4} {r : CalResult} {s : State} (still : s.ia.state ≠ .running) :
    (deliverResult m r s).cc = { s.cc with table := (deliverResult m r s).cc.table } ∧
      ∀ c, (deliverResult m r s).cc.table.get c =
        if (s.cc.table.get c).module = m then (s.cc.table.get c).applyResult r else s.cc.table.get c := by
  rw [deliverResult, if_neg still]
  exact ⟨rfl, fun c => PerChannel.get_map _ _ _⟩

/-- The Module Bus Master as a fetch of a module ends, before its transaction does. -/
def MB.fetched (b : MB) (m : Fin 4) (good : Bool) : MB :=
  { b with
    queue := b.queue.filter (fun x => x.module != m)
    lastFetch := b.lastFetch.set m (if good then .good else .rejected)
    retryHold := b.retryHold.set m 0 }

/-- The Station Link Interface after a fetch: CAL_REJECT latched by a rejected block, a tag answered DONE. -/
def SL.fetched (l : SL) (good : Bool) (tag : Option Byte) : SL :=
  let flagged := if good then l else { l with latched := l.latched ||| 0x1000 }
  match tag with
  | some t => flagged.answered { plainReply t 20 .done .none with body := leBool (!good) }
  | none => flagged

theorem fetchDone_eq {m : Fin 4} {bs : List Byte} {good forced : Bool} {tag : Option Byte} {s : State}
    (judged : (blockValues bs).isSome = good) (forces : ((fetchEntry s m).map FetchEntry.forced).getD false = forced)
    (tagged : (fetchEntry s m).bind FetchEntry.tag = tag) :
    ∃ x, deliverResult m ⟨blockValues bs, forced⟩ s = s.setCc x ∧
      fetchDone m bs s =
        ((s.setCc x).setSl (s.sl.fetched good tag)).setMb ((s.mb.fetched m good).ended .idle s.sl.settings.modbusOwner) := by
  obtain ⟨x, delivered⟩ := deliverResult_setCc m ⟨blockValues bs, forced⟩ s
  have rejected : (blockValues bs).isNone = !good := by rw [← judged, Option.not_isSome]
  let flagged := if good then s.sl else { s.sl with latched := s.sl.latched ||| 0x1000 }
  have latches : (if !good then latch .calReject (s.setCc x) else s.setCc x) = (s.setCc x).setSl flagged := by
    cases good <;> rfl
  refine ⟨x, delivered, ?_⟩
  cases tag with
  | none =>
    have ends : fetchDone m bs s = endTransaction .idle (((s.setCc x).setSl flagged).setMb (s.mb.fetched m good)) := by
      simp only [fetchDone, forces, tagged, delivered, rejected, judged, latches]
      rfl
    rw [ends, endTransaction_eq]
    cases good <;> rfl
  | some t =>
    have ends : fetchDone m bs s = endTransaction .idle
        (replyDone t 20 false (leBool !good) (((s.setCc x).setSl flagged).setMb (s.mb.fetched m good))) := by
      simp only [fetchDone, forces, tagged, delivered, rejected, judged, latches]
      rfl
    have replied : replyDone t 20 false (leBool !good) (((s.setCc x).setSl flagged).setMb (s.mb.fetched m good)) = _ :=
      finalReply_eq { plainReply t 20 .done .none with body := leBool (!good) } _
    rw [ends, replied, endTransaction_eq]
    cases good <;> rfl

theorem SL.fetched_latched (l : SL) (good : Bool) (tag : Option Byte) :
    (l.fetched good tag).latched = if good then l.latched else l.latched ||| 0x1000 := by
  cases tag <;> cases good <;> rfl

/-- Settles O58: the delivery by the campaign's state, the rest by the one form of the end. -/
theorem fetchCompletes : Obligations.FetchCompletes := by
  unfold Obligations.FetchCompletes
  intro s m d block flight busy whole bytes good forced values
  have judged : blockValues bytes = values := by
    simp only [blockValues_eq, values, good, decide_eq_true_eq]
  have isGood : (blockValues bytes).isSome = good := by
    rw [judged]
    simp only [values]
    cases good <;> rfl
  obtain ⟨x, delivered, done⟩ := fetchDone_eq (forced := forced) (s := s) (m := m) isGood rfl rfl
  have ends : endFetch bytes s = fetchDone m bytes s := by
    simp only [endFetch, flight, running_of busy whole, if_true]
  rw [judged] at delivered
  have cc : x = (deliverResult m ⟨values, forced⟩ s).cc := (congrArg State.cc delivered).symm
  refine ⟨_, (exec_fetchComplete block s).trans (by rw [ends, done]), ?_⟩
  rw [MB.ended_eq]
  refine ⟨PerModule.get_set_same _ _ _, PerModule.get_set_same _ _ _, rfl, rfl, rfl, rfl, rfl, ?_, fun running => ?_,
    fun still => ?_, fun entry tag here tagged => ?_, rfl, rfl, rfl, rfl, rfl, rfl, rfl⟩
  · exact SL.fetched_latched _ _ _
  · show x.table = _ ∧ x.pending.get m = _
    rw [cc]
    exact deliverResult_running running
  · show x = { s.cc with table := x.table } ∧ ∀ c, _
    obtain ⟨rest, entries⟩ := deliverResult_still (m := m) (r := ⟨values, forced⟩) still
    refine ⟨by rw [cc]; exact rest, fun c => ?_⟩
    show x.table.get c = _
    rw [cc, entries c]
    by_cases mine : (s.cc.table.get c).module = m
    · simp only [mine, if_true, ne_eq, not_true_eq_false, false_or, ChanEntry.applyResult, values]
      by_cases stays : (s.cc.table.get c).cal = .loaded ∧ forced = false
      · simp only [if_pos stays]
      · simp only [if_neg stays]
        cases good <;> cases (s.cc.table.get c).slotB <;> rfl
    · rw [if_neg mine, if_pos (.inl mine)]
  · have tag_eq : (fetchEntry s m).bind FetchEntry.tag = some tag := by rw [here]; exact tagged
    show (s.sl.fetched good _).reserved = _ ∧ (_ → (s.sl.fetched good _).replies = _)
    rw [tag_eq]
    refine ⟨by cases good <;> rfl, fun up => ?_⟩
    cases good <;> exact SL.answered_replies _ _ up

end Sys2Proof.Machine
end

section
/-! RELEASE, MOUNT, FORMAT and MAP LOAD (R141, R150, R155, R156, R160). -/

namespace Sys2Proof.Machine

/-! ## The tail and the reader (R148, R167) -/

theorem orphanRead_setSr (s : State) : ∃ x, orphanRead s = s.setSr x := by
  unfold orphanRead
  repeat' split
  all_goals exact ⟨_, rfl⟩

/-- A tail that moves reaches the reader alone (R167). -/
theorem restartLocating_setSr (s : State) : ∃ x, restartLocating s = s.setSr x := by
  unfold restartLocating
  split
  · exact ⟨s.sr, rfl⟩
  · split
    · exact ⟨s.sr, rfl⟩
    · exact ⟨s.sr, rfl⟩
    · obtain ⟨x, eq⟩ := orphanRead_setSr (s.setSr _)
      exact ⟨x, eq⟩

/-- The OVERWRITE case: the tail on the next sector, to be settled, its header read and the head erased (R148). -/
theorem overwriteTail_eq {s : State} {h : PagePos} (head : s.sw.head = some h) :
    ∃ x, overwriteTail s = (s.setSw { s.sw with
      tail := some (nextSector s h.sector), tasks := [.seekTail, .readTail, .erase] }).setSr x := by
  obtain ⟨x, moved⟩ := restartLocating_setSr
    ((s.setSw { s.sw with tasks := [.seekTail, .readTail, .erase] }).setSw
      { s.sw with tail := some (nextSector s h.sector), tasks := [.seekTail, .readTail, .erase] })
  refine ⟨x, Eq.trans ?_ moved⟩
  unfold overwriteTail
  split
  · next none => exact absurd (none.symm.trans head) nofun
  · next k here =>
    obtain rfl := Option.some.inj (here.symm.trans head)
    rfl

/-- What a RELEASE taken in MOUNTED brings about. -/
theorem orderRelease_mounted {s : State} {tag : Byte} {w : Nat} (mounted : s.sr.state = .mounted)
    (above : s.sw.watermark ≤ w) :
    let t := s.setSw { s.sw with watermark := w }
    ((∀ kept, s.sw.stopMark = some kept → w < kept) → orderRelease tag w s = answerOk tag 15 [] t) ∧
      (∀ kept, s.sw.stopMark = some kept → kept ≤ w → orderRelease tag w s = answerOk tag 15 [] (clearStop t)) := by
  intro t
  have taken : orderRelease tag w s = answerOk tag 15 [] (match s.sw.stopMark with
      | some kept => if kept ≤ w then clearStop t else t
      | none => t) := by
    unfold orderRelease
    rw [mounted]
    exact if_neg (Nat.not_lt.mpr above)
  rw [taken]
  refine ⟨fun kept => ?_, fun kept stop low => ?_⟩
  · split
    · next k stop => rw [if_neg (Nat.not_le.mpr (kept k stop))]
    · rfl
  · rw [stop]
    exact congrArg (answerOk tag 15 []) (if_pos low)

/-! ## RELEASE (R150) -/

/-- Settles O46: a stop mark above W stays; at or below it the erase proceeds as under OVERWRITE. -/
theorem releaseMovesTheWatermark : Obligations.ReleaseMovesTheWatermark := by
  unfold Obligations.ReleaseMovesTheWatermark
  intro s tag w ready
  have runs : exec (.release tag w) s = .next (settle (orderRelease tag w.toNat s)) :=
    exec_carryOut ready rfl (readOrder_orderOf rfl rfl nofun) rfl
  rw [runs]
  refine ⟨fun unmounted => ?_, fun mounted below => ?_, fun mounted above => ⟨fun kept => ?_, fun kept h stop low head => ?_⟩⟩
  · unfold orderRelease
    split
    · next here => exact absurd here unmounted
    · next here => rw [if_pos here]; rfl
    · next _ here => rw [if_neg here]; rfl
  · simp only [orderRelease, mounted, if_pos below]
    rfl
  · rw [(orderRelease_mounted mounted above).1 kept]
    rfl
  · obtain ⟨x, moved⟩ := overwriteTail_eq (s := s.setSw { s.sw with watermark := w.toNat, stopMark := none }) (h := h) head
    have cleared : clearStop (s.setSw { s.sw with watermark := w.toNat }) =
        overwriteTail (s.setSw { s.sw with watermark := w.toNat, stopMark := none }) := by
      have marked : (s.setSw { s.sw with watermark := w.toNat }).sw.stopMark.isSome = true := by
        show s.sw.stopMark.isSome = true
        rw [stop]; rfl
      have stands : (s.setSw { s.sw with watermark := w.toNat, stopMark := none }).sr.state = .mounted := mounted
      rw [clearStop, if_pos marked]
      exact if_pos stands
    refine ⟨_, congrArg (fun t => Host.Outcome.next (settle t)) ((orderRelease_mounted mounted above).2 kept stop low), ?_⟩
    rw [cleared, moved]
    exact ⟨rfl, rfl, rfl, rfl, rfl, rfl, ⟨rfl, rfl, rfl, rfl, rfl, rfl⟩, rfl, rfl⟩

/-! ## MOUNT, FORMAT and MAP LOAD (R155, R156, R160) -/

theorem takeStoreOrder_eq (o : LongOrder) (tag : Byte) (s : State) :
    takeStoreOrder o tag s = s.setSl { acceptedLink { plainReply tag (byteOf o.code) .accepted .none with
      body := earlyBody o.code } s with storeOrder := some (o, tag) } := by
  rw [takeStoreOrder, accept_eq]
  rfl

/-- A MAP LOAD is acceptable when its entries lie in range, are distinct and follow the map fill (R156). -/
theorem mapLoadValid_iff (s : State) (start : BitVec 16) (list : List Nat) :
    mapLoadValid s start.toNat list = true ↔
      (start.toNat + list.length ≤ 1024 ∧ list.Nodup ∧ ∀ p ∈ list, p ≠ 0 ∧ p < s.sl.settings.storeSectors) ∧
        (start = 0 ∨ ∃ n members, s.sw.mapFill = some (n, members) ∧ start.toNat = n ∧ ∀ p ∈ list, p ∉ members) := by
  have zero : start.toNat = 0 ↔ start = 0 := ⟨fun h => BitVec.eq_of_toNat_eq h, fun h => by rw [h]; rfl⟩
  unfold mapLoadValid
  cases fill : s.sw.mapFill with
  | none => simp [zero]; tauto
  | some x =>
    have same : (∃ n members, some x = some (n, members) ∧ start.toNat = n ∧ ∀ p ∈ list, p ∉ members) ↔
        start.toNat = x.1 ∧ ∀ p ∈ list, p ∉ x.2 :=
      ⟨fun ⟨n, members, eq, rest⟩ => by obtain rfl := Option.some.inj eq; exact rest, fun rest => ⟨x.1, x.2, rfl, rest⟩⟩
    rw [same]
    simp [zero]
    tauto

/-- The writer's geometry as an operation reads it at its start (R141). -/
def geometryOf (s : State) : SW :=
  { s.sw with
    mode := s.sl.settings.mapMode, sectors := s.sl.settings.storeSectors
    logical := match s.sl.settings.mapMode with
      | .direct => s.sl.settings.storeSectors
      | .mapped => min s.sl.settings.logSectors (s.sl.settings.storeSectors - 1)
    translation := none }

theorem readGeometry_takeStoreOrder (o : LongOrder) (tag : Byte) (s : State) :
    (readGeometry (takeStoreOrder o tag s)).setCache [] =
      ((s.setSl { acceptedLink { plainReply tag (byteOf o.code) .accepted .none with body := earlyBody o.code } s with
        storeOrder := some (o, tag) }).setSw (geometryOf s)).setCache [] := by
  rw [takeStoreOrder_eq]
  rfl

/-- Settles O44: by the state of the store; in UNMOUNTED the judgement of a MAP LOAD is `mapLoadValid`. -/
theorem mountFormatAndMapLoadTaken : Obligations.MountFormatAndMapLoadTaken := by
  unfold Obligations.MountFormatAndMapLoadTaken
  refine ⟨fun s tag ready free => ?_, fun s tag start sectors ready free low high => ?_⟩
  · have noBusy : ∀ i, (Instr.isLongStore i && s.sl.storeOrder.isSome) = false := fun i => by
      rw [free]; exact Bool.and_false _
    have mount : exec (.mount tag) s = .next (settle (orderMount tag s)) := by
      rw [exec_order_ready (i := .mount tag) ready rfl (readOrder_orderOf rfl rfl nofun), noBusy, if_neg Bool.false_ne_true]
      rfl
    have format : exec (.format tag) s = .next (settle (orderFormat tag s)) := by
      rw [exec_order_ready (i := .format tag) ready rfl (readOrder_orderOf rfl rfl nofun), noBusy, if_neg Bool.false_ne_true]
      rfl
    rw [mount, format]
    intro geometry taken
    refine ⟨fun unmounted => ⟨⟨_, rfl, ?_⟩, _, rfl, ?_⟩, fun other => ?_⟩
    · simp only [orderMount, unmounted, readGeometry_takeStoreOrder]
      exact ⟨rfl, rfl, rfl, rfl, rfl, rfl, rfl, rfl, by simp [StoreFrame, SameMeasurement]⟩
    · simp only [orderFormat, unmounted, readGeometry_takeStoreOrder]
      exact ⟨rfl, rfl, rfl, rfl, rfl, rfl, rfl, rfl, by simp [StoreFrame, SameMeasurement]⟩
    · simp only [orderMount, orderFormat]
      cases state : s.sr.state with
      | unmounted => exact absurd state other
      | formatting | mounting | unmounting | mounted | faulted => exact ⟨rfl, rfl⟩
  · intro list inRange follows refused
    have runs : exec (.mapLoad tag start sectors) s = .next (settle (orderMapLoad tag start.toNat list s)) := by
      rw [exec_order_ready ready rfl (readOrder_mapLoad tag start low high), free, Option.isSome_none, Bool.and_false,
        if_neg Bool.false_ne_true]
      rfl
    have refused_of : ∀ r, orderMapLoad tag start.toNat list s = refuse tag 13 r s → refused r := fun r judged =>
      runs.trans (by rw [judged]; rfl)
    have valid_iff := mapLoadValid_iff s start list
    refine ⟨fun unmounted mapped range after => ⟨_, runs, ?_⟩, fun unmounted mapped bad => refused_of _ ?_,
      fun unmounted direct => refused_of _ ?_, fun stands => refused_of _ ?_, fun busy => refused_of _ ?_⟩
    · have zero : (start.toNat == 0) = (start == 0) := by
        rw [Bool.eq_iff_iff, beq_iff_eq, beq_iff_eq, BitVec.toNat_eq]
        rfl
      simp only [orderMapLoad, unmounted, mapped, reduceCtorEq, if_false, valid_iff.mpr ⟨range, after⟩, Bool.not_true,
        Bool.false_eq_true, readGeometry_takeStoreOrder, zero]
      exact ⟨unmounted, rfl, rfl, rfl, by simp [StoreFrame, SameMeasurement, geometryOf]⟩
    · have invalid : mapLoadValid s start.toNat list = false := Bool.eq_false_iff.mpr fun valid => bad (valid_iff.mp valid)
      simp only [orderMapLoad, unmounted, mapped, reduceCtorEq, if_false, invalid, Bool.not_false, if_true]
    · simp only [orderMapLoad, unmounted, direct, if_true]
    · rcases stands with state | state <;> simp only [orderMapLoad, state]
    · rcases busy with state | state | state <;> simp only [orderMapLoad, state]

end Sys2Proof.Machine
end

section
/-! UNMOUNT, and one long store order at a time (R157, R172, R187). -/

namespace Sys2Proof.Machine

/-! ## Readbacks that are cancelled (R171, R172) -/

section
variable (s : State)

@[simp] theorem readerless_withReadback (f : Readback → Readback) : readerless (withReadback f s) = readerless s := rfl

@[simp] theorem sl_withReadback (f : Readback → Readback) : (withReadback f s).sl = s.sl := rfl

@[simp] theorem readerless_cancelCurrent (waiters : List Byte) : readerless (cancelCurrent waiters s) = readerless s := by
  unfold cancelCurrent
  dsimp only
  split <;> simp

theorem repliesGrow_cancelCurrent (waiters : List Byte) : RepliesGrow s (cancelCurrent waiters s) := by
  unfold cancelCurrent
  dsimp only
  split
  · exact .of_sl (by simp)
  · exact .trans (.of_sl (sl_withReadback s _)) (repliesGrow_endReadback _ _ _)

@[simp] theorem readerless_cancelAll : readerless (cancelAll s) = readerless s := by
  unfold cancelAll
  split <;> simp

theorem repliesGrow_cancelAll : RepliesGrow s (cancelAll s) := by
  unfold cancelAll
  split
  · exact .refl s
  · exact (repliesGrow_endQueued s _ _).trans (repliesGrow_cancelCurrent _ _)

/-! The operation in flight stays, though the reader no longer waits for it. -/

@[simp] theorem inFlight_orphanRead : (orphanRead s).sr.flight.isSome = s.sr.flight.isSome := by
  unfold orphanRead
  split
  · next here =>
    split
    · rw [here]; rfl
    · rfl
  · rfl

theorem inFlight_endReadback (cancelled failed : Bool) :
    (endReadback cancelled failed s).sr.flight.isSome = s.sr.flight.isSome := by
  have started : ∀ t : State, (startReadback t).sr.flight = t.sr.flight := fun t => by
    unfold startReadback
    split <;> rfl
  unfold endReadback
  split
  · dsimp only
    rw [started, sr_answerWaiters]
    split <;> exact (congrArg (fun r : SR => r.flight.isSome) (sr_finalReply _ _)).trans (inFlight_orphanRead s)
  · rfl

theorem inFlight_cancelAll : (cancelAll s).sr.flight.isSome = s.sr.flight.isSome := by
  have held : ∀ (f : Readback → Readback) (t : State), (withReadback f t).sr.flight = t.sr.flight := fun _ _ => rfl
  unfold cancelAll
  split
  · rfl
  · unfold cancelCurrent
    dsimp only
    split
    · rw [held, held, sr_endQueued]
    · rw [inFlight_endReadback, held, sr_endQueued]

end

/-- What a state outside the readbacks holds is the same. -/
theorem fields_of_readerless {s t : State} (h : readerless t = readerless s) :
    t.sr.state = s.sr.state ∧ t.sl.storeOrder = s.sl.storeOrder ∧ t.rq = s.rq ∧ t.sw = s.sw ∧ t.ia = s.ia ∧ StoreFrame s t := by
  have state := congrArg (fun x => x.sr.state) h
  have order := congrArg (fun x => x.sl.storeOrder) h
  have rq := congrArg State.rq h
  have sw := congrArg State.sw h
  have ia := congrArg State.ia h
  have lr := congrArg State.lr h
  have mm := congrArg State.mm h
  have cc := congrArg State.cc h
  have ct := congrArg State.ct h
  have mu := congrArg State.mu h
  have tb := congrArg State.tb h
  have mb := congrArg State.mb h
  have pending := congrArg State.pending h
  exact ⟨state, order, rq, sw, ia, ⟨lr, mm, cc, ct, mu, tb⟩, mb, pending⟩

/-! ## UNMOUNT (R157) -/

/-- From FAULTED the store is UNMOUNTED at once. -/
theorem unmount_faulted (tag : Byte) (s : State) :
    enterUnmounted (takeStoreOrder .unmount tag s) =
      (((s.setSl (({ acceptedLink (plainReply tag 14 .accepted .none) s with storeOrder := none } : SL).answered
        (plainReply tag 14 .done .none))).setCache []).setSw { s.sw.clearBuffer with stopMark := none, tasks := [] }).setSr
          { s.sr with state := .unmounted, cause := none } := by
  rw [takeStoreOrder_eq]
  exact finalReply_eq (plainReply tag 14 .done .none) _

/-- The writer as an UNMOUNT is taken from MOUNTED (R157). -/
theorem unmountWriter_eq (s : State) : ∃ w, unmountWriter s = s.setSw w ∧
    if s.sw.stopMark.isSome = true ∨ s.sw.headErased = false then w.buffer = []
    else w.buffer = s.sw.buffer ∧ w.flushDue = true := by
  have discards : (s.sw.stopMark.isSome || !s.sw.headErased) = true ↔ s.sw.stopMark.isSome = true ∨ s.sw.headErased = false := by
    simp
  simp only [unmountWriter, discards]
  by_cases gone : s.sw.stopMark.isSome = true ∨ s.sw.headErased = false
  · simp only [if_pos gone]
    exact ⟨_, rfl, rfl⟩
  · simp only [if_neg gone]
    exact ⟨_, rfl, rfl, rfl⟩

/-- An UNMOUNT taken from MOUNTED, its order accepted in the state given. -/
theorem unmount_mounted (s t : State) (taken : ∃ l, t = s.setSl l) :
    let e := cancelAll (unmountWriter (t.setSr { t.sr with state := .unmounting }))
    e.sr.state = .unmounting ∧ e.sl.storeOrder = t.sl.storeOrder ∧ e.rq = s.rq ∧
      e.sr.flight.isSome = s.sr.flight.isSome ∧ StoreFrame s e ∧
      (if s.sw.stopMark.isSome = true ∨ s.sw.headErased = false then e.sw.buffer = []
        else e.sw.buffer = s.sw.buffer ∧ e.sw.flushDue = true) ∧
      (s.sr.queue = [] → e.sr.queue = [] ∧ e.sl = t.sl) ∧
      ∃ more, e.sl.replies = t.sl.replies ++ more ∧ (s.sr.queue = [] → more = []) := by
  obtain ⟨l, rfl⟩ := taken
  obtain ⟨w, writer, buffer⟩ := unmountWriter_eq ((s.setSl l).setSr { s.sr with state := .unmounting })
  intro e
  have e_eq : e = cancelAll (((s.setSl l).setSr { s.sr with state := .unmounting }).setSw w) := congrArg cancelAll writer
  obtain ⟨state, order, rq, sw, -, same, mb, pending⟩ := fields_of_readerless
    (readerless_cancelAll (((s.setSl l).setSr { s.sr with state := .unmounting }).setSw w))
  have flight := inFlight_cancelAll (((s.setSl l).setSr { s.sr with state := .unmounting }).setSw w)
  obtain ⟨grows, -, -⟩ := repliesGrow_cancelAll (((s.setSl l).setSr { s.sr with state := .unmounting }).setSw w)
  rw [e_eq]
  have quiet : s.sr.queue = [] → (cancelAll (((s.setSl l).setSr { s.sr with state := .unmounting }).setSw w)).sr.queue = [] ∧
      (cancelAll (((s.setSl l).setSr { s.sr with state := .unmounting }).setSw w)).sl = l := fun empty => by
    have still : cancelAll (((s.setSl l).setSr { s.sr with state := .unmounting }).setSw w) =
        ((s.setSl l).setSr { s.sr with state := .unmounting }).setSw w := by
      have none : (((s.setSl l).setSr { s.sr with state := .unmounting }).setSw w).sr.queue = [] := empty
      rw [cancelAll, none]
    rw [still]
    exact ⟨empty, rfl⟩
  refine ⟨state, order, rq, flight, ⟨same, mb, pending⟩, ?_, quiet, ?_⟩
  · rw [sw]
    exact buffer
  · obtain ⟨more, eq⟩ := grows
    refine ⟨more, eq.symm, fun empty => ?_⟩
    rw [(quiet empty).2] at eq
    exact List.append_right_eq_self.mp eq

/-- Settles O45: by the state of the store, and the one order in flight that refuses every other. -/
theorem unmountTakenOneAtATime : Obligations.UnmountTakenOneAtATime := by
  unfold Obligations.UnmountTakenOneAtATime
  refine ⟨fun s tag ready free => ?_, fun s tag start sectors ready held low high => ?_⟩
  · intro refused
    have runs : exec (.unmount tag) s = .next (settle (orderUnmount tag s)) := by
      rw [exec_order_ready (i := .unmount tag) ready rfl (readOrder_orderOf rfl rfl nofun), free, Option.isSome_none,
        Bool.and_false, if_neg Bool.false_ne_true]
      rfl
    have refused_of : ∀ r, orderUnmount tag s = refuse tag 14 r s → refused r := fun r judged =>
      runs.trans (by rw [judged]; rfl)
    refine ⟨fun state => refused_of _ ?_, fun busy => refused_of _ ?_, fun stands going => refused_of _ ?_,
      fun faulted stopped => ⟨_, runs, ?_⟩, fun mounted stopped => ⟨_, runs, ?_⟩⟩
    · simp only [orderUnmount, state]
    · rcases busy with state | state | state <;> simp only [orderUnmount, state]
    · rcases stands with state | state <;> simp only [orderUnmount, state, if_pos going]
    · have leaves : orderUnmount tag s = enterUnmounted (takeStoreOrder .unmount tag s) := by
        unfold orderUnmount
        rw [faulted]
        exact if_neg (not_not_intro stopped)
      rw [leaves, unmount_faulted]
      refine ⟨rfl, rfl, rfl, rfl, rfl, rfl, by simp, by simp [StoreFrame, SameMeasurement], fun up => ?_⟩
      have accepted : (acceptedLink (plainReply tag 14 .accepted .none) s).replies =
          s.sl.replies ++ [plainReply tag 14 .accepted .none] := if_pos up
      refine (SL.answered_replies ({ acceptedLink (plainReply tag 14 .accepted .none) s with storeOrder := none } : SL) _ up).trans ?_
      rw [accepted, List.append_assoc]
      rfl
    · have leaves : orderUnmount tag s = cancelAll (unmountWriter ((takeStoreOrder .unmount tag s).setSr
          { (takeStoreOrder .unmount tag s).sr with state := .unmounting })) := by
        unfold orderUnmount
        rw [mounted]
        exact if_neg (not_not_intro stopped)
      have taken := takeStoreOrder_eq .unmount tag s
      obtain ⟨state, order, rq, flight, frame, buffer, quiet, grows⟩ :=
        unmount_mounted s (takeStoreOrder .unmount tag s) ⟨_, taken⟩
      rw [leaves]
      have sl : (takeStoreOrder .unmount tag s).sl =
          { acceptedLink (plainReply tag 14 .accepted .none) s with storeOrder := some (.unmount, tag) } := congrArg State.sl taken
      refine ⟨state, order.trans (congrArg SL.storeOrder sl), rq, flight, frame, buffer, fun empty => ?_, fun up => ?_⟩
      · obtain ⟨none, same⟩ := quiet empty
        exact ⟨none, congrArg SL.reserved (same.trans sl)⟩
      · have accepted : (takeStoreOrder .unmount tag s).sl.replies = s.sl.replies ++ [plainReply tag 14 .accepted .none] :=
          (congrArg SL.replies sl).trans (if_pos up)
        obtain ⟨more, eq, alone⟩ := grows
        exact ⟨more, by rw [eq, accepted, List.append_assoc]; rfl, alone⟩
  · have busy : ∀ (i : Instr) (kind : Byte) (args : List Byte), orderOf i = some ⟨tag, kind, args, true⟩ →
        readOrder ⟨tag, kind, args, true⟩ = .inr i → Instr.isLongStore i = true →
        exec i s = .next (settle (refuse tag kind.toNat .busy s)) := fun i kind args spelt read long => by
      rw [exec_order_ready ready spelt read, long, held, Bool.true_and, if_pos rfl]
    have plain : ∀ {i : Instr} {kind : Nat}, earlyBody kind = [] →
        exec i s = .next (settle (refuse tag kind .busy s)) →
        exec i s = .next (settle (formReply (plainReply tag (byteOf kind) .refused .busy) s)) := fun early runs => by
      rw [runs, refuse_plain early]
    have mount := busy (.mount tag) 11 [] rfl (readOrder_orderOf rfl rfl nofun) rfl
    have format := busy (.format tag) 12 [] rfl (readOrder_orderOf rfl rfl nofun) rfl
    have unmount := busy (.unmount tag) 14 [] rfl (readOrder_orderOf rfl rfl nofun) rfl
    have mapLoad := busy (.mapLoad tag start sectors) 13 _ rfl (readOrder_mapLoad tag start low high) rfl
    exact ⟨plain (kind := 11) rfl mount, plain (kind := 12) rfl format, plain (kind := 14) rfl unmount, mapLoad⟩

end Sys2Proof.Machine
end

section
/-! The reading orders: GET, STATUS and READ TABLE (R194, R197). -/

namespace Sys2Proof.Machine

/-! ## Lengths of fields (section 12.1) -/

@[simp] theorem length_absent (w : Nat) : (absent w).length = w := List.length_replicate

@[simp] theorem length_leOpt (w : Nat) (n : Option Nat) : (leOpt w n).length = w := by
  cases n with
  | none => exact length_absent w
  | some n => exact leBytes_length w n

@[simp] theorem length_leBool (b : Bool) : (leBool b).length = 1 := rfl

@[simp] theorem length_leSigned (w : Nat) (n : Int) : (leSigned w n).length = w := leBytes_length w _

@[simp] theorem length_summaryField (n : Nat) : (summaryField n).length = 4 := leBytes_length 4 _

@[simp] theorem length_stampBytes (t : Stamp) : t.bytes.length = 8 := by simp [Stamp.bytes]

@[simp] theorem length_summaryBytes (x : Summary) : x.bytes.length = 24 := by simp [Summary.bytes]

@[simp] theorem length_boundaryBytes (b : Option Boundary) : (boundaryBytes b).length = 13 := by simp [boundaryBytes]

/-! ## The STATUS body, part by part (section 12.5) -/

section
variable (s : State)

theorem length_statusAttention : (statusAttention s).length = 9 := by simp [statusAttention]

theorem length_statusSnapshot : (statusSnapshot s).length = 50 := by
  simp [statusSnapshot, PerChannel.toList]

theorem length_statusModules : (statusModules s).length = 40 := by
  simp [statusModules, PerModule.toList, ModMon.statusBytes]

theorem length_statusTracker : (statusTracker s).length = 25 := by simp [statusTracker]

theorem length_statusCapture : (statusCapture s).length = 18 := by simp [statusCapture]

theorem length_statusTime : (statusTime s).length = 18 := by simp [statusTime]

theorem length_statusCampaign : (statusCampaign s).length = 48 := by simp [statusCampaign]

theorem length_statusStore : (statusStore s).length = 48 := by
  unfold statusStore
  simp only [List.length_append, leBytes_length, length_leOpt]

theorem length_opCode (f : Option InFlight) : (opCode f).length = 1 := by
  cases f with
  | none => rfl
  | some f => rfl

theorem length_statusReadback : (statusReadback s).length = 28 := by simp [statusReadback, length_opCode]

theorem length_statusBus : (statusBus s).length = 22 := by
  simp [statusBus, PerModule.toList, absentFetch]

theorem length_statusLink : (statusLink s).length = 13 := by simp [statusLink]

theorem length_statusBody : (statusBody s).length = 322 := by
  simp only [statusBody, List.length_append, length_statusAttention, length_statusSnapshot, length_statusModules,
    length_statusTracker, length_statusCapture, length_statusTime, length_statusCampaign, length_statusStore,
    length_statusReadback, length_statusBus, length_statusLink, statusIdentity, leBytes_length]

end

/-! ## GET (R194) -/

theorem ofCode_eq_none_iff (c : Byte) : Setting.ofCode c.toNat = none ↔ c = 0 ∨ 40 < c.toNat := by
  have zero : c.toNat = 0 ↔ c = 0 := ⟨fun h => BitVec.eq_of_toNat_eq h, fun h => by rw [h]; rfl⟩
  have forty : allSettings.length = 40 := rfl
  unfold Setting.ofCode
  split
  · next none => exact iff_of_true rfl (.inl (zero.mp none))
  · next some =>
    rw [List.getElem?_eq_none_iff, forty, ← zero]
    omega

theorem getItem_eq (s : State) (c : Byte) : getItem s c = match Setting.ofCode c.toNat with
    | some k =>
      [c, 0] ++ leBytes 4 (k.read s.sl.settings) ++ leBool (s.sl.pending.get k).isSome ++
        leBytes 4 ((s.sl.pending.get k).getD 0)
    | none => [c, 4, 0xFF, 0xFF, 0xFF, 0xFF, 0, 0, 0, 0, 0] := by
  unfold getItem
  cases Setting.ofCode c.toNat with
  | none => rfl
  | some k => rfl

theorem known_iff (codes : List Byte) :
    (codes.all fun c => (Setting.ofCode c.toNat).isSome) = true ↔ ∀ c ∈ codes, 1 ≤ c.toNat ∧ c.toNat ≤ 40 := by
  rw [List.all_eq_true]
  refine forall₂_congr fun c _ => ?_
  rw [Option.isSome_iff_ne_none, ne_eq, ofCode_eq_none_iff, BitVec.toNat_eq]
  show ¬ (c.toNat = 0 ∨ 40 < c.toNat) ↔ _
  omega

theorem orderGet_eq (tag : Byte) (codes : List Byte) (s : State) :
    orderGet tag codes s = formReply
      { tag := tag, kind := 2
        status := if ∀ c ∈ codes, 1 ≤ c.toNat ∧ c.toNat ≤ 40 then .ok else .refused
        reason := if ∀ c ∈ codes, 1 ≤ c.toNat ∧ c.toNat ≤ 40 then .none else .unknown
        cancelled := false, body := codes.flatMap (getItem s) } s := by
  simp only [orderGet, known_iff]

/-! ## READ TABLE (R20) -/

theorem channelTableBody_eq (s : State) : channelTableBody s =
    (allChannels.flatMap fun c =>
      let e := s.cc.table.get c
      leBytes 1 c.code ++ leBytes 1 e.module.val ++ leBool e.slotB ++ leBool e.enabled ++ leBytes 2 e.gain ++
        leSigned 2 e.offset ++ leBytes 1 e.cal.code) ++
    (allModules.flatMap fun m =>
      match s.cc.pending.get m with
      | none => [0, 0, 0]
      | some r => [1] ++ leBool r.values.isNone ++ leBool r.forced) := by
  have each : ∀ p : Option CalResult,
      leBool p.isSome ++ leBool (p.isSome && (p.bind CalResult.values).isNone) ++ leBool ((p.map CalResult.forced).getD false) =
        match p with
        | none => [0, 0, 0]
        | some r => [1] ++ leBool r.values.isNone ++ leBool r.forced := fun p => by
    cases p with
    | none => rfl
    | some r => rfl
  simp only [channelTableBody, each]
  rfl

theorem passTableBody_eq (s : State) : passTableBody s =
    allModules.flatMap fun m =>
      leBytes 1 m.val ++
        match s.cc.pass.get m with
        | .drop => [0, 0xFF]
        | .all => [1, 0xFF]
        | .decimate n => [2] ++ leBytes 1 n
        | .duringCapture => [3, 0xFF] := by
  have each : ∀ (m : Fin 4) (p : PassMode), leBytes 1 m.val ++ leBytes 1 p.code ++ leOpt 1 p.divisor =
      leBytes 1 m.val ++ match p with
        | .drop => [0, 0xFF]
        | .all => [1, 0xFF]
        | .decimate n => [2] ++ leBytes 1 n
        | .duringCapture => [3, 0xFF] := fun m p => by
    cases p <;> rfl
  simp only [passTableBody, each]

/-- Settles O36: the orders answer by one reply each, their bodies rewritten. -/
theorem readingOrdersOnlyAnswer : Obligations.ReadingOrdersOnlyAnswer := by
  unfold Obligations.ReadingOrdersOnlyAnswer
  intro s tag ready
  refine ⟨fun codes low high => ?_, ofCode_eq_none_iff, exec_carryOut ready rfl (readOrder_orderOf rfl rfl nofun) rfl,
    length_statusBody s, ?_, ?_, exec_carryOut ready rfl (readOrder_orderOf rfl rfl nofun) rfl, ?_⟩
  · have runs : exec (.get tag codes) s = .next (settle (orderGet tag codes s)) :=
      exec_carryOut ready rfl (readOrder_get tag low high) rfl
    have bodies : getItem s = _ := funext (getItem_eq s)
    rw [runs, orderGet_eq, bodies] <;> rfl
  · have runs : exec (.readTableChannel tag) s = .next (settle (answerOk tag 4 (channelTableBody s) s)) :=
      exec_carryOut ready rfl (readOrder_orderOf rfl rfl nofun) rfl
    rw [channelTableBody_eq] at runs
    exact runs
  · have runs : exec (.readTablePass tag) s = .next (settle (answerOk tag 4 (passTableBody s) s)) :=
      exec_carryOut ready rfl (readOrder_orderOf rfl rfl nofun) rfl
    rw [passTableBody_eq] at runs
    exact runs
  · have body : gridTableBody s = s.ed.grid.residual.flatMap (leBytes 2) ++ s.ed.grid.swell.flatMap (leBytes 2) ++
        s.ed.grid.duration.flatMap (leBytes 4) ++ s.ed.dipCells.flatMap (leBytes 2) ++ s.ed.swellCells.flatMap (leBytes 2) := rfl
    rw [← body]
    exact exec_carryOut ready rfl (readOrder_orderOf rfl rfl nofun) rfl

end Sys2Proof.Machine
end

section
/-! The judgement of an item of a SET (R192). -/

namespace Sys2Proof.Machine

/-! ## One item (R192) -/

section
variable {code : Byte} {k : Setting} {v : Nat} {s : State}

theorem setItem_unknown (unknown : Setting.ofCode code.toNat = none) : setItem code v s = (⟨code, .refused, .unknown, none⟩, s) := by
  simp only [setItem, unknown, refusedItem]

theorem setItem_invalid (known : Setting.ofCode code.toNat = some k) (outside : k.shape.accepts v = false) :
    setItem code v s = (⟨code, .refused, .invalid, none⟩, s) := by
  simp only [setItem, known, outside, Bool.not_false, if_true, refusedItem]

theorem setItem_wrongState (known : Setting.ofCode code.toNat = some k) (inside : k.shape.accepts v = true)
    (shut : k.cls.admits s = false) : setItem code v s = (⟨code, .refused, .wrongState, none⟩, s) := by
  simp only [setItem, known, inside, shut, Bool.not_true, Bool.false_eq_true, if_false, Bool.not_false, if_true, refusedItem]

end

/-- A SET of one item answers with that item alone. -/
theorem exec_set_one {tag code : Byte} {value : BitVec 32} {s t : State} {r : ItemResult} (ready : Ready s)
    (handled : setItem code value.toNat s = (r, t)) :
    exec (.set tag [(code, value)]) s = .next (settle (formReply
      { tag := tag, kind := 1, status := (overallStatus [r]).1, reason := (overallStatus [r]).2, cancelled := false,
        body := r.bytes } t)) := by
  have runs : exec (.set tag [(code, value)]) s = .next (settle (orderSet tag [(code, value)] s)) :=
    exec_carryOut ready rfl (readOrder_set tag (items := [(code, value)]) (Nat.le_refl 1) (Nat.le_add_left 1 15)) rfl
  have items : setItems [(code, value)] s = ([r], t) := by simp only [setItems, handled]
  rw [runs, orderSet, items]
  simp only [List.flatMap_cons, List.flatMap_nil, List.append_nil]

/-! ## Orderings of the phases (section 12.4) -/

/-- Three codes that are a permutation of 0, 1 and 2 are those of three phases. -/
theorem phases_of_perm {a b c : Nat} (perm : [a, b, c].Perm [0, 1, 2]) :
    ∃ p q r : Phase, p ≠ q ∧ p ≠ r ∧ q ≠ r ∧ a = p.code ∧ b = q.code ∧ c = r.code := by
  have phase : ∀ n ∈ [a, b, c], ∃ p : Phase, n = p.code := fun n here => by
    have low := perm.mem_iff.mp here
    simp only [List.mem_cons, List.not_mem_nil, or_false] at low
    rcases low with rfl | rfl | rfl
    exacts [⟨.p1, rfl⟩, ⟨.p2, rfl⟩, ⟨.p3, rfl⟩]
  have distinct : [a, b, c].Nodup := perm.nodup_iff.mpr (by decide)
  obtain ⟨p, rfl⟩ := phase a (by simp)
  obtain ⟨q, rfl⟩ := phase b (by simp)
  obtain ⟨r, rfl⟩ := phase c (by simp)
  simp only [List.nodup_cons, List.mem_cons, List.not_mem_nil, or_false, not_or] at distinct
  obtain ⟨⟨pq, pr⟩, qr, -⟩ := distinct
  exact ⟨p, q, r, fun h => pq (congrArg Phase.code h), fun h => pr (congrArg Phase.code h),
    fun h => qr (congrArg Phase.code h), rfl, rfl, rfl⟩

theorem ordering_of_accepts {v : Nat} (accepted : SettingShape.ordering.accepts v = true) :
    ∃ p q r : Phase, p ≠ q ∧ p ≠ r ∧ q ≠ r ∧ v = p.code + 256 * q.code + 65536 * r.code := by
  obtain ⟨low, perm⟩ := Bool.and_eq_true_iff.mp accepted
  have low := of_decide_eq_true low
  obtain ⟨p, q, r, pq, pr, qr, a, b, c⟩ := phases_of_perm (of_decide_eq_true perm)
  exact ⟨p, q, r, pq, pr, qr, by omega⟩

/-! ## Items refused -/

theorem members_above {n v : Nat} {nonEmpty : Bool} (high : 2 ^ n ≤ v) :
    (SettingShape.members n nonEmpty).accepts v = false := by
  simp only [SettingShape.accepts, decide_eq_false (Nat.not_lt.mpr high), Bool.false_and]

/-- The settings that take one of two codes. -/
theorem shape_of_two {n : Nat} (here : n ∈ [8, 11, 24, 26, 28, 29, 32, 34, 38, 39]) :
    ∃ k, Setting.ofCode n = some k ∧ k.shape = .code 2 := by
  simp only [List.mem_cons, List.not_mem_nil, or_false] at here
  rcases here with rfl | rfl | rfl | rfl | rfl | rfl | rfl | rfl | rfl | rfl
  all_goals exact ⟨_, rfl, rfl⟩

/-- Settles O35: by the setting that the code names, its shape and its class. -/
theorem refusedSetChangesNothing : Obligations.RefusedSetChangesNothing := by
  unfold Obligations.RefusedSetChangesNothing
  intro s tag code value reason refused
  have handled : setItem code value.toNat s = (⟨code, .refused, reason, none⟩, s) := by
    have differ : ∀ {n : Nat} (w : BitVec 32), w.toNat = n → value ≠ w → value.toNat ≠ n := fun w eq ne h =>
      ne (BitVec.eq_of_toNat_eq (h.trans eq.symm))
    have missing : ∀ {values : List Nat}, value.toNat ∉ values → (SettingShape.oneOf values).accepts value.toNat = false :=
      fun absent => Bool.eq_false_iff.mpr fun here => absent (List.contains_iff_mem.mp here)
    have above : ∀ {n : Nat}, n ≤ value.toNat → (SettingShape.code n).accepts value.toNat = false := fun high =>
      decide_eq_false (Nat.not_lt.mpr high)
    have going : s.ia.state ≠ .stopped → SettingClass.stopped.admits s = false := fun h => beq_eq_false_iff_ne.mpr h
    have mounted : s.sr.state ≠ .unmounted → SettingClass.unmounted.admits s = false := fun h => beq_eq_false_iff_ne.mpr h
    rcases refused with ⟨outside, rfl⟩ | ⟨⟨two, high⟩, rfl⟩ | ⟨⟨rfl, not50, not60⟩, rfl⟩ | ⟨⟨rfl, absent⟩, rfl⟩ |
      ⟨⟨rfl, high⟩, rfl⟩ | ⟨⟨rfl, high⟩, rfl⟩ | ⟨⟨rfl, unordered⟩, rfl⟩ | ⟨⟨rfl, absent⟩, rfl⟩ | ⟨⟨rfl, outside⟩, rfl⟩ |
      ⟨⟨rfl, high⟩, rfl⟩ | ⟨⟨rfl, high⟩, rfl⟩ | ⟨⟨rfl, listed, run⟩, rfl⟩ | ⟨⟨codes, run⟩, rfl⟩ | ⟨⟨rfl, low, up⟩, rfl⟩ |
      ⟨⟨codes, up⟩, rfl⟩
    · exact setItem_unknown ((ofCode_eq_none_iff code).mpr outside)
    · obtain ⟨k, known, shape⟩ := shape_of_two two
      exact setItem_invalid known (by rw [shape]; exact above high)
    · exact setItem_invalid (k := .nominalFreq) rfl (missing (by
        simp only [List.mem_cons, List.not_mem_nil, or_false, not_or]
        exact ⟨differ 50 rfl not50, differ 60 rfl not60⟩))
    · exact setItem_invalid (k := .intervalSeconds) rfl (missing absent)
    · refine setItem_invalid (k := .activeProfile) rfl (missing ?_)
      simp only [List.mem_cons, List.not_mem_nil, or_false]
      omega
    · exact setItem_invalid (k := .refManual) rfl (above high)
    · refine setItem_invalid (k := .refPriority) rfl (Bool.eq_false_iff.mpr fun accepted => ?_)
      obtain ⟨p, q, r, pq, pr, qr, eq⟩ := ordering_of_accepts accepted
      exact unordered p q r pq pr qr eq
    · exact setItem_invalid (k := .captureDecim) rfl (missing absent)
    · refine setItem_invalid (k := .captureChannels) rfl ?_
      rcases outside with rfl | high
      · rfl
      · exact members_above (n := 8) high
    · exact setItem_invalid (k := .captureTriggers) rfl (members_above (n := 3) high)
    · exact setItem_invalid (k := .attnEnable) rfl (members_above (n := 21) high)
    · refine setItem_wrongState (k := .nominalFreq) rfl ?_ (going run)
      rcases listed with rfl | rfl <;> rfl
    · simp only [List.mem_cons, List.not_mem_nil, or_false] at codes
      rcases codes with two | three
      · exact setItem_wrongState (k := .windowCycles) (by rw [two]; rfl) rfl (going run)
      · exact setItem_wrongState (k := .declaredCounts) (by rw [three]; rfl) rfl (going run)
    · exact setItem_wrongState (k := .mapMode) rfl (decide_eq_true low) (mounted up)
    · simp only [List.mem_cons, List.not_mem_nil, or_false] at codes
      rcases codes with sectors | log
      · exact setItem_wrongState (k := .storeSectors) (by rw [sectors]; rfl) rfl (mounted up)
      · exact setItem_wrongState (k := .logSectors) (by rw [log]; rfl) rfl (mounted up)
  exact ⟨handled, fun ready => (exec_set_one ready handled).trans rfl⟩

end Sys2Proof.Machine
end

section
/-! SET: the items in list order, and a value that is taken (R192, R193, R100). -/

namespace Sys2Proof.Machine

/-! ## The items in list order -/

/-- The results and the state after an item, appended to those before it. -/
def runItem (a : List ItemResult × State) (i : Byte × BitVec 32) : List ItemResult × State :=
  (a.1 ++ [(setItem i.1 i.2.toNat a.2).1], (setItem i.1 i.2.toNat a.2).2)

theorem foldl_runItem (items : List (Byte × BitVec 32)) (before : List ItemResult) (s : State) :
    items.foldl runItem (before, s) = (before ++ (setItems items s).1, (setItems items s).2) := by
  induction items generalizing before s with
  | nil => simp [setItems]
  | cons i rest ih =>
    rw [List.foldl_cons, runItem, ih]
    simp [setItems]

theorem overallStatus_refused {before after : List ItemResult} {r : ItemResult}
    (first : ∀ x ∈ before, x.status ≠ .refused) (refused : r.status = .refused) :
    overallStatus (before ++ r :: after) = (.refused, r.reason) := by
  have found : (before ++ r :: after).find? (fun r => r.status == .refused) = some r := by
    have none : before.find? (fun r => r.status == .refused) = none := List.find?_eq_none.mpr fun x here h =>
      first x here (beq_iff_eq.mp h)
    rw [List.find?_append, none, Option.none_or, List.find?_cons_of_pos (by simp [refused])]
  rw [overallStatus, found]

theorem overallStatus_taken {rs : List ItemResult} (taken : ∀ x ∈ rs, x.status ≠ .refused) :
    ((∃ x ∈ rs, x.status = .clamped) → overallStatus rs = (.clamped, .none)) ∧
      ((∀ x ∈ rs, x.status ≠ .clamped) → overallStatus rs = (.ok, .none)) := by
  have none : rs.find? (fun r => r.status == .refused) = none := List.find?_eq_none.mpr fun x here h =>
    taken x here (beq_iff_eq.mp h)
  simp only [overallStatus, none]
  refine ⟨fun ⟨x, here, clamped⟩ => if_pos (List.any_eq_true.mpr ⟨x, here, ?_⟩), fun plain => if_neg ?_⟩
  · exact beq_iff_eq.mpr clamped
  intro some
  obtain ⟨x, here, clamped⟩ := List.any_eq_true.mp some
  exact plain x here (beq_iff_eq.mp clamped)

theorem ItemResult.bytes_eq (r : ItemResult) : r.bytes =
    [r.code] ++ leBytes 1 r.status.code ++ leBytes 1 r.reason.code ++ (match r.placed with
      | some v => leBytes 4 v
      | none => [0xFF, 0xFF, 0xFF, 0xFF]) := by
  obtain ⟨code, status, reason, placed⟩ := r
  cases placed with
  | none => rfl
  | some v => rfl

/-! ## An item that is taken -/

/-- What a SET item leads to, alone in its order too: its outcome and the state it leaves. -/
def Sets (s : State) (tag code : Byte) (value : BitVec 32) (clamped : Bool) (placed : Nat) (t : State) : Prop :=
  let status : ReplyStatus := if clamped then .clamped else .ok
  setItem code value.toNat s = (⟨code, status, .none, some placed⟩, t) ∧
    (Ready s → exec (.set tag [(code, value)]) s =
      .next (settle (formReply
        { tag := tag, kind := 1, status := status, reason := .none, cancelled := false,
          body := [code] ++ leBytes 1 status.code ++ [0] ++ leBytes 4 placed } t)))

section
variable {s : State} {tag code : Byte} {value : BitVec 32} {k : Setting} {w : Nat}

/-- An item whose value is acceptable and whose class admits it is placed. -/
theorem sets_of (known : Setting.ofCode code.toNat = some k) (inside : k.shape.accepts value.toNat = true)
    (admitted : k.cls.admits s = true) (clamps : k.clamp s.sl.settings value.toNat = w) :
    Sets s tag code value (w != value.toNat || memoryClamps s.sl.settings k w) (placedValue k w (placeValue k w s))
      (placeValue k w s) := by
  have handled : setItem code value.toNat s =
      (⟨code, if (w != value.toNat || memoryClamps s.sl.settings k w) = true then .clamped else .ok, .none,
        some (placedValue k w (placeValue k w s))⟩, placeValue k w s) := by
    simp only [setItem, known, inside, admitted, clamps, Bool.not_true, Bool.false_eq_true, if_false]
  refine ⟨handled, fun ready => (exec_set_one ready handled).trans ?_⟩
  cases (w != value.toNat || memoryClamps s.sl.settings k w) <;> rfl

/-- The value is in force at once: every class but a BOUNDARY setting outside STOPPED. -/
def InForce (s : State) (k : Setting) : Prop := ¬ (k.cls = .boundary ∧ s.ia.state ≠ .stopped)

theorem placeValue_inForce (now : InForce s k) :
    placeValue k w s = ownerActs s.sl.settings k (s.setSl { s.sl with settings := k.place s.sl.settings w }) := if_neg now

theorem placedValue_inForce {t : State} (now : InForce t k) : placedValue k w t = k.read t.sl.settings := if_neg now

/-- A setting whose block does nothing at once. -/
def Quiet (k : Setting) : Prop :=
  k ∉ [.capturePre, .capturePost, .captureDecim, .captureChannels, .timeSource, .liveRecords, .storeWrap, .mapCache, .modbusOwner]

theorem ownerActs_quiet {old : Settings} {t : State} (quiet : Quiet k) : ownerActs old k t = t := by
  cases k <;> simp_all [Quiet, ownerActs]

/-- A setting other than the four of the capture memory is placed as it is written. -/
theorem place_plain {x : Settings} (plain : k.isCapture = false) : k.place x w = k.write x w := by
  simp only [Setting.place, plain, Bool.false_eq_true, if_false]

theorem bne_eq_decide (a b : Nat) : (a != b) = decide (a ≠ b) := by
  by_cases h : a = b <;> simp [h]

/-- A value in force, with what its block does at once. -/
theorem sets_acts {t : State} (known : Setting.ofCode code.toNat = some k) (inside : k.shape.accepts value.toNat = true)
    (admitted : k.cls.admits s = true) (clamps : k.clamp s.sl.settings value.toNat = w) (now : InForce s k)
    (plain : k.isCapture = false)
    (acts : ownerActs s.sl.settings k (s.setSl { s.sl with settings := k.write s.sl.settings w }) = t) (still : InForce t k)
    (reads : k.read t.sl.settings = w) : Sets s tag code value (decide (w ≠ value.toNat)) w t := by
  have placed : placeValue k w s = t := by rw [placeValue_inForce now, place_plain plain, acts]
  have sets := sets_of (tag := tag) known inside admitted clamps
  rw [placed, placedValue_inForce still, memoryClamps, plain, Bool.false_and, Bool.or_false, reads, bne_eq_decide] at sets
  exact sets

/-- A value in force whose block does nothing at once. -/
theorem sets_places (known : Setting.ofCode code.toNat = some k) (inside : k.shape.accepts value.toNat = true)
    (admitted : k.cls.admits s = true) (clamps : k.clamp s.sl.settings value.toNat = w) (now : InForce s k)
    (plain : k.isCapture = false) (quiet : Quiet k) (reads : k.read (k.write s.sl.settings w) = w) :
    Sets s tag code value (decide (w ≠ value.toNat)) w (s.setSl { s.sl with settings := k.write s.sl.settings w }) :=
  sets_acts known inside admitted clamps now plain (ownerActs_quiet quiet) now reads

/-- A BOUNDARY setting outside STOPPED goes into the pending set (R193). -/
theorem sets_pending (known : Setting.ofCode code.toNat = some k) (inside : k.shape.accepts value.toNat = true)
    (boundary : k.cls = .boundary) (going : s.ia.state ≠ .stopped) (clamps : k.clamp s.sl.settings value.toNat = w)
    (plain : k.isCapture = false) :
    Sets s tag code value (decide (w ≠ value.toNat)) w (s.setSl { s.sl with pending := s.sl.pending.put w k }) := by
  have admitted : k.cls.admits s = true := by rw [boundary]; rfl
  have placed : placeValue k w s = s.setSl { s.sl with pending := s.sl.pending.put w k } := if_pos ⟨boundary, going⟩
  have value_eq : placedValue k w (s.setSl { s.sl with pending := s.sl.pending.put w k }) = w := if_pos ⟨boundary, going⟩
  have sets := sets_of (tag := tag) known inside admitted clamps
  rw [placed, value_eq, memoryClamps, plain, Bool.false_and, Bool.or_false, bne_eq_decide] at sets
  exact sets

end

/-! ## The catalogue's ranges and codes (section 11.5) -/

/-- A number of a range reads as it is written. -/
theorem read_write_range {k : Setting} {lo hi : Nat} (x : Settings) (w : Nat) (shape : k.shape = .range lo hi) :
    k.read (k.write x w) = w := by
  cases k <;> simp_all [Setting.shape, Setting.read, Setting.write]

theorem clamp_range {k : Setting} {lo hi : Nat} (x : Settings) (v : Nat) (shape : k.shape = .range lo hi)
    (free : k ≠ .qualAccept ∧ k ≠ .logSectors) : k.clamp x v = clampTo lo hi v := by
  obtain ⟨noAccept, noLog⟩ := free
  cases k <;> simp_all [Setting.clamp, Setting.shape]

/-- The settings with a range of numbers whose blocks do nothing at once, with their codes and ranges. -/
def rangeTable : List (Byte × Setting × Nat × Nat) :=
  [(12, .trackFloor, 0, 10000), (13, .holdoverLimit, 1, 3600), (15, .qualReject, 0, 127), (16, .qualGoodTimes, 0, 15),
   (17, .qualFailTimes, 0, 15), (18, .armTimeout, 1, 600), (25, .captureHoldoff, 0, 255), (27, .stepLimitMs, 1, 1000),
   (30, .flushAge, 1, 60), (35, .writerBurst, 1, 16), (36, .readerBurst, 1, 16), (37, .urgentLevel, 1, 16),
   (2, .windowCycles, 8, 16), (3, .declaredCounts, 1, 8388606), (6, .attribThreshold, 0, 65535),
   (7, .attribFloor, 1, 8388606), (31, .storeSectors, 5, 65535)]

theorem rangeTable_spec : ∀ e ∈ rangeTable, Setting.ofCode e.1.toNat = some e.2.1 ∧ e.2.1.shape = .range e.2.2.1 e.2.2.2 ∧
    (e.2.1 ≠ .qualAccept ∧ e.2.1 ≠ .logSectors) ∧ e.2.1.isCapture = false ∧
    e.2.1 ∉ [.capturePre, .capturePost, .captureDecim, .captureChannels, .timeSource, .liveRecords, .storeWrap, .mapCache,
      .modbusOwner] := by
  decide

/-- A number clamped into its range and in force. -/
theorem sets_range {s : State} {tag code : Byte} {value : BitVec 32} {k : Setting} {lo hi : Nat}
    (listed : (code, k, lo, hi) ∈ rangeTable) (admitted : k.cls.admits s = true) (now : InForce s k) :
    Sets s tag code value (decide (clampTo lo hi value.toNat ≠ value.toNat)) (clampTo lo hi value.toNat)
      (s.setSl { s.sl with settings := k.write s.sl.settings (clampTo lo hi value.toNat) }) := by
  obtain ⟨known, shape, free, plain, quiet⟩ := rangeTable_spec _ listed
  exact sets_places known (by rw [shape]; rfl) admitted (clamp_range _ _ shape free) now plain quiet
    (read_write_range _ _ shape)

/-- The settings with so many codes whose blocks do nothing at once, with their codes. -/
def codeTable : List (Byte × Setting × Nat) :=
  [(8, .refMode, 2), (9, .refManual, 3), (11, .revertive, 2), (23, .captureTriggers, 8), (24, .captureExtend, 2),
   (39, .hold, 2), (40, .attnEnable, 2097152), (5, .activeProfile, 4), (32, .mapMode, 2)]

theorem codeTable_spec : ∀ e ∈ codeTable, Setting.ofCode e.1.toNat = some e.2.1 ∧ e.2.1.isCapture = false ∧
    e.2.1 ∉ [.capturePre, .capturePost, .captureDecim, .captureChannels, .timeSource, .liveRecords, .storeWrap, .mapCache,
      .modbusOwner] := by
  decide

/-- A code below the number of codes is accepted, kept as it is, and read as it is written. -/
theorem codeTable_value {code : Byte} {k : Setting} {n v : Nat} (listed : (code, k, n) ∈ codeTable) (low : v < n) (x : Settings) :
    k.shape.accepts v = true ∧ k.clamp x v = v ∧ k.read (k.write x v) = v := by
  simp only [codeTable, List.mem_cons, List.not_mem_nil, or_false, Prod.mk.injEq] at listed
  rcases listed with ⟨-, rfl, rfl⟩ | ⟨-, rfl, rfl⟩ | ⟨-, rfl, rfl⟩ | ⟨-, rfl, rfl⟩ | ⟨-, rfl, rfl⟩ | ⟨-, rfl, rfl⟩ |
    ⟨-, rfl, rfl⟩ | ⟨-, rfl, rfl⟩ | ⟨-, rfl, rfl⟩
  case inr.inr.inr.inr.inr.inr.inl =>
    refine ⟨?_, rfl, Nat.mod_eq_of_lt low⟩
    simp only [Setting.shape, SettingShape.accepts, Bool.not_false, Bool.true_or, Bool.and_true]
    exact decide_eq_true low
  all_goals
    interval_cases v
    all_goals exact ⟨rfl, rfl, rfl⟩

theorem sets_code {s : State} {tag code : Byte} {value : BitVec 32} {k : Setting} {n : Nat}
    (listed : (code, k, n) ∈ codeTable) (low : value.toNat < n) (admitted : k.cls.admits s = true) (now : InForce s k) :
    Sets s tag code value (decide (value.toNat ≠ value.toNat)) value.toNat
      (s.setSl { s.sl with settings := k.write s.sl.settings value.toNat }) := by
  obtain ⟨known, plain, quiet⟩ := codeTable_spec _ listed
  obtain ⟨inside, clamps, reads⟩ := codeTable_value listed low s.sl.settings
  exact sets_places known inside admitted clamps now plain quiet reads

end Sys2Proof.Machine
end

section
/-! SET, setting by setting (R100, R115, R139, R143, R148, R177, R190, R192, R193). -/

namespace Sys2Proof.Machine

/-! ## When a class takes a value at once (section 11.5) -/

section
variable {s : State} {k : Setting}

theorem taken_immediate (cls : k.cls = .immediate) : k.cls.admits s = true ∧ ∀ t : State, InForce t k := by
  rw [cls]
  exact ⟨rfl, fun t late => by rw [cls] at late; exact absurd late.1 nofun⟩

theorem taken_stopped (cls : k.cls = .stopped ∨ k.cls = .boundary) (stopped : s.ia.state = .stopped) :
    k.cls.admits s = true ∧ InForce s k := by
  refine ⟨?_, fun late => late.2 stopped⟩
  rcases cls with cls | cls
  · rw [cls]; exact beq_iff_eq.mpr stopped
  · rw [cls]; rfl

theorem taken_unmounted (cls : k.cls = .unmounted) (unmounted : s.sr.state = .unmounted) :
    k.cls.admits s = true ∧ InForce s k := by
  refine ⟨by rw [cls]; exact beq_iff_eq.mpr unmounted, fun late => ?_⟩
  rw [cls] at late
  exact absurd late.1 nofun

end

/-! ## Settings with a value of their own -/

/-- An ordering of the phases is accepted, and reads as it is written (section 12.4). -/
theorem ordering_value : ∀ p ∈ allPhases, ∀ q ∈ allPhases, ∀ r ∈ allPhases, p ≠ q → p ≠ r → q ≠ r →
    SettingShape.ordering.accepts (p.code + 256 * q.code + 65536 * r.code) = true ∧
      phasesOf (p.code + 256 * q.code + 65536 * r.code) = [p, q, r] ∧
      leNat ([p, q, r].map fun p => byteOf p.code) = p.code + 256 * q.code + 65536 * r.code := by
  decide

theorem mem_allPhases (p : Phase) : p ∈ allPhases := by
  cases p <;> decide

section
variable {s : State} {tag code : Byte} {value : BitVec 32}

theorem sets_refPriority {p q r : Phase} (pq : p ≠ q) (pr : p ≠ r) (qr : q ≠ r)
    (eq : value.toNat = p.code + 256 * q.code + 65536 * r.code) :
    Sets s tag 10 value (decide (value.toNat ≠ value.toNat)) value.toNat
      (s.setSl { s.sl with settings := { s.sl.settings with refPriority := [p, q, r] } }) := by
  obtain ⟨accepted, phases, reads⟩ :=
    ordering_value p (mem_allPhases p) q (mem_allPhases q) r (mem_allPhases r) pq pr qr
  rw [← eq] at accepted phases reads
  have written : Setting.write s.sl.settings value.toNat .refPriority = { s.sl.settings with refPriority := [p, q, r] } := by
    rw [← phases]
    rfl
  obtain ⟨admitted, now⟩ := taken_immediate (s := s) (k := .refPriority) rfl
  rw [← written]
  exact sets_places (k := .refPriority) rfl accepted admitted rfl (now s) rfl (by simp [Quiet])
    (by rw [written]; exact reads)

/-- A capture setting: the memory rule follows, and the ring is emptied when its format changes (R100). -/
theorem sets_capture {k : Setting} {w : Nat} (known : Setting.ofCode code.toNat = some k)
    (inside : k.shape.accepts value.toNat = true) (clamps : k.clamp s.sl.settings value.toNat = w)
    (capture : k.isCapture = true) :
    let y := k.write s.sl.settings w
    let z := memoryRule y
    let kept := z.capturePre = s.sl.settings.capturePre ∧ z.captureDecim = s.sl.settings.captureDecim ∧
      z.captureChannels = s.sl.settings.captureChannels
    Sets s tag code value (decide (w ≠ value.toNat ∨ z ≠ y)) (k.read z)
      ((s.setSl { s.sl with settings := z }).setCu { s.cu with ring := if kept then s.cu.ring else [] }) := by
  intro y z kept
  have cls : k.cls = .immediate := by
    cases k <;> simp_all [Setting.isCapture, Setting.cls]
  obtain ⟨admitted, now⟩ := taken_immediate (s := s) cls
  have acts : ownerActs s.sl.settings k (s.setSl { s.sl with settings := z }) =
      (s.setSl { s.sl with settings := z }).setCu { s.cu with ring := if kept then s.cu.ring else [] } := by
    have ring : (if z.capturePre ≠ s.sl.settings.capturePre ∨ z.captureDecim ≠ s.sl.settings.captureDecim ∨
          z.captureChannels ≠ s.sl.settings.captureChannels then emptyRing (s.setSl { s.sl with settings := z })
        else s.setSl { s.sl with settings := z }) =
        (s.setSl { s.sl with settings := z }).setCu { s.cu with ring := if kept then s.cu.ring else [] } := by
      by_cases same : kept
      · obtain ⟨pre, decim, channels⟩ := id same
        rw [if_pos same, if_neg (by simp [pre, decim, channels])]
        rfl
      · rw [if_neg same, if_pos (by simp only [kept] at same; tauto)]
        rfl
    cases k with
    | capturePre | capturePost | captureDecim | captureChannels => exact ring
    | _ => simp [Setting.isCapture] at capture
  have placed : placeValue k w s =
      (s.setSl { s.sl with settings := z }).setCu { s.cu with ring := if kept then s.cu.ring else [] } := by
    rw [placeValue_inForce (now s), Setting.place, if_pos capture]
    exact acts
  have flag : (w != value.toNat || memoryClamps s.sl.settings k w) = decide (w ≠ value.toNat ∨ z ≠ y) := by
    rw [memoryClamps, capture, Bool.true_and, bne_eq_decide, Bool.decide_or]
    congr 1
    by_cases same : z = y
    · have same' : memoryRule (k.write s.sl.settings w) = k.write s.sl.settings w := same
      simp [same, same']
    · have other : memoryRule (k.write s.sl.settings w) ≠ k.write s.sl.settings w := same
      simp [same, other]
  have sets := sets_of (tag := tag) known inside admitted clamps
  rw [flag, placed, placedValue_inForce (now _)] at sets
  exact sets

end

end Sys2Proof.Machine
end

section
/-! SET: the blocks that act at once, and the whole of O34. -/

namespace Sys2Proof.Machine

theorem decide_ne_self (n : Nat) : decide (n ≠ n) = false := by simp

section
variable {s : State} {tag code : Byte} {value : BitVec 32}

/-- What LIVE_RECORDS set to off leaves: no live emission, and only the entries still to be stored (R139, R190). -/
theorem sets_liveOff (zero : value.toNat = 0) :
    ∃ t, Sets s tag 28 value false 0 t ∧
      t.sl = { s.sl with settings := { s.sl.settings with liveRecords := false }, live := none } ∧
      t.rq.entries = (s.rq.entries.filter fun e => !e.stored).map fun e => { e with emitted := true } := by
  obtain ⟨admitted, now⟩ := taken_immediate (s := s) (k := .liveRecords) rfl
  let force := s.setSl { s.sl with settings := { s.sl.settings with liveRecords := false } }
  have acts : ownerActs s.sl.settings .liveRecords (s.setSl { s.sl with
      settings := Setting.write s.sl.settings 0 .liveRecords }) = liveOff force := rfl
  have sl : (liveOff force).sl = { s.sl with settings := { s.sl.settings with liveRecords := false }, live := none } :=
    sl_sweep _
  have sets := sets_acts (tag := tag) (value := value) (code := 28) (k := .liveRecords) (w := 0) rfl (by rw [zero]; rfl) admitted
    zero (now s) rfl acts (now _) (by rw [sl]; rfl)
  rw [zero, decide_ne_self] at sets
  refine ⟨_, sets, sl, (congrArg RQ.entries (rq_sweep _)).trans ?_⟩
  show (s.rq.entries.map _).filter _ = _
  rw [List.filter_map]
  congr 1
  refine List.filter_congr fun e _ => ?_
  simp [Entry.leaves]

/-- STORE_WRAP set to OVERWRITE clears the stop mark, and a MOUNTED store's tail moves on (R148). -/
theorem sets_overwrite {h : PagePos} (zero : value.toNat = 0) (stop : s.sw.stopMark.isSome = true)
    (mounted : s.sr.state = .mounted) (head : s.sw.head = some h) :
    ∃ t, Sets s tag 29 value false 0 t ∧ t.sl = { s.sl with settings := { s.sl.settings with storeWrap := .overwrite } } ∧
      t.sw = { s.sw with
        stopMark := none, tail := some (nextSector s h.sector), tasks := [.seekTail, .readTail, .erase] } := by
  obtain ⟨admitted, now⟩ := taken_immediate (s := s) (k := .storeWrap) rfl
  let force := s.setSl { s.sl with settings := { s.sl.settings with storeWrap := .overwrite } }
  obtain ⟨x, moved⟩ := overwriteTail_eq (s := force.setSw { s.sw with stopMark := none }) (h := h) head
  have cleared : clearStop force = overwriteTail (force.setSw { s.sw with stopMark := none }) := by
    have marked : force.sw.stopMark.isSome = true := stop
    have stands : (force.setSw { s.sw with stopMark := none }).sr.state = .mounted := mounted
    rw [clearStop, if_pos marked]
    exact if_pos stands
  have acts : ownerActs s.sl.settings .storeWrap (s.setSl { s.sl with
      settings := Setting.write s.sl.settings 0 .storeWrap }) = _ := cleared.trans moved
  have sets := sets_acts (tag := tag) (value := value) (code := 29) (k := .storeWrap) (w := 0) rfl (by rw [zero]; rfl) admitted
    zero (now s) rfl acts (now _) rfl
  rw [zero, decide_ne_self] at sets
  exact ⟨_, sets, rfl, rfl⟩

theorem sets_storeWrap_unmarked (zero : value.toNat = 0) (unmarked : s.sw.stopMark = none) :
    Sets s tag 29 value (decide (0 ≠ value.toNat)) 0
      (s.setSl { s.sl with settings := { s.sl.settings with storeWrap := .overwrite } }) := by
  obtain ⟨admitted, now⟩ := taken_immediate (s := s) (k := .storeWrap) rfl
  let force := s.setSl { s.sl with settings := { s.sl.settings with storeWrap := .overwrite } }
  have acts : ownerActs s.sl.settings .storeWrap (s.setSl { s.sl with
      settings := Setting.write s.sl.settings 0 .storeWrap }) = force := by
    have still : clearStop force = force := by
      have unmarked' : force.sw.stopMark = none := unmarked
      rw [clearStop, unmarked', Option.isSome_none, if_neg Bool.false_ne_true]
    exact still
  exact sets_acts (k := .storeWrap) rfl (by rw [zero]; rfl) admitted zero (now s) rfl acts (now _) rfl

theorem sets_one {k : Setting} (known : Setting.ofCode code.toNat = some k) (shape : k.shape = .code 2)
    (cls : k.cls = .immediate) (plain : k.isCapture = false) (one : value.toNat = 1)
    (acts : ownerActs s.sl.settings k (s.setSl { s.sl with settings := k.write s.sl.settings 1 }) =
      s.setSl { s.sl with settings := k.write s.sl.settings 1 })
    (reads : k.read (k.write s.sl.settings 1) = 1) :
    Sets s tag code value (decide (1 ≠ value.toNat)) 1 (s.setSl { s.sl with settings := k.write s.sl.settings 1 }) := by
  obtain ⟨admitted, now⟩ := taken_immediate (s := s) cls
  have clamps : k.clamp s.sl.settings value.toNat = 1 := by
    rw [one]
    cases k <;> simp_all [Setting.shape, Setting.clamp]
  exact sets_acts known (by rw [shape, one]; rfl) admitted clamps (now s) plain acts (now _) reads

/-- TIME_SOURCE set to FREE drops the slew remainder (R115). -/
theorem sets_timeSource (low : value.toNat < 2) :
    let y : Settings := { s.sl.settings with timeSource := if value.toNat = 0 then .marked else .free }
    Sets s tag 26 value false value.toNat ((s.setSl { s.sl with settings := y }).setTb
      { s.tb with slew := if s.sl.settings.timeSource = .marked ∧ value.toNat = 1 then 0 else s.tb.slew }) := by
  intro y
  obtain ⟨admitted, now⟩ := taken_immediate (s := s) (k := .timeSource) rfl
  have two : value.toNat = 0 ∨ value.toNat = 1 := by omega
  have acts : ownerActs s.sl.settings .timeSource (s.setSl { s.sl with
      settings := Setting.write s.sl.settings value.toNat .timeSource }) = (s.setSl { s.sl with settings := y }).setTb
        { s.tb with slew := if s.sl.settings.timeSource = .marked ∧ value.toNat = 1 then 0 else s.tb.slew } := by
    show sourceSet s.sl.settings.timeSource (s.setSl { s.sl with settings := y }) = _
    have free : (s.setSl { s.sl with settings := y }).sl.settings.timeSource = .free ↔ value.toNat = 1 := by
      show (if value.toNat = 0 then TimeSource.marked else .free) = .free ↔ _
      rcases two with v | v <;> simp [v]
    unfold sourceSet
    by_cases drops : s.sl.settings.timeSource = .marked ∧ value.toNat = 1
    · rw [if_pos (And.intro drops.1 (free.mpr drops.2)), if_pos drops]
      rfl
    · rw [if_neg (fun late => drops (And.intro late.1 (free.mp late.2))), if_neg drops]
      rfl
  have reads : Setting.read (s.setSl { s.sl with settings := y }).sl.settings .timeSource = value.toNat := by
    show (if value.toNat = 0 then TimeSource.marked else .free).code = _
    rcases two with v | v <;> rw [v] <;> rfl
  have sets := sets_acts (tag := tag) (value := value) (code := 26) (k := .timeSource) (w := value.toNat) rfl (decide_eq_true low) admitted
    rfl
    (now s) rfl acts (now _) reads
  rw [decide_ne_self] at sets
  exact sets

/-- A change of MAP_CACHE empties the cache (R143). -/
theorem sets_mapCache (low : value.toNat < 2) :
    Sets s tag 34 value false value.toNat
      ((s.setSl { s.sl with settings := { s.sl.settings with mapCache := value.toNat == 1 } }).setCache
        (if s.sl.settings.mapCache = (value.toNat == 1) then s.cache else [])) := by
  obtain ⟨admitted, now⟩ := taken_immediate (s := s) (k := .mapCache) rfl
  have acts : ownerActs s.sl.settings .mapCache (s.setSl { s.sl with
      settings := Setting.write s.sl.settings value.toNat .mapCache }) =
      (s.setSl { s.sl with settings := { s.sl.settings with mapCache := value.toNat == 1 } }).setCache
        (if s.sl.settings.mapCache = (value.toNat == 1) then s.cache else []) := by
    show (if (value.toNat == 1) ≠ s.sl.settings.mapCache then
        (s.setSl { s.sl with settings := { s.sl.settings with mapCache := value.toNat == 1 } }).setCache []
      else s.setSl { s.sl with settings := { s.sl.settings with mapCache := value.toNat == 1 } }) = _
    by_cases same : s.sl.settings.mapCache = (value.toNat == 1)
    · rw [if_neg (not_not_intro same.symm), if_pos same]
      rfl
    · rw [if_pos (Ne.symm same), if_neg same]
  have reads : Setting.read { s.sl.settings with mapCache := value.toNat == 1 } .mapCache = value.toNat := by
    show (if (value.toNat == 1) = true then 1 else 0) = _
    have two : value.toNat = 0 ∨ value.toNat = 1 := by omega
    rcases two with v | v <;> rw [v] <;> rfl
  have sets := sets_acts (tag := tag) (value := value) (code := 34) (k := .mapCache) (w := value.toNat) rfl (decide_eq_true low) admitted
    rfl
    (now s) rfl acts (now _) reads
  rw [decide_ne_self] at sets
  exact sets

/-- MODBUS_OWNER takes effect at once while no transaction is in flight (R177). -/
theorem sets_modbusOwner (low : value.toNat < 2) :
    let owner : BusOwner := if value.toNat = 0 then .auto else .station
    Sets s tag 38 value false value.toNat
      ((s.setSl { s.sl with settings := { s.sl.settings with modbusOwner := owner } }).setMb
        { s.mb with owner := if s.mb.transaction.isSome then s.mb.owner else owner }) := by
  intro owner
  obtain ⟨admitted, now⟩ := taken_immediate (s := s) (k := .modbusOwner) rfl
  have acts : ownerActs s.sl.settings .modbusOwner (s.setSl { s.sl with
      settings := Setting.write s.sl.settings value.toNat .modbusOwner }) =
      (s.setSl { s.sl with settings := { s.sl.settings with modbusOwner := owner } }).setMb
        { s.mb with owner := if s.mb.transaction.isSome then s.mb.owner else owner } := by
    show ownerSet (s.setSl { s.sl with settings := { s.sl.settings with modbusOwner := owner } }) = _
    unfold ownerSet
    cases flight : s.mb.transaction.isSome with
    | true => exact if_pos flight
    | false => exact if_neg (by rw [State.setSl_mb, flight]; exact Bool.false_ne_true)
  have reads : Setting.read { s.sl.settings with modbusOwner := owner } .modbusOwner = value.toNat := by
    show (if value.toNat = 0 then BusOwner.auto else .station).code = _
    have two : value.toNat = 0 ∨ value.toNat = 1 := by omega
    rcases two with v | v <;> rw [v] <;> rfl
  have sets := sets_acts (tag := tag) (value := value) (code := 38) (k := .modbusOwner) (w := value.toNat) rfl (decide_eq_true low) admitted
    rfl
    (now s) rfl acts (now _) reads
  rw [decide_ne_self] at sets
  exact sets

end

/-! ## The whole order -/

theorem exec_set {tag : Byte} {items : List (Byte × BitVec 32)} {s : State} {rs : List ItemResult} {t : State}
    {status : ReplyStatus} {reason : Reason} (ready : Ready s) (low : 1 ≤ items.length) (high : items.length ≤ 16)
    (run : items.foldl runItem ([], s) = (rs, t)) (overall : overallStatus rs = (status, reason)) :
    exec (.set tag items) s = .next (settle (formReply
      { tag := tag, kind := 1, status := status, reason := reason, cancelled := false
        body := rs.flatMap fun r =>
          [r.code] ++ leBytes 1 r.status.code ++ leBytes 1 r.reason.code ++
            (match r.placed with
              | some v => leBytes 4 v
              | none => [0xFF, 0xFF, 0xFF, 0xFF]) } t)) := by
  have runs : exec (.set tag items) s = .next (settle (orderSet tag items s)) :=
    exec_carryOut ready rfl (readOrder_set tag low high) rfl
  have items_eq : setItems items s = (rs, t) := by
    rw [foldl_runItem, List.nil_append] at run
    exact run
  have bodies : ItemResult.bytes = _ := funext ItemResult.bytes_eq
  rw [runs, orderSet, items_eq]
  simp only [overall, bodies] <;> rfl

/-- The ranges of O34's first clause with their classes. -/
theorem rangeTable_classes {code : Byte} {k : Setting} {lo hi : Nat} {s : State}
    (listed : (code, k, lo, hi) ∈ rangeTable.take 12 ∨
      s.ia.state = .stopped ∧ (code, k, lo, hi) ∈ (rangeTable.drop 12).take 4 ∨
      s.sr.state = .unmounted ∧ (code, k, lo, hi) = (31, .storeSectors, 5, 65535)) :
    (code, k, lo, hi) ∈ rangeTable ∧ k.cls.admits s = true ∧ InForce s k := by
  rcases listed with here | ⟨stopped, here⟩ | ⟨unmounted, here⟩
  · have classes : ∀ e ∈ rangeTable.take 12, e.2.1.cls = .immediate := by decide
    obtain ⟨admitted, now⟩ := taken_immediate (s := s) (classes _ here)
    exact ⟨List.mem_of_mem_take here, admitted, now s⟩
  · have classes : ∀ e ∈ (rangeTable.drop 12).take 4, e.2.1.cls = .stopped ∨ e.2.1.cls = .boundary := by decide
    exact ⟨List.mem_of_mem_drop (List.mem_of_mem_take here), taken_stopped (classes _ here) stopped⟩
  · obtain ⟨rfl, rfl, rfl, rfl⟩ := here
    exact ⟨by decide, taken_unmounted rfl unmounted⟩

/-- The codes of O34's second clause with their classes. -/
theorem codeTable_classes {code : Byte} {k : Setting} {n : Nat} {s : State}
    (listed : (code, k, n) ∈ codeTable.take 7 ∨ s.ia.state = .stopped ∧ (code, k, n) = (5, .activeProfile, 4) ∨
      s.sr.state = .unmounted ∧ (code, k, n) = (32, .mapMode, 2)) :
    (code, k, n) ∈ codeTable ∧ k.cls.admits s = true ∧ InForce s k := by
  rcases listed with here | ⟨stopped, here⟩ | ⟨unmounted, here⟩
  · have classes : ∀ e ∈ codeTable.take 7, e.2.1.cls = .immediate := by decide
    obtain ⟨admitted, now⟩ := taken_immediate (s := s) (classes _ here)
    exact ⟨List.mem_of_mem_take here, admitted, now s⟩
  · obtain ⟨rfl, rfl, rfl⟩ := here
    exact ⟨by decide, taken_stopped (.inr rfl) stopped⟩
  · obtain ⟨rfl, rfl, rfl⟩ := here
    exact ⟨by decide, taken_unmounted rfl unmounted⟩

/-- Settles O34: the list by its first refused item, a value by its setting's table, its class and its block. -/
theorem setPlacesValues : Obligations.SetPlacesValues := by
  unfold Obligations.SetPlacesValues
  refine ⟨fun s tag items ready low high => ?_, fun s tag code value k => ?_⟩
  · intro run answers
    refine ⟨fun before r after split first refused => ?_, fun taken => ⟨fun some => ?_, fun plain => ?_⟩⟩
    · refine exec_set ready low high rfl ?_
      show overallStatus run.1 = _
      rw [split]
      exact overallStatus_refused first refused
    · exact exec_set ready low high rfl ((overallStatus_taken taken).1 some)
    · exact exec_set ready low high rfl ((overallStatus_taken taken).2 plain)
  · intro x v stopped unmounted sets into force places
    have pending : ∀ {c : Byte} {k : Setting} {w : Nat} {p : PendingSet}, code = c → Setting.ofCode c.toNat = some k →
        k.cls = .boundary → k.isCapture = false → ¬ stopped → k.shape.accepts v = true → k.clamp x v = w →
        s.sl.pending.put w k = p →
        sets (decide (w ≠ v)) w (s.setSl { s.sl with pending := p }) := by
      rintro c k w p rfl known boundary plain going inside clamps rfl
      exact sets_pending known inside boundary going clamps plain
    have takes : ∀ {c : Byte} {k : Setting} {w : Nat}, code = c → Setting.ofCode c.toNat = some k →
        k.shape.accepts v = true → k.cls.admits s = true ∧ InForce s k → k.clamp x v = w → k.isCapture = false → Quiet k →
        k.read (k.write x w) = w → places w (k.write x w) := by
      rintro c k w rfl known inside ⟨admitted, now⟩ clamps plain quiet reads
      exact sets_places known inside admitted clamps now plain quiet reads
    have unchanged : ∀ {t : State}, sets (decide (v ≠ v)) v t → sets false v t := fun h => by
      rw [decide_ne_self] at h
      exact h
    refine ⟨fun lo hi listed => ?_, fun n listed low => ?_, fun one run fifty => ?_, fun p q r ten pq pr qr eq => ?_,
      fun accept => ?_, fun log up => ?_, fun interval listed => ⟨fun run => ?_, fun going => ?_⟩,
      fun going => ⟨fun profile low => ?_, fun threshold => ?_, fun floor => ?_⟩, fun w listed decim channels => ?_,
      fun source low => ?_, fun live on => ?_, fun live off => ?_, fun wrap halt => ?_, fun wrap zero unmarked => ?_,
      fun h wrap zero stop mounted head => ?_, fun cache low => ?_, fun owner low => ?_⟩
    · obtain ⟨here, admitted, now⟩ := rangeTable_classes listed
      exact sets_range here admitted now
    · obtain ⟨here, admitted, now⟩ := codeTable_classes listed
      exact sets_code here low admitted now
    · refine takes (k := .nominalFreq) one rfl ?_ (taken_stopped (.inl rfl) run) rfl rfl (by simp [Quiet]) rfl
      rcases fifty with eq | eq <;> rw [eq] <;> rfl
    · obtain rfl := ten
      exact sets_refPriority pq pr qr eq
    · obtain ⟨admitted, now⟩ := taken_immediate (s := s) (k := .qualAccept) rfl
      exact takes (k := .qualAccept) accept rfl rfl ⟨admitted, now s⟩ rfl rfl (by simp [Quiet]) rfl
    · exact takes (k := .logSectors) log rfl rfl (taken_unmounted rfl up) rfl rfl (by simp [Quiet]) rfl
    · exact takes (k := .intervalSeconds) interval rfl (List.contains_iff_mem.mpr listed) (taken_stopped (.inr rfl) run) rfl
        rfl (by simp [Quiet]) rfl
    · exact unchanged (pending (k := .intervalSeconds) interval rfl rfl rfl going (List.contains_iff_mem.mpr listed) rfl rfl)
    · have inside := (codeTable_value (code := 5) (k := .activeProfile) (by decide) low x).1
      exact unchanged (pending (k := .activeProfile) profile rfl rfl rfl going inside rfl rfl)
    · exact pending (k := .attribThreshold) threshold rfl rfl rfl going rfl rfl rfl
    · exact pending (k := .attribFloor) floor rfl rfl rfl going rfl rfl rfl
    · simp only [List.mem_cons, List.not_mem_nil, or_false, Prod.mk.injEq] at listed
      rcases listed with ⟨rfl, rfl, rfl⟩ | ⟨rfl, rfl, rfl⟩ | ⟨rfl, rfl, rfl⟩ | ⟨rfl, rfl, rfl⟩
      · exact sets_capture (k := .capturePre) rfl rfl rfl rfl
      · exact sets_capture (k := .capturePost) rfl rfl rfl rfl
      · exact sets_capture (k := .captureDecim) rfl (List.contains_iff_mem.mpr (decim rfl)) rfl rfl
      · obtain ⟨low, high⟩ := channels rfl
        refine sets_capture (k := .captureChannels) rfl ?_ rfl rfl
        exact Bool.and_eq_true_iff.mpr ⟨decide_eq_true (Nat.lt_succ_of_le high), bne_iff_ne.mpr (Nat.ne_of_gt low)⟩
    · obtain rfl := source
      exact sets_timeSource low
    · obtain rfl := live
      exact sets_one (k := .liveRecords) rfl rfl rfl rfl on rfl rfl
    · obtain rfl := live
      exact sets_liveOff off
    · obtain rfl := wrap
      exact sets_one (k := .storeWrap) rfl rfl rfl rfl halt rfl rfl
    · obtain rfl := wrap
      exact sets_storeWrap_unmarked zero unmarked
    · obtain rfl := wrap
      exact sets_overwrite zero stop mounted head
    · obtain rfl := cache
      exact sets_mapCache low
    · obtain rfl := owner
      exact sets_modbusOwner low

end Sys2Proof.Machine
end

section
/-! Unknown and malformed orders (R187, R194, R199). -/

namespace Sys2Proof.Machine

/-! ## Pieces of a counted list -/

section
variable {w most n : Nat} {bs : List Byte} {l : List (List Byte)}

theorem pieces_some (cut : pieces w n bs = some l) :
    bs.length = w * n ∧ ∀ i < n, l[i]? = some ((bs.drop (w * i)).take w) := by
  induction n generalizing bs l with
  | zero =>
    simp only [pieces] at cut
    split at cut
    · next empty => exact ⟨by rw [empty]; rfl, fun i low => absurd low (Nat.not_lt_zero i)⟩
    · cases cut
  | succ n ih =>
    simp only [pieces] at cut
    split at cut
    · cases cut
    · next long =>
      obtain ⟨rest, tail, rfl⟩ := Option.map_eq_some_iff.mp cut
      obtain ⟨length, entries⟩ := ih tail
      rw [List.length_drop] at length
      refine ⟨by rw [Nat.mul_succ]; omega, fun i low => ?_⟩
      cases i with
      | zero => rfl
      | succ i =>
        rw [List.getElem?_cons_succ, entries i (by omega), List.drop_drop]
        congr 3
        ring

theorem countedPieces_some (cut : countedPieces w most bs = some l) :
    ∃ m rest, bs = m :: rest ∧ 1 ≤ m.toNat ∧ m.toNat ≤ most ∧ pieces w m.toNat rest = some l := by
  unfold countedPieces at cut
  split at cut
  · cases cut
  · next m rest =>
    split at cut
    · next within => exact ⟨m, rest, rfl, within.1, within.2, cut⟩
    · cases cut

/-- A count outside its range, or a list that is not as long as its count says, spells nothing. -/
theorem countedPieces_none (bad : (bs.headD 0).toNat < 1 ∨ most < (bs.headD 0).toNat ∨ bs.length ≠ 1 + w * (bs.headD 0).toNat) :
    countedPieces w most bs = none := by
  refine Option.eq_none_iff_forall_ne_some.mpr fun l cut => ?_
  obtain ⟨m, rest, rfl, low, high, cut⟩ := countedPieces_some cut
  obtain ⟨length, -⟩ := pieces_some cut
  simp only [List.headD_cons, List.length_cons] at bad
  omega

/-- The entries of a counted list that one of them spoils. -/
theorem allSome_none {α : Type} {l : List (Option α)} (bad : none ∈ l) : allSome l = none := by
  induction l with
  | nil => cases bad
  | cons a t ih =>
    cases a with
    | none => rfl
    | some a =>
      have tail : none ∈ t := by simpa using bad
      simp [allSome, ih tail]

/-- An entry of a counted list that does not read spoils the list. -/
theorem countedPieces_spoilt {α : Type} {read : List Byte → Option α} {i : Nat} (inside : w * i + 1 < bs.length)
    (bad : read ((bs.drop (1 + w * i)).take w) = none) :
    (countedPieces w most bs).bind (fun l => allSome (l.map read)) = none := by
  cases cut : countedPieces w most bs with
  | none => rfl
  | some l =>
    obtain ⟨m, rest, rfl, low, high, cut⟩ := countedPieces_some cut
    obtain ⟨length, entries⟩ := pieces_some cut
    have within : i < m.toNat := by
      rw [List.length_cons] at inside
      by_contra beyond
      have := Nat.mul_le_mul_left w (Nat.not_lt.mp beyond)
      omega
    have entry := List.mem_of_getElem? (entries i within)
    refine allSome_none (List.mem_map.mpr ⟨_, entry, ?_⟩)
    rw [Nat.add_comm, List.drop_succ_cons] at bad
    exact bad

end

/-! ## Refusals (R187, R194) -/

section
variable {s : State} {tag kind : Byte} {args : List Byte} {r : Reason}

/-- An order of any kind and arguments is dispatched at its arrival at a ready part. -/
theorem submitOrder_ready (ready : Ready s) : submitOrder ⟨tag, kind, args, true⟩ s = dispatch ⟨tag, kind, args, true⟩ s :=
  submit_ready (i := .orderUnknownKind tag kind args) ready rfl

theorem dispatch_refused (read : readOrder ⟨tag, kind, args, true⟩ = .inl r) :
    dispatch ⟨tag, kind, args, true⟩ s =
      formReply { plainReply tag kind .refused r with body := earlyBody kind.toNat } s := by
  simp only [dispatch, read, refuse, byteOf_toNat]
  rfl

/-- An order frame whose order is refused changes nothing but the reply queue. -/
theorem exec_orderArrival_refused (ready : Ready s) (fits : args.length ≤ 1022) (up : s.sl.linkUp = true)
    (read : readOrder ⟨tag, kind, args, true⟩ = .inl r) :
    exec (.orderArrival (inboundFrame 1 (tag :: kind :: args))) s =
      .next (settle (formReply { plainReply tag kind .refused r with body := earlyBody kind.toNat } s)) := by
  have arrives : exec (.orderArrival (inboundFrame 1 (tag :: kind :: args))) s =
      .next (settle (orderFrame (inboundFrame 1 (tag :: kind :: args)) s)) := rfl
  rw [arrives, orderFrame_inboundFrame (o := ⟨tag, kind, args, true⟩) fits up rfl, submitOrder_ready ready,
    dispatch_refused read]

/-- Arguments that spell no order of a known kind. -/
theorem readOrder_malformed (known : 1 ≤ kind.toNat ∧ kind.toNat ≤ 21) (notLoad : kind ≠ 3) (notRead : kind ≠ 4)
    (bad : readArgs tag kind args = none) : readOrder ⟨tag, kind, args, true⟩ = .inl .invalid := by
  have within : ¬ (kind.toNat = 0 ∨ 21 < kind.toNat) := by omega
  simp only [readOrder, Bool.true_eq_false, if_false, if_neg within, if_neg notLoad, if_neg notRead, bad]

/-- A table of the four whose entries spell nothing. -/
theorem readOrder_badTable (low : (args.headD 0).toNat ≤ 3)
    (bad : ∀ table rest, args = table :: rest → readLoadTable tag table rest = none) :
    readOrder ⟨tag, 3, args, true⟩ = .inl .invalid := by
  cases args with
  | nil => rfl
  | cons table rest =>
    have name : ¬ 3 < table.toNat := Nat.not_lt.mpr low
    simp only [readOrder, bad table rest rfl, name]
    simp

theorem eq_byteOf {b : Byte} {n : Nat} (h : b.toNat = n) : b = byteOf n := by rw [← h, byteOf_toNat]

/-- An order of a kind without arguments that has some. -/
theorem readArgs_noArgs (plain : kind.toNat ∈ [5, 6, 7, 8, 10, 11, 12, 14, 21]) (some : args ≠ []) :
    (1 ≤ kind.toNat ∧ kind.toNat ≤ 21) ∧ kind ≠ 3 ∧ kind ≠ 4 ∧ kind ≠ 13 ∧ readArgs tag kind args = none := by
  have none : ∀ i, noArgs i args = none := fun i => if_neg some
  simp only [List.mem_cons, List.not_mem_nil, or_false] at plain
  rcases plain with h | h | h | h | h | h | h | h | h
  all_goals
    obtain rfl := eq_byteOf h
    exact ⟨by decide, by decide, by decide, by decide, none _⟩

/-- An order of a kind whose arguments have one length, with another. -/
theorem readArgs_fixed {n : Nat} (fixed : (kind.toNat, n) ∈ [(17, 1), (20, 1), (18, 3), (9, 4), (15, 4), (16, 6)])
    (other : args.length ≠ n) :
    (1 ≤ kind.toNat ∧ kind.toNat ≤ 21) ∧ kind ≠ 3 ∧ kind ≠ 4 ∧ kind ≠ 13 ∧ readArgs tag kind args = none := by
  have none : ∀ i, fixedArgs n i args = none := fun i => if_neg other
  simp only [List.mem_cons, List.not_mem_nil, or_false, Prod.mk.injEq] at fixed
  rcases fixed with ⟨h, rfl⟩ | ⟨h, rfl⟩ | ⟨h, rfl⟩ | ⟨h, rfl⟩ | ⟨h, rfl⟩ | ⟨h, rfl⟩
  all_goals
    obtain rfl := eq_byteOf h
    exact ⟨by decide, by decide, by decide, by decide, none _⟩

/-- GRID lists with a code outside the three, or without the bytes of one list. -/
theorem readGridArgs_none {n : Nat} {bs : List Byte} (some : 1 ≤ n) (bad : 2 < (bs.headD 0).toNat ∨ bs.length < 2) :
    readGridArgs n bs = none := by
  obtain ⟨m, rfl⟩ := Nat.exists_eq_add_of_le' some
  match bs, bad with
  | [], _ => rfl
  | [_], _ => rfl
  | list :: count :: rest, bad =>
    have code : ¬ list.toNat ≤ 2 := by
      simp only [List.headD_cons, List.length_cons] at bad
      omega
    rw [readGridArgs]
    exact if_neg fun h => code h.1

end

/-! ## The tables and the lists -/

section
variable {tag : Byte} {args : List Byte}

/-- The byte at a place is the head of what stands from there on. -/
theorem byteAt_take {w i j : Nat} {bs : List Byte} (within : j < w) : byteAt ((bs.drop i).take w) j = byteAt bs (i + j) := by
  simp only [byteAt, List.headD_eq_head?_getD, List.head?_drop, List.getElem?_take_of_lt within, List.getElem?_drop]

theorem readOrder_noEntries (short : args.length < 2) : readOrder ⟨tag, 3, args, true⟩ = .inl .invalid := by
  match args, short with
  | [], _ => rfl
  | [t], _ => rfl

theorem readOrder_unknownTable (long : 2 ≤ args.length) (beyond : 3 < (args.headD 0).toNat) :
    readOrder ⟨tag, 3, args, true⟩ = .inl .unknown := by
  match args, long, beyond with
  | t :: x :: rest, _, beyond =>
    have beyond' : 3 < t.toNat := beyond
    simp [readOrder, beyond']

theorem readOrder_readTable_length (other : args.length ≠ 1) : readOrder ⟨tag, 4, args, true⟩ = .inl .invalid := by
  match args, other with
  | [], _ => rfl
  | _ :: _ :: _, _ => rfl

theorem readOrder_readTable_unknown (single : args.length = 1) (beyond : 3 < (args.headD 0).toNat) :
    readOrder ⟨tag, 4, args, true⟩ = .inl .unknown := by
  match args, single, beyond with
  | [t], _, beyond =>
    have beyond' : 3 < t.toNat := beyond
    simp [readOrder, beyond']

/-- A list behind two bytes of arguments. -/
theorem countedPieces_drop_none {width most : Nat}
    (bad : ((args.drop 2).headD 0).toNat < 1 ∨ most < ((args.drop 2).headD 0).toNat ∨
      args.length ≠ 2 + 1 + width * ((args.drop 2).headD 0).toNat) : countedPieces width most (args.drop 2) = none := by
  match args, bad with
  | [], _ => rfl
  | [_], _ => rfl
  | _ :: _ :: rest, bad =>
    refine countedPieces_none ?_
    simp only [List.drop_succ_cons, List.drop_zero, List.length_cons] at bad ⊢
    omega

/-- A count, a list or a table that LOAD TABLE's arguments do not spell (R187, R194, R199). -/
theorem readOrder_badLoad :
    let count := fun (at_ : Nat) => ((args.drop at_).headD 0).toNat
    let counted := fun (at_ width most : Nat) =>
      count at_ < 1 ∨ most < count at_ ∨ args.length ≠ at_ + 1 + width * count at_
    let table := (args.headD 0).toNat
    let invalid := readOrder ⟨tag, 3, args, true⟩ = .inl .invalid
    (args.length < 2 → invalid) ∧ (2 ≤ args.length → 3 < table → readOrder ⟨tag, 3, args, true⟩ = .inl .unknown) ∧
      (table = 0 → counted 1 8 8 → invalid) ∧
      (∀ i, table = 0 → 8 * i + 2 < args.length →
        7 < (byteAt args (2 + 8 * i)).toNat ∨ 1 < (byteAt args (4 + 8 * i)).toNat ∨
          1 < (byteAt args (5 + 8 * i)).toNat → invalid) ∧
      (table = 1 → counted 1 3 4 → invalid) ∧
      (∀ i, table = 1 → 3 * i + 2 < args.length → 3 < (byteAt args (3 + 3 * i)).toNat → invalid) ∧
      (table = 2 → counted 1 13 4 → invalid) ∧
      (table = 3 → count 1 < 1 ∨ 3 < count 1 ∨ 2 < count 2 ∨ args.length < 4 → invalid) := by
  intro count counted table invalid
  have named : ∀ {n : Nat}, n ≤ 3 → table = n → (∀ rest, args = byteOf n :: rest → readLoadTable tag (byteOf n) rest = none) →
      invalid := by
    intro n low eq bad
    refine readOrder_badTable (le_of_eq_of_le eq low) fun t rest here => ?_
    subst here
    obtain rfl := eq_byteOf (b := t) eq
    exact bad rest rfl
  have shifted : ∀ {t : Byte} {rest : List Byte} {width most : Nat}, args = t :: rest → counted 1 width most →
      countedPieces width most rest = none := by
    rintro t rest width most rfl bad
    refine countedPieces_none ?_
    simp only [counted, count, List.drop_succ_cons, List.drop_zero, List.length_cons] at bad
    omega
  refine ⟨fun short => ?_, fun long beyond => ?_, fun zero bad => ?_, fun i zero inside bad => ?_, fun one bad => ?_,
    fun i one inside bad => ?_, fun two bad => ?_, fun three bad => ?_⟩
  · exact readOrder_noEntries short
  · exact readOrder_unknownTable long beyond
  · refine named (Nat.zero_le 3) zero fun rest here => ?_
    have nothing := shifted here bad
    show Option.map _ (Option.bind (countedPieces 8 8 rest) _) = none
    rw [nothing]
    rfl
  · refine named (Nat.zero_le 3) zero fun rest here => ?_
    subst here
    have spoilt : readChannelArg ((rest.drop (1 + 8 * i)).take 8) = none := by
      have at_ : ∀ j < 8, byteAt ((rest.drop (1 + 8 * i)).take 8) j = byteAt (byteOf 0 :: rest) (2 + j + 8 * i) := fun j low => by
        rw [byteAt_take low, show 2 + j + 8 * i = (1 + 8 * i + j) + 1 by omega]
        rfl
      rw [readChannelArg, at_ 0 (by decide), at_ 2 (by decide), at_ 3 (by decide)]
      exact if_neg (by simp only [Nat.add_zero, Nat.reduceAdd] at *; omega)
    have nothing := countedPieces_spoilt (most := 8) (w := 8) (i := i) (by simp only [List.length_cons] at inside; omega) spoilt
    show Option.map _ (Option.bind (countedPieces 8 8 rest) _) = none
    rw [nothing]
    rfl
  · refine named (by decide) one fun rest here => ?_
    have nothing := shifted here bad
    show Option.map _ (Option.bind (countedPieces 3 4 rest) _) = none
    rw [nothing]
    rfl
  · refine named (by decide) one fun rest here => ?_
    subst here
    have spoilt : readPassArg ((rest.drop (1 + 3 * i)).take 3) = none := by
      have at_ : byteAt ((rest.drop (1 + 3 * i)).take 3) 1 = byteAt (byteOf 1 :: rest) (3 + 3 * i) := by
        rw [byteAt_take (by decide), show 3 + 3 * i = (1 + 3 * i + 1) + 1 by omega]
        rfl
      rw [readPassArg, at_]
      exact if_neg (Nat.not_le.mpr bad)
    have nothing := countedPieces_spoilt (most := 4) (w := 3) (i := i) (by simp only [List.length_cons] at inside; omega) spoilt
    show Option.map _ (Option.bind (countedPieces 3 4 rest) _) = none
    rw [nothing]
    rfl
  · refine named (by decide) two fun rest here => ?_
    have nothing := shifted here bad
    show Option.map _ (countedPieces 13 4 rest) = none
    rw [nothing]
    rfl
  · refine named (by decide) three fun rest here => ?_
    subst here
    cases rest with
    | nil => rfl
    | cons n bs =>
      show (if 1 ≤ n.toNat ∧ n.toNat ≤ 3 then (readGridArgs n.toNat bs).map (Instr.loadTableGrid tag) else none) = none
      split
      · next within =>
        have nothing : readGridArgs n.toNat bs = none := readGridArgs_none within.1 (by
          simp only [count, List.drop_succ_cons, List.drop_zero, List.headD_cons, List.length_cons] at bad
          omega)
        rw [nothing]
        rfl
      · rfl

end

/-- Settles O32: each kind by the form of its arguments, a table by its name, its count and its entries. -/
theorem unknownAndMalformedOrdersRefused : Obligations.UnknownAndMalformedOrdersRefused := by
  unfold Obligations.UnknownAndMalformedOrdersRefused
  intro s tag kind args ready count counted table
  refine ⟨fun unknown => ?_, fun fits up => ?_⟩
  · have outside : kind.toNat = 0 ∨ 21 < kind.toNat := unknown.imp_left fun zero => by rw [zero]; rfl
    have early : earlyBody kind.toNat = [] := if_neg (by omega)
    rw [exec_order (o := ⟨tag, kind, args, true⟩) rfl, submitOrder_ready ready,
      dispatch_refused (readOrder_unknownKind args outside), early]
    rfl
  · intro refused
    have refused_of : ∀ r, readOrder ⟨tag, kind, args, true⟩ = .inl r → kind ≠ 13 → refused r [] := fun r read other => by
      have early : earlyBody kind.toNat = [] := if_neg fun h => other (eq_byteOf h)
      have runs := exec_orderArrival_refused ready fits up read
      rw [early] at runs
      exact runs
    have malformed : (1 ≤ kind.toNat ∧ kind.toNat ≤ 21) ∧ kind ≠ 3 ∧ kind ≠ 4 ∧ kind ≠ 13 ∧ readArgs tag kind args = none →
        refused .invalid [] := fun ⟨known, notLoad, notRead, notMap, bad⟩ =>
      refused_of _ (readOrder_malformed known notLoad notRead bad) notMap
    have whole : ∀ {width most : Nat}, counted 0 width most → countedPieces width most args = none := fun bad =>
      countedPieces_none (by simp only [counted, count, List.drop_zero] at bad; omega)
    have behind : ∀ {width most : Nat}, counted 2 width most → countedPieces width most (args.drop 2) = none :=
      countedPieces_drop_none
    refine ⟨fun plain some => malformed (readArgs_noArgs plain some), fun one other => malformed (readArgs_fixed (n := 1) ?_ other),
      fun h other => malformed (readArgs_fixed (n := 3) (by rw [h]; decide) other),
      fun four other => malformed (readArgs_fixed (n := 4) ?_ other),
      fun h other => malformed (readArgs_fixed (n := 6) (by rw [h]; decide) other), fun h bad => ?_, fun h bad => ?_,
      fun h bad => ?_, fun h bad => ?_, fun h => ?_, fun h => ⟨fun other => ?_, fun single beyond => ?_⟩⟩
    · simp only [List.mem_cons, List.not_mem_nil, or_false] at one
      rcases one with h | h <;> rw [h] <;> decide
    · simp only [List.mem_cons, List.not_mem_nil, or_false] at four
      rcases four with h | h <;> rw [h] <;> decide
    · subst h
      exact malformed ⟨by decide, by decide, by decide, by decide, congrArg (Option.map _) (whole bad)⟩
    · subst h
      exact malformed ⟨by decide, by decide, by decide, by decide, congrArg (Option.map _) (whole bad)⟩
    · subst h
      exact exec_orderArrival_refused ready fits up
        (readOrder_malformed (by decide) (by decide) (by decide) (congrArg (Option.map _) (behind bad)))
    · subst h
      exact malformed ⟨by decide, by decide, by decide, by decide, congrArg (Option.map _) (behind bad)⟩
    · subst h
      have refuse_load : ∀ r, readOrder ⟨tag, 3, args, true⟩ = .inl r → refused r [] := fun r read =>
        refused_of r read (by decide)
      obtain ⟨short, unknown, channel, entry, pass, mode, limit, grid⟩ := readOrder_badLoad (tag := tag) (args := args)
      exact ⟨fun h => refuse_load _ (short h), fun long h => refuse_load _ (unknown long h),
        fun zero bad => refuse_load _ (channel zero bad), fun i zero inside bad => refuse_load _ (entry i zero inside bad),
        fun one bad => refuse_load _ (pass one bad), fun i one inside bad => refuse_load _ (mode i one inside bad),
        fun two bad => refuse_load _ (limit two bad), fun three bad => refuse_load _ (grid three bad)⟩
    · subst h
      exact refused_of _ (readOrder_readTable_length other) (by decide)
    · subst h
      exact refused_of _ (readOrder_readTable_unknown single beyond) (by decide)

end Sys2Proof.Machine
end

section
/-! LOAD TABLE for the four tables (R7, R19, R29, R76, R78). -/

namespace Sys2Proof.Machine

/-! ## The candidate tables (R19, R29) -/

/-- A role code names its channel. -/
theorem Channel.ofCode_code (c : Channel) : Channel.ofCode c.code = some c := by
  cases c <;> rfl

theorem Channel.code_of_ofCode {n : Nat} {c : Channel} (named : Channel.ofCode n = some c) : c.code = n := by
  match n, named with
  | 0, rfl | 1, rfl | 2, rfl | 3, rfl | 4, rfl | 5, rfl | 6, rfl | 7, rfl => rfl

theorem Channel.code_injective {c d : Channel} (same : c.code = d.code) : c = d :=
  Option.some.inj ((Channel.ofCode_code c).symm.trans ((congrArg Channel.ofCode same).trans (Channel.ofCode_code d)))

theorem PerChannel.get_set {α : Type} (p : PerChannel α) (c d : Channel) (x : α) :
    (p.set c x).get d = if d = c then x else p.get d := by
  cases c <;> cases d <;> rfl

/-- The first entry that names a role, when the roles are distinct. -/
theorem find_role_cons {a : ChannelArg} {rest : List ChannelArg} {n : Nat}
    (distinct : ((a :: rest).map ChannelArg.role).Nodup) (here : a.role.toNat = n) :
    rest.find? (fun a => a.role.toNat == n) = none := by
  refine List.find?_eq_none.mpr fun b member same => ?_
  rw [List.map_cons, List.nodup_cons] at distinct
  have role : b.role = a.role := BitVec.eq_of_toNat_eq ((beq_iff_eq.mp same).trans here.symm)
  exact distinct.1 (role ▸ List.mem_map_of_mem member)

/-- A candidate table has each listed entry, LOADED, and keeps the others (R19). -/
theorem candidateTable_get {entries : List ChannelArg} {t₀ t : PerChannel ChanEntry}
    (candidate : candidateTable t₀ entries = some t) (distinct : (entries.map ChannelArg.role).Nodup) (c : Channel) :
    t.get c = match entries.find? fun a => a.role.toNat == c.code with
      | some a => channelEntry a (Fin.ofNat 4 a.module.toNat)
      | none => t₀.get c := by
  induction entries generalizing t₀ with
  | nil =>
    obtain rfl := Option.some.inj candidate
    rfl
  | cons a rest ih =>
    simp only [candidateTable] at candidate
    split at candidate
    · next d named =>
      split at candidate
      · next low =>
        have tail := ih candidate (List.Nodup.of_cons (by rwa [List.map_cons] at distinct))
        have code := Channel.code_of_ofCode named
        by_cases mine : a.role.toNat = c.code
        · obtain rfl : c = d := Channel.code_injective (mine.symm.trans code.symm)
          rw [List.find?_cons_of_pos (by simpa using mine)]
          rw [find_role_cons distinct mine, PerChannel.get_set, if_pos rfl] at tail
          rw [tail]
          exact congrArg (channelEntry a) (Fin.ext (Nat.mod_eq_of_lt low).symm)
        · rw [List.find?_cons_of_neg (by simpa using mine), tail]
          have other : c ≠ d := fun same => mine (code.symm.trans (congrArg Channel.code same.symm))
          rw [PerChannel.get_set, if_neg other]
      · cases candidate
    · cases candidate

/-- Every listed entry of a candidate table names a module of the part. -/
theorem candidateTable_modules {entries : List ChannelArg} {t₀ t : PerChannel ChanEntry}
    (candidate : candidateTable t₀ entries = some t) : ∀ a ∈ entries, a.module.toNat < 4 := by
  induction entries generalizing t₀ with
  | nil => exact fun a here => absurd here (List.not_mem_nil)
  | cons a rest ih =>
    simp only [candidateTable] at candidate
    split at candidate
    · split at candidate
      · next low => exact List.forall_mem_cons.mpr ⟨low, ih candidate⟩
      · cases candidate
    · cases candidate

theorem PerChannel.toList_eq {α : Type} (t : PerChannel α) : t.toList = allChannels.map t.get := rfl

theorem mem_allChannels (c : Channel) : c ∈ allChannels := by
  cases c <;> decide

/-- Two enabled entries that name one slot. -/
theorem slotsDistinct_clash {t : PerChannel ChanEntry} {c d : Channel} (other : c ≠ d)
    (module : (t.get c).module = (t.get d).module) (slot : (t.get c).slotB = (t.get d).slotB)
    (on : (t.get c).enabled = true) (on' : (t.get d).enabled = true) : slotsDistinct t = false := by
  refine decide_eq_false fun distinct => other ?_
  rw [PerChannel.toList_eq, List.filter_map, List.map_map] at distinct
  have member : ∀ k, (t.get k).enabled = true → k ∈ allChannels.filter ((fun e => e.enabled) ∘ t.get) := fun k on =>
    List.mem_filter.mpr ⟨mem_allChannels k, on⟩
  exact List.inj_on_of_nodup_map distinct (member c on) (member d on') (Prod.ext module slot)

theorem moduleEnabled_iff (t : PerChannel ChanEntry) (m : Fin 4) :
    moduleEnabled t m = true ↔ ∃ c, (t.get c).enabled = true ∧ (t.get c).module = m := by
  rw [moduleEnabled, PerChannel.toList_eq, List.any_map, List.any_eq_true]
  constructor
  · rintro ⟨c, -, here⟩
    obtain ⟨on, mine⟩ := Bool.and_eq_true_iff.mp here
    exact ⟨c, on, beq_iff_eq.mp mine⟩
  · rintro ⟨c, on, mine⟩
    exact ⟨c, mem_allChannels c, Bool.and_eq_true_iff.mpr ⟨on, beq_iff_eq.mpr mine⟩⟩

/-! ## The modules after a channel table load (R7) -/

/-- A module's monitor after a load that had it enabled before or has it enabled now. -/
def ModMon.loaded (before now : Bool) (x : ModMon) : ModMon :=
  match before, now with
  | true, false =>
    { x with state := .disabled, good := 0, bad := 0, accepted := 0, duplicate := 0, stray := 0, fault := false }
  | false, true => { x with state := .unqualified, good := 0, bad := 0, joined := true }
  | _, _ => x

/-- The slots open for a module after such a load. -/
def slotsLoaded (before now : Bool) (l : List Slot) : List Slot := if before && !now then [] else l

theorem PerModule.set_get {α : Type} (p : PerModule α) (m : Fin 4) : p.set m (p.get m) = p := by
  match m with
  | 0 | 1 | 2 | 3 => rfl

theorem moduleAfterLoad_eq (before : PerChannel ChanEntry) (s : State) (m : Fin 4) :
    moduleAfterLoad before s m =
      (s.setMm { s.mm with
        mods := s.mm.mods.set m ((s.mm.mods.get m).loaded (moduleEnabled before m) (moduleEnabled s.cc.table m)) }).setLr
          { s.lr with
            slots := s.lr.slots.set m
              (slotsLoaded (moduleEnabled before m) (moduleEnabled s.cc.table m) (s.lr.slots.get m)) } := by
  have still : ∀ x : ModMon, x = s.mm.mods.get m → (s.setMm { s.mm with mods := s.mm.mods.set m x }).setLr
      { s.lr with slots := s.lr.slots.set m (s.lr.slots.get m) } = s := fun x same => by
    rw [same, PerModule.set_get, PerModule.set_get]
    rfl
  have slots : s.lr.slots.set m (s.lr.slots.get m) = s.lr.slots := PerModule.set_get _ _
  simp only [moduleAfterLoad]
  cases moduleEnabled before m <;> cases moduleEnabled s.cc.table m
  · exact (still _ rfl).symm
  · simp only [slotsLoaded, Bool.false_and, Bool.false_eq_true, if_false, slots]
    rfl
  · rfl
  · exact (still _ rfl).symm

/-- The modules of a list after a channel table load. -/
theorem foldl_moduleAfterLoad (before : PerChannel ChanEntry) {l : List (Fin 4)} (distinct : l.Nodup) (s : State) :
    let e := l.foldl (moduleAfterLoad before) s
    e = (s.setMm e.mm).setLr e.lr ∧ e.mm.count = s.mm.count ∧ e.lr.strobe = s.lr.strobe ∧
      (∀ m ∈ l, e.mm.mods.get m = (s.mm.mods.get m).loaded (moduleEnabled before m) (moduleEnabled s.cc.table m) ∧
        e.lr.slots.get m = slotsLoaded (moduleEnabled before m) (moduleEnabled s.cc.table m) (s.lr.slots.get m)) ∧
      ∀ m ∉ l, e.mm.mods.get m = s.mm.mods.get m ∧ e.lr.slots.get m = s.lr.slots.get m := by
  induction l generalizing s with
  | nil => exact ⟨rfl, rfl, rfl, fun m here => absurd here List.not_mem_nil, fun m _ => ⟨rfl, rfl⟩⟩
  | cons k rest ih =>
    obtain ⟨fresh, distinct⟩ := List.nodup_cons.mp distinct
    obtain ⟨eq, count, strobe, changed, kept⟩ := ih distinct (moduleAfterLoad before s k)
    have first := moduleAfterLoad_eq before s k
    have mods : (moduleAfterLoad before s k).mm.mods = _ := congrArg (fun u : State => u.mm.mods) first
    have slots : (moduleAfterLoad before s k).lr.slots = _ := congrArg (fun u : State => u.lr.slots) first
    have table : (moduleAfterLoad before s k).cc.table = s.cc.table := by rw [first]; rfl
    have mods_get : ∀ m, (moduleAfterLoad before s k).mm.mods.get m = if m = k then _ else _ := fun m =>
      (congrArg (fun p => PerModule.get p m) mods).trans (PerModule.get_set _ _ _ _)
    have slots_get : ∀ m, (moduleAfterLoad before s k).lr.slots.get m = if m = k then _ else _ := fun m =>
      (congrArg (fun p => PerModule.get p m) slots).trans (PerModule.get_set _ _ _ _)
    refine ⟨?_, ?_, ?_, fun m here => ?_, fun m absent => ?_⟩
    · have beneath : ∀ a b, ((moduleAfterLoad before s k).setMm a).setLr b = (s.setMm a).setLr b := fun a b => by
        rw [first]
        rfl
      exact eq.trans (beneath _ _)
    · exact count.trans (by rw [first]; rfl)
    · exact strobe.trans (by rw [first]; rfl)
    · rcases List.mem_cons.mp here with rfl | inside
      · obtain ⟨mod, slot⟩ := kept m fresh
        exact ⟨mod.trans ((mods_get m).trans (if_pos rfl)), slot.trans ((slots_get m).trans (if_pos rfl))⟩
      · obtain ⟨mod, slot⟩ := changed m inside
        have other : m ≠ k := fun same => fresh (same ▸ inside)
        rw [mods_get m, if_neg other, table] at mod
        rw [slots_get m, if_neg other, table] at slot
        exact ⟨mod, slot⟩
    · obtain ⟨other, outside⟩ := not_or.mp (mt List.mem_cons.mpr absent)
      obtain ⟨mod, slot⟩ := kept m outside
      exact ⟨mod.trans ((mods_get m).trans (if_neg other)), slot.trans ((slots_get m).trans (if_neg other))⟩

/-- The channel table load as a whole: the table, and each module by whether it was enabled and is now (R7, R19). -/
theorem loadedTable (s : State) (t : PerChannel ChanEntry) :
    let e := allModules.foldl (moduleAfterLoad s.cc.table) (s.setCc { s.cc with table := t })
    e = ((s.setCc { s.cc with table := t }).setMm e.mm).setLr e.lr ∧ e.mm.count = s.mm.count ∧
      e.lr.strobe = s.lr.strobe ∧
      ∀ m,
        let x := s.mm.mods.get m
        let before := ∃ c, (s.cc.table.get c).enabled = true ∧ (s.cc.table.get c).module = m
        let now := ∃ c, (t.get c).enabled = true ∧ (t.get c).module = m
        (before → ¬ now → e.lr.slots.get m = [] ∧ e.mm.mods.get m =
          { x with state := .disabled, good := 0, bad := 0, accepted := 0, duplicate := 0, stray := 0, fault := false }) ∧
        (¬ before → now → e.lr.slots.get m = s.lr.slots.get m ∧ e.mm.mods.get m =
          { x with state := .unqualified, good := 0, bad := 0, joined := true }) ∧
        ((before ↔ now) → e.lr.slots.get m = s.lr.slots.get m ∧ e.mm.mods.get m = x) := by
  obtain ⟨eq, count, strobe, changed, -⟩ := foldl_moduleAfterLoad s.cc.table (l := allModules) (by decide)
    (s.setCc { s.cc with table := t })
  refine ⟨eq, count, strobe, fun m => ?_⟩
  have every : ∀ m : Fin 4, m ∈ allModules := by decide
  obtain ⟨mod, slot⟩ := changed m (every m)
  rw [mod, slot]
  intro x before now
  have was := moduleEnabled_iff s.cc.table m
  have is := moduleEnabled_iff t m
  simp only [State.setCc_cc, State.setCc_mm, State.setCc_lr]
  refine ⟨fun b n => ?_, fun b n => ?_, fun same => ?_⟩
  · rw [was.mpr b, Bool.eq_false_iff.mpr (mt is.mp n)]
    exact ⟨rfl, rfl⟩
  · rw [Bool.eq_false_iff.mpr (mt was.mp b), is.mpr n]
    exact ⟨rfl, rfl⟩
  · have equal : moduleEnabled s.cc.table m = moduleEnabled t m := by
      rw [Bool.eq_iff_iff, was, is]
      exact same
    rw [equal]
    cases moduleEnabled t m <;> exact ⟨rfl, rfl⟩

/-! ## The pass table (R29) -/

theorem passMode_eq {a : PassArg} {mode : PassMode} (read : passMode a = some mode) :
    mode = if a.mode = 0 then .drop else if a.mode = 1 then .all
      else if a.mode = 2 then .decimate a.divisor.toNat else .duringCapture := by
  unfold passMode at read
  split
  · next drop =>
    rw [if_pos drop] at read
    exact (Option.some.inj read).symm
  · next notDrop =>
    rw [if_neg notDrop] at read
    split
    · next all =>
      rw [if_pos all] at read
      exact (Option.some.inj read).symm
    · next notAll =>
      rw [if_neg notAll] at read
      split
      · next decimate =>
        rw [if_pos decimate] at read
        split at read
        · exact (Option.some.inj read).symm
        · cases read
      · next notDecimate =>
        rw [if_neg notDecimate] at read
        split at read
        · exact (Option.some.inj read).symm
        · cases read

/-- A mode outside the four or a divisor outside its range. -/
theorem passMode_none {a : PassArg} (bad : 3 < a.mode.toNat ∨ (a.mode = 2 ∧ (a.divisor.toNat < 2 ∨ 64 < a.divisor.toNat))) :
    passMode a = none := by
  have named : ∀ b : Byte, b.toNat ≤ 3 → 3 < a.mode.toNat → a.mode ≠ b := fun b low high same => by
    rw [same] at high
    omega
  rcases bad with high | ⟨decimate, outside⟩
  · unfold passMode
    rw [if_neg (named 0 (by decide) high), if_neg (named 1 (by decide) high), if_neg (named 2 (by decide) high),
      if_neg (named 3 (by decide) high)]
  · unfold passMode
    rw [decimate]
    exact if_neg (fun within => by omega : ¬ (2 ≤ a.divisor.toNat ∧ a.divisor.toNat ≤ 64))

theorem passWith_get {entries : List PassArg} {t₀ t : PerModule PassMode} (candidate : passWith t₀ entries = some t)
    (distinct : (entries.map PassArg.module).Nodup) (m : Fin 4) :
    t.get m = match entries.find? fun a => a.module.toNat == m.val with
      | some a => if a.mode = 0 then .drop else if a.mode = 1 then .all
          else if a.mode = 2 then .decimate a.divisor.toNat else .duringCapture
      | none => t₀.get m := by
  induction entries generalizing t₀ with
  | nil =>
    obtain rfl := Option.some.inj candidate
    rfl
  | cons a rest ih =>
    simp only [passWith] at candidate
    split at candidate
    · next mode read =>
      split at candidate
      · next low =>
        obtain ⟨fresh, distinct⟩ := List.nodup_cons.mp distinct
        have tail := ih candidate distinct
        by_cases mine : a.module.toNat = m.val
        · have later : rest.find? (fun a => a.module.toNat == m.val) = none := by
            refine List.find?_eq_none.mpr fun b member same => fresh ?_
            have module : b.module = a.module := BitVec.eq_of_toNat_eq ((beq_iff_eq.mp same).trans mine.symm)
            exact module ▸ List.mem_map_of_mem member
          rw [List.find?_cons_of_pos (by simpa using mine)]
          rw [later, PerModule.get_set, if_pos (Fin.ext mine.symm)] at tail
          exact tail.trans (passMode_eq read)
        · rw [List.find?_cons_of_neg (by simpa using mine), tail]
          rw [PerModule.get_set, if_neg fun same => mine (congrArg Fin.val same).symm]
      · cases candidate
    · cases candidate

/-- Every listed entry of a pass table that is taken names a module and has a mode. -/
theorem passWith_modules {entries : List PassArg} {t₀ t : PerModule PassMode} (candidate : passWith t₀ entries = some t) :
    ∀ a ∈ entries, a.module.toNat < 4 ∧ passMode a ≠ none := by
  induction entries generalizing t₀ with
  | nil => exact fun a here => absurd here List.not_mem_nil
  | cons a rest ih =>
    simp only [passWith] at candidate
    split at candidate
    · next mode read =>
      split at candidate
      · next low => exact List.forall_mem_cons.mpr ⟨⟨low, by rw [read]; nofun⟩, ih candidate⟩
      · cases candidate
    · cases candidate

/-! ## Orders that spell no table (R199) -/

/-- A command whose order spells nothing is refused, and nothing else changes. -/
theorem exec_order_refused {i : Instr} {o : Order} {s : State} {r : Reason} (ready : Ready s) (spelt : orderOf i = some o)
    (read : readOrder o = .inl r) : exec i s = .next (settle (refuse o.tag o.kind.toNat r s)) := by
  have submitted : submitOrder o s = dispatch o s := by
    have same : submit i s = submitOrder o s := by simp only [submit, spelt]
    rw [← same]
    exact submit_ready ready spelt
  rw [exec_order spelt, submitted, dispatch, read]

theorem readChannelArg_unfit {a : ChannelArg} (unfit : a.fits = false) : readChannelArg (ChannelArg.bytes a) = none := by
  refine if_neg fun ⟨role, slot, enabled⟩ => Bool.eq_false_iff.mp unfit ?_
  have role' : a.role.toNat ≤ 7 := role
  have slot' : a.slot.toNat ≤ 1 := slot
  have enabled' : a.enabled.toNat ≤ 1 := enabled
  simp [ChannelArg.fits, role', slot', enabled']

theorem readPassArg_unfit {a : PassArg} (unfit : a.fits = false) : readPassArg (PassArg.bytes a) = none := by
  refine if_neg fun mode => Bool.eq_false_iff.mp unfit ?_
  have mode' : a.mode.toNat ≤ 3 := mode
  simp [PassArg.fits, mode']

/-- A counted list of which one entry does not fit spells nothing. -/
theorem countedPieces_unfit {α : Type} {w most : Nat} (bytes : α → List Byte) (read : List Byte → Option α)
    (width : ∀ a, (bytes a).length = w) {l : List α} (low : 1 ≤ l.length) (high : l.length ≤ most) (byte : most < 256)
    (bad : ∃ a ∈ l, read (bytes a) = none) :
    (countedPieces w most (counted l.length (l.flatMap bytes))).bind (fun l => allSome (l.map read)) = none := by
  obtain ⟨a, here, unread⟩ := bad
  rw [countedPieces_flatMap w most bytes width l low high byte, Option.bind_some]
  exact allSome_none (List.mem_map.mpr ⟨bytes a, List.mem_map_of_mem here, unread⟩)

section
variable {s : State} {tag : Byte}

theorem exec_loadChannel_unfit {entries : List ChannelArg} (ready : Ready s) (low : 1 ≤ entries.length)
    (high : entries.length ≤ 8) (bad : ∃ a ∈ entries, a.fits = false) :
    exec (.loadTableChannel tag entries) s = .next (settle (refuse tag 3 .invalid s)) := by
  obtain ⟨a, here, unfit⟩ := bad
  have nothing := countedPieces_unfit (w := 8) (most := 8) ChannelArg.bytes readChannelArg (fun _ => rfl) low high (by decide)
    ⟨a, here, readChannelArg_unfit unfit⟩
  have read : readOrder ⟨tag, 3, [0] ++ counted entries.length (entries.flatMap ChannelArg.bytes), true⟩ = .inl .invalid := by
    refine readOrder_badTable (Nat.zero_le 3) fun table rest eq => ?_
    obtain ⟨rfl, rfl⟩ := List.cons.inj eq
    exact congrArg (Option.map (Instr.loadTableChannel tag)) nothing
  have runs := exec_order_refused (i := .loadTableChannel tag entries) (o := ⟨tag, 3, _, true⟩) ready rfl read
  exact runs

theorem exec_loadPass_unfit {entries : List PassArg} (ready : Ready s) (low : 1 ≤ entries.length)
    (high : entries.length ≤ 4) (bad : ∃ a ∈ entries, a.fits = false) :
    exec (.loadTablePass tag entries) s = .next (settle (refuse tag 3 .invalid s)) := by
  obtain ⟨a, here, unfit⟩ := bad
  have nothing := countedPieces_unfit (w := 3) (most := 4) PassArg.bytes readPassArg (fun _ => rfl) low high (by decide)
    ⟨a, here, readPassArg_unfit unfit⟩
  have read : readOrder ⟨tag, 3, [1] ++ counted entries.length (entries.flatMap PassArg.bytes), true⟩ = .inl .invalid := by
    refine readOrder_badTable (Nat.le_of_ble_eq_true rfl) fun table rest eq => ?_
    obtain ⟨rfl, rfl⟩ := List.cons.inj eq
    exact congrArg (Option.map (Instr.loadTablePass tag)) nothing
  have runs := exec_order_refused (i := .loadTablePass tag entries) (o := ⟨tag, 3, _, true⟩) ready rfl read
  exact runs

theorem exec_loadGrid_unfit {lists : List GridArg} (ready : Ready s)
    (bad : ∃ a ∈ lists, a.list ≠ 2 ∧ ∃ e ∈ a.entries, 65536 ≤ e.toNat) :
    exec (.loadTableGrid tag lists) s = .next (settle (refuse tag 3 .invalid s)) := by
  obtain ⟨a, here, notDuration, e, entry, wide⟩ := bad
  have unfit : lists.all GridArg.fits = false := by
    refine Bool.eq_false_iff.mpr fun all => ?_
    have fits := List.all_eq_true.mp all a here
    have narrow := (Bool.and_eq_true_iff.mp fits).2
    rcases Bool.or_eq_true_iff.mp narrow with duration | small
    · exact notDuration (beq_iff_eq.mp duration)
    · exact Nat.not_lt.mpr wide (of_decide_eq_true (List.all_eq_true.mp small e entry))
  have read : readOrder ⟨tag, 3, [3] ++ counted lists.length (lists.flatMap GridArg.bytes), lists.all GridArg.fits⟩ =
      .inl .invalid := by
    rw [unfit]
    rfl
  have runs := exec_order_refused (i := .loadTableGrid tag lists) (o := ⟨tag, 3, _, lists.all GridArg.fits⟩) ready rfl read
  exact runs

end

theorem channelFits_of {entries : List ChannelArg} (low : 1 ≤ entries.length) (high : entries.length ≤ 8)
    (all : ¬ ∃ a ∈ entries, a.fits = false) (tag : Byte) : (Instr.loadTableChannel tag entries).fits = true := by
  have fits : entries.all ChannelArg.fits = true :=
    List.all_eq_true.mpr fun a here => by_contra fun h => all ⟨a, here, Bool.eq_false_iff.mpr h⟩
  simp [Instr.fits, countIn, low, high, fits]

theorem passFits_of {entries : List PassArg} (low : 1 ≤ entries.length) (high : entries.length ≤ 4)
    (all : ¬ ∃ a ∈ entries, a.fits = false) (tag : Byte) : (Instr.loadTablePass tag entries).fits = true := by
  have fits : entries.all PassArg.fits = true :=
    List.all_eq_true.mpr fun a here => by_contra fun h => all ⟨a, here, Bool.eq_false_iff.mpr h⟩
  simp [Instr.fits, countIn, low, high, fits]

end Sys2Proof.Machine
end

section
/-! The orders LOAD TABLE, taken and refused: O38. -/

namespace Sys2Proof.Machine

section
variable {s : State} {tag : Byte}

theorem exec_loadChannel (ready : Ready s) {entries : List ChannelArg} (fits : (Instr.loadTableChannel tag entries).fits = true) :
    exec (.loadTableChannel tag entries) s = .next (settle (orderLoadChannel tag entries s)) :=
  exec_carryOut ready rfl (readOrder_orderOf rfl fits nofun) rfl

theorem exec_loadPass (ready : Ready s) {entries : List PassArg} (fits : (Instr.loadTablePass tag entries).fits = true) :
    exec (.loadTablePass tag entries) s = .next (settle (orderLoadPass tag entries s)) :=
  exec_carryOut ready rfl (readOrder_orderOf rfl fits nofun) rfl

theorem exec_loadLimit (ready : Ready s) {entries : List LimitArg} (fits : (Instr.loadTableLimit tag entries).fits = true) :
    exec (.loadTableLimit tag entries) s = .next (settle (orderLoadLimit tag entries s)) :=
  exec_carryOut ready rfl (readOrder_orderOf rfl fits nofun) rfl

theorem exec_loadGrid (ready : Ready s) {lists : List GridArg} (fits : (Instr.loadTableGrid tag lists).fits = true) :
    exec (.loadTableGrid tag lists) s = .next (settle (orderLoadGrid tag lists s)) := by
  have all : lists.all GridArg.fits = true := (Bool.and_eq_true_iff.mp fits).2
  have spelt : orderOf (.loadTableGrid tag lists) =
      some ⟨tag, 3, [3] ++ counted lists.length (lists.flatMap GridArg.bytes), lists.all GridArg.fits⟩ := rfl
  exact exec_carryOut ready spelt (readOrder_orderOf spelt fits nofun) rfl

/-- A channel table refused in STOPPED: its entries, its roles, or two enabled entries of one slot (R19). -/
theorem orderLoadChannel_invalid {entries : List ChannelArg} (stopped : s.ia.state = .stopped)
    (bad : ∀ t, candidateTable s.cc.table entries = some t → (entries.map ChannelArg.role).Nodup → slotsDistinct t = false) :
    orderLoadChannel tag entries s = refuse tag 3 .invalid s := by
  unfold orderLoadChannel
  rw [if_neg (not_not_intro stopped)]
  split
  · rfl
  · next t candidate =>
    refine if_neg fun ⟨distinct, slots⟩ => ?_
    exact Bool.false_ne_true ((bad t candidate distinct).symm.trans slots)

/-- Two roles that come to name one slot, both enabled, by the entry listed or the entry kept. -/
theorem slotsDistinct_placed {entries : List ChannelArg} {t₀ t : PerChannel ChanEntry} {c d : Channel}
    (candidate : candidateTable t₀ entries = some t) (distinct : (entries.map ChannelArg.role).Nodup) (other : c ≠ d) :
    let placed := fun (c : Channel) =>
      match entries.find? fun a => a.role.toNat == c.code with
      | some a => (a.module.toNat, a.slot == 1, a.enabled == 1)
      | none => ((t₀.get c).module.val, (t₀.get c).slotB, (t₀.get c).enabled)
    placed c = placed d → (placed c).2.2 = true → slotsDistinct t = false := by
  intro placed same on
  have placed_eq : ∀ c, placed c = ((t.get c).module.val, (t.get c).slotB, (t.get c).enabled) := fun c => by
    rw [candidateTable_get candidate distinct c]
    simp only [placed]
    cases found : entries.find? fun a => a.role.toNat == c.code with
    | none => rfl
    | some a =>
      have low := candidateTable_modules candidate a (List.mem_of_find?_eq_some found)
      show _ = ((channelEntry a (Fin.ofNat 4 a.module.toNat)).module.val, _, _)
      have module : (channelEntry a (Fin.ofNat 4 a.module.toNat)).module.val = a.module.toNat := Nat.mod_eq_of_lt low
      rw [module]
      rfl
  rw [placed_eq c, placed_eq d, Prod.mk.injEq, Prod.mk.injEq] at same
  rw [placed_eq c] at on
  obtain ⟨module, slot, enabled⟩ := same
  exact slotsDistinct_clash other (Fin.ext module) slot on (enabled ▸ on)

end

/-- Settles O38: the tables taken by what their candidates hold, the refusals by the first check that fails. -/
theorem loadTables : Obligations.LoadTables := by
  unfold Obligations.LoadTables
  refine ⟨fun s tag ready => ⟨fun entries t stopped fits candidate distinct slots => ?_, fun entries t fits candidate distinct => ?_,
    fun entries fits valid => ?_, fun lists g stopped fits candidate distinct => ?_⟩,
    fun s tag ready => ⟨fun entries going fits => ?_, fun entries stopped low high => ?_, fun entries low high bad => ?_,
      fun lists going fits => ?_, fun lists stopped bad => ?_, fun entries fits invalid => ?_⟩⟩
  · refine ⟨fun c => (candidateTable_get candidate distinct c).trans rfl, _, ?_, loadedTable s t⟩
    have taken : orderLoadChannel tag entries s = answerOk tag 3 []
        (allModules.foldl (moduleAfterLoad s.cc.table) (s.setCc { s.cc with table := t })) := by
      simp only [orderLoadChannel, stopped, candidate, distinct, slots, ne_eq, not_true_eq_false, if_false, true_and, if_true]
    rw [exec_loadChannel ready fits, taken]
    rfl
  · refine ⟨fun m => (passWith_get candidate distinct m).trans rfl, ?_⟩
    rw [exec_loadPass ready fits, orderLoadPass, candidate]
    simp only [if_pos distinct]
    rfl
  · rw [exec_loadLimit ready fits, orderLoadLimit, if_pos valid]
    rfl
  · rw [exec_loadGrid ready fits, orderLoadGrid, if_neg (not_not_intro stopped), candidate]
    simp only [if_pos distinct]
    rfl
  · rw [exec_loadChannel ready fits, orderLoadChannel, if_pos going]
    rfl
  · intro placed bad
    by_cases unfit : ∃ a ∈ entries, a.fits = false
    · rw [exec_loadChannel_unfit ready low high unfit]
      rfl
    · have invalid : orderLoadChannel tag entries s = refuse tag 3 .invalid s := by
        refine orderLoadChannel_invalid stopped fun t candidate distinct => ?_
        rcases bad with ⟨a, here, outside⟩ | double | ⟨c, d, other, same, on⟩
        · have low := candidateTable_modules candidate a here
          have fits : a.fits = true := Bool.not_eq_false _ ▸ fun h => unfit ⟨a, here, h⟩
          simp only [ChannelArg.fits, Bool.and_eq_true, decide_eq_true_eq] at fits
          omega
        · exact absurd distinct double
        · exact slotsDistinct_placed candidate distinct other same on
      rw [exec_loadChannel ready (channelFits_of low high unfit tag), invalid]
      rfl
  · by_cases unfit : ∃ a ∈ entries, a.fits = false
    · rw [exec_loadPass_unfit ready low high unfit]
      rfl
    · have invalid : orderLoadPass tag entries s = refuse tag 3 .invalid s := by
        unfold orderLoadPass
        split
        · next t candidate =>
          refine if_neg fun distinct => ?_
          rcases bad with ⟨a, here, outside⟩ | double
          · obtain ⟨module, mode⟩ := passWith_modules candidate a here
            rcases outside with beyond | outside
            · omega
            · exact mode (passMode_none outside)
          · exact double distinct
        · rfl
      rw [exec_loadPass ready (passFits_of low high unfit tag), invalid]
      rfl
  · rw [exec_loadGrid ready fits, orderLoadGrid, if_pos going]
    rfl
  · rcases bad with ⟨fits, wrong⟩ | wide
    · have invalid : orderLoadGrid tag lists s = refuse tag 3 .invalid s := by
        unfold orderLoadGrid
        rw [if_neg (not_not_intro stopped)]
        split
        · next g candidate =>
          rcases wrong with none | double
          · exact absurd (candidate.symm.trans none) nofun
          · exact if_neg double
        · rfl
      rw [exec_loadGrid ready fits, invalid]
      rfl
    · rw [exec_loadGrid_unfit ready wide]
      rfl
  · rw [exec_loadLimit ready fits, orderLoadLimit, invalid, if_neg Bool.false_ne_true]
    rfl

end Sys2Proof.Machine
end

section
/-! The end of a transmission and live emission (R188 to R191). -/

namespace Sys2Proof.Machine

/-! ## What the summary bit rests on (R195) -/

section
variable (s : State)

theorem summaryBit_of_flags {t : State} (flags : ∀ f, flagSet t f = flagSet s f)
    (enabled : t.sl.settings.attnEnable = s.sl.settings.attnEnable) : summaryBit t = summaryBit s := by
  simp only [summaryBit, setMarks, flags, enabled]

theorem summaryBit_setSl {l : SL} (latched : l.latched = s.sl.latched)
    (enabled : l.settings.attnEnable = s.sl.settings.attnEnable) : summaryBit (s.setSl l) = summaryBit s := by
  refine summaryBit_of_flags s (fun f => ?_) enabled
  cases f with
  | refChange | calReject | timeStep | captureMissed | recordLoss | forwardLoss | sectorRetired | mapDamaged | linkError
  | orderOverflow => exact congrArg (fun m : BitVec 21 => m.getLsbD _) latched
  | _ => rfl

theorem summaryBit_setCc (c : CC) : summaryBit (s.setCc c) = summaryBit s :=
  summaryBit_of_flags s (fun f => by cases f <;> rfl) rfl

theorem summaryBit_setSr {r : SR} (state : r.state = s.sr.state) : summaryBit (s.setSr r) = summaryBit s := by
  refine summaryBit_of_flags s (fun f => ?_) rfl
  cases f with
  | storeFault => exact congrArg (· == .faulted) state
  | storeFull =>
    show storeFull (s.setSr r) = storeFull s
    simp [storeFull, state]
  | _ => rfl

end

/-! ## The choice of a frame (R189) -/

section
variable {s : State} {f : TxFrame}

theorem sendFirst_of_calm {c : Category} {rest : List Category} (calm : liveCalm s = true)
    (ready : readyCategories s = c :: rest) : sendFirst s = send c s := by
  simp only [sendFirst, liveTake_of_calm calm, ready]

theorem sendFirst_idle (calm : liveCalm s = true) (none : readyCategories s = []) : sendFirst s = s := by
  simp only [sendFirst, liveTake_of_calm calm, none]

/-- The categories by what each has ready. -/
theorem readyCategories_cases (s : State) :
    (isReady s .reply = true → ∃ rest, readyCategories s = .reply :: rest) ∧
    (isReady s .reply = false → isReady s .live = true → ∃ rest, readyCategories s = .live :: rest) ∧
    (isReady s .reply = false → isReady s .live = false → isReady s .readback = true →
      ∃ rest, readyCategories s = .readback :: rest) ∧
    (isReady s .reply = false → isReady s .live = false → isReady s .readback = false → isReady s .sample = true →
      readyCategories s = [.sample]) ∧
    (isReady s .reply = false → isReady s .live = false → isReady s .readback = false → isReady s .sample = false →
      readyCategories s = []) := by
  refine ⟨fun r => ⟨_, List.filter_cons_of_pos r⟩, fun r l => ?_, fun r l p => ?_, fun r l p b => ?_,
    fun r l p b => ?_⟩
  · exact ⟨_, (List.filter_cons_of_neg (by rw [r]; exact Bool.false_ne_true)).trans (List.filter_cons_of_pos l)⟩
  · exact ⟨_, (List.filter_cons_of_neg (by rw [r]; exact Bool.false_ne_true)).trans
      ((List.filter_cons_of_neg (by rw [l]; exact Bool.false_ne_true)).trans (List.filter_cons_of_pos p))⟩
  · simp [readyCategories, r, l, p, b]
  · simp [readyCategories, r, l, p, b]

theorem exec_frameTransmitEnd (s : State) : exec .frameTransmitEnd s = .next (settle (transmitEnd s)) := rfl

theorem transmitEnd_live {sequence : Nat} {last : Bool} (tx : s.sl.tx = some f) (kind : f.kind = .live sequence last) :
    transmitEnd s = sendFirst (liveSent sequence last (s.setSl { s.sl with tx := none })) := by
  simp only [transmitEnd, tx, kind]

theorem transmitEnd_other (tx : s.sl.tx = some f) (kind : f.kind = .reply ∨ f.kind = .readback ∨ f.kind = .sample) :
    transmitEnd s = sendFirst (s.setSl { s.sl with tx := none }) := by
  rcases kind with kind | kind | kind <;> simp only [transmitEnd, tx, kind]

/-! ## The frames (R191) -/

theorem sendReply_idle {r : Reply} {rest : List Reply} (replies : s.sl.replies = r :: rest) :
    sendReply (s.setSl { s.sl with tx := none }) = (s.setSl { s.sl with replies := rest }).setSl
      { s.sl with
        replies := rest, tx := some { kind := .reply, bytes := linkFrame 8 (summaryBit s) s.ia.state r.bytes } } := by
  have replies' : (s.setSl { s.sl with tx := none }).sl.replies = r :: rest := replies
  have bit : summaryBit (s.setSl { s.sl with tx := none, replies := rest }) = summaryBit s := summaryBit_setSl s rfl rfl
  simp only [sendReply, replies', beginFrame]
  rw [← bit]
  rfl

theorem fragmentBytes_live (last : Bool) (sequence index : Nat) (bytes : List Byte) :
    fragmentBytes false last 0 0 sequence index bytes =
      [if last then 2 else 0, 0] ++ leBytes 4 sequence ++ leBytes 2 index ++ bytes := by
  cases last <;> rfl

theorem sendLive_idle {l : Live} {e : Entry} (live : s.sl.live = some l) (entry : entryOf s l.sequence = some e) :
    let record := e.record.bytes (capturePoints s)
    let last := decide (record.length ≤ (l.index + 1) * 1000)
    sendLive (s.setSl { s.sl with tx := none }) = s.setSl
      { s.sl with
        live := some { l with sending := true }
        tx := some
          { kind := .live l.sequence last
            bytes := linkFrame 9 (summaryBit s) s.ia.state ([if last then 2 else 0, 0] ++ leBytes 4 l.sequence ++ leBytes 2 l.index ++
            (record.drop (l.index * 1000)).take 1000) } } := by
  intro record last
  have live' : (s.setSl { s.sl with tx := none }).sl.live = some l := live
  have entry' : entryOf (s.setSl { s.sl with tx := none }) l.sequence = some e := entry
  have bit : summaryBit (s.setSl { s.sl with tx := none, live := some { l with sending := true } }) = summaryBit s :=
    summaryBit_setSl s rfl rfl
  simp only [sendLive, live', entry', liveFragment, beginFrame, fragmentBytes_live]
  rw [← bit]
  rfl

theorem sendPiece_idle {p : Piece} (piece : s.sr.piece = some p) :
    sendPiece (s.setSl { s.sl with tx := none }) = (s.setSr { s.sr with piece := none }).setSl
      { s.sl with
        tx := some
          { kind := .readback
            bytes := linkFrame 9 (summaryBit s) s.ia.state (leBytes 1
              (1 + (if p.last then 2 else 0) + 4 * (if p.last = true then p.mark.code else 0)) ++ [p.tag] ++
              leBytes 4 p.sequence ++ leBytes 2 p.index ++ p.bytes) } } := by
  have piece' : (s.setSl { s.sl with tx := none }).sr.piece = some p := piece
  have bit : summaryBit ((s.setSl { s.sl with tx := none }).setSr { s.sr with piece := none }) = summaryBit s :=
    (summaryBit_setSr (s.setSl { s.sl with tx := none }) rfl).trans (summaryBit_setSl s rfl rfl)
  simp only [sendPiece, piece', beginFrame, fragmentBytes]
  rw [← bit]
  rfl

theorem sendSamples_idle :
    sendSamples (s.setSl { s.sl with tx := none }) = (s.setCc { s.cc with buffer := [] }).setSl
      { s.sl with
        tx := some
          { kind := .sample
            bytes := linkFrame 10 (summaryBit s) s.ia.state (leBytes 1 s.cc.buffer.length ++ s.cc.buffer.flatMap FwdFrame.bytes) } } := by
  have bit : summaryBit ((s.setSl { s.sl with tx := none }).setCc { s.cc with buffer := [] }) = summaryBit s :=
    (summaryBit_setCc _ _).trans (summaryBit_setSl s rfl rfl)
  simp only [sendSamples, beginFrame]
  rw [← bit]
  rfl

end

/-! ## Live emission (R190) -/

theorem liveTake_first {s : State} {before after : List Entry} {e : Entry} (free : s.sl.live = none) (up : s.sl.linkUp = true)
    (on : s.sl.settings.liveRecords = true) (queue : s.rq.entries = before ++ e :: after)
    (sent : ∀ x ∈ before, x.emitted = true) (fresh : e.emitted = false) :
    liveTake s = s.setSl { s.sl with live := some { sequence := e.record.sequence, index := 0, sending := false } } := by
  have found : s.rq.entries.find? (fun e => !e.emitted) = some e := by
    have none : before.find? (fun e => !e.emitted) = none := List.find?_eq_none.mpr fun x here h => by
      rw [sent x here] at h
      cases h
    rw [queue, List.find?_append, none, Option.none_or, List.find?_cons_of_pos (by simp [fresh])]
  simp only [liveTake, free, Option.filter_none, up, on, Bool.and_self, if_true, found, Option.map_some]

/-- Settles O33: the choice by the first category with something ready, and each frame's bytes. -/
theorem transmitEndChoosesNext : Obligations.TransmitEndChoosesNext := by
  unfold Obligations.TransmitEndChoosesNext
  refine ⟨fun s f tx => ?_, fun s => ⟨fun before e after free up on queue sent fresh =>
    liveTake_first free up on queue sent fresh, fun sequence index live => ⟨?_, ?_, ?_⟩⟩⟩
  · intro idle begun
    refine ⟨fun sequence last kind => ?_, fun kind => ⟨?_, fun calm => ?_⟩⟩
    · rw [exec_frameTransmitEnd, transmitEnd_live tx kind]
    · rw [exec_frameTransmitEnd, transmitEnd_other tx kind]
    · have idleCalm : liveCalm idle = true := calm
      obtain ⟨reply, fragment, piece, sample, nothing⟩ := readyCategories_cases idle
      have begins : ∀ {c : Category} {rest : List Category} {t : State}, readyCategories idle = c :: rest → send c idle = t →
          exec .frameTransmitEnd s = .next (settle t) := fun ready sends => by
        rw [exec_frameTransmitEnd, transmitEnd_other tx kind, sendFirst_of_calm idleCalm ready, sends]
      refine ⟨fun r rest replies => ?_, fun noReply => ?_⟩
      · obtain ⟨others, ready⟩ := reply (by simp [isReady, idle, replies])
        exact begins ready (sendReply_idle replies)
      · have silent : isReady idle .reply = false := by simp [isReady, idle, noReply]
        refine ⟨fun l e live waiting entry => ?_, fun noLive => ?_⟩
        · obtain ⟨others, ready⟩ := fragment silent (by simp [isReady, idle, live, waiting])
          exact begins ready (sendLive_idle live entry)
        · have free : isReady idle .live = false := by simp [isReady, idle, noLive]
          refine ⟨fun p held => ?_, fun noPiece => ⟨fun some => ?_, fun empty => ?_⟩⟩
          · obtain ⟨others, ready⟩ := piece silent free (by simp [isReady, idle, held])
            exact begins ready (sendPiece_idle held)
          · have ready := sample silent free (by simp [isReady, idle, noPiece]) (by simpa [isReady, idle] using some)
            exact begins ready sendSamples_idle
          · have none := nothing silent free (by simp [isReady, idle, noPiece]) (by simp [isReady, idle, empty])
            rw [exec_frameTransmitEnd, transmitEnd_other tx kind, sendFirst_idle idleCalm none]
  · simp [liveSent, live]
  · simp [liveSent, live, markEmitted]
  · simp only [liveSent, live, and_self, if_true, markEmitted, rq_sweep]
    rfl

end Sys2Proof.Machine
end

section
/-! READ RECORDS and CANCEL READ (R165, R171). -/

namespace Sys2Proof.Machine

section
variable (s : State)

@[simp] theorem readerless_accept (tag : Byte) (kind : Nat) : readerless (accept tag kind s) = readerless s := by
  rw [accept_eq]
  rfl

/-! ## READ RECORDS (R165) -/

/-- A readback that joins the queue begins when no other is current. -/
theorem startReadback_joined (o : ReadOrder) :
    (startReadback (s.setSr { s.sr with queue := s.sr.queue ++ [o] })).sr =
      { s.sr with
        queue := s.sr.queue ++ [o]
        current := match s.sr.current, s.sr.queue with
          | some r, _ => some r
          | none, [] => some (Readback.begin o)
          | none, x :: _ => some (Readback.begin x) } := by
  cases current : s.sr.current with
  | some r => simp [startReadback, current]
  | none =>
    cases queue : s.sr.queue with
    | nil => simp [startReadback, current]
    | cons x rest => simp [startReadback, current]

/-! ## Several final replies in one event -/

/-- The Station Link Interface after several final replies. -/
def SL.answeredAll (l : SL) (rs : List Reply) : SL :=
  { l with replies := if l.linkUp then l.replies ++ rs else l.replies, reserved := l.reserved - rs.length }

theorem SL.answeredAll_replies (l : SL) (rs : List Reply) (up : l.linkUp = true) :
    (l.answeredAll rs).replies = l.replies ++ rs := if_pos up

theorem SL.answeredAll_nil (l : SL) : l.answeredAll [] = l := by
  cases up : l.linkUp with
  | true => simp [SL.answeredAll, up]; rw [← up]
  | false => simp [SL.answeredAll, up]; rw [← up]

theorem SL.answeredAll_cons (l : SL) (r : Reply) (rs : List Reply) :
    (l.answered r).answeredAll rs = l.answeredAll (r :: rs) := by
  cases up : l.linkUp with
  | true => simp [SL.answeredAll, SL.answered, up]; omega
  | false => simp [SL.answeredAll, SL.answered, up]; omega

theorem foldl_finalReply {α : Type} (f : α → Reply) (l : List α) :
    l.foldl (fun s a => finalReply (f a) s) s = s.setSl (s.sl.answeredAll (l.map f)) := by
  induction l generalizing s with
  | nil =>
    rw [List.map_nil, SL.answeredAll_nil]
    rfl
  | cons a rest ih =>
    rw [List.foldl_cons, ih, finalReply_eq, List.map_cons, ← SL.answeredAll_cons]
    rfl

end

/-! ## CANCEL READ (R171) -/

/-- The reply of a readback cancelled, with its counts. -/
def cancelledReply (o : ReadOrder) (n : Outcomes) : Reply :=
  { plainReply o.tag 16 .done .none with cancelled := true, body := readbackBody o n }

/-- The reply of a CANCEL READ whose last order has been answered. -/
def cancelDone (tag : Byte) : Reply := plainReply tag 17 .done .none

section
variable {s : State} {o : ReadOrder} {rest : List ReadOrder} {target : Byte}

/-- The orders behind the front that carry the tag, each answered with every count at 0. -/
theorem cancelQueued_eq (queue : s.sr.queue = o :: rest) :
    cancelQueued target s = (s.setSr { s.sr with queue := o :: rest.filter fun x => x.tag != target }).setSl
      (s.sl.answeredAll ((rest.filter fun x => x.tag == target).map fun x => cancelledReply x .zero)) := by
  simp only [cancelQueued, queue, List.drop_succ_cons, List.drop_zero, List.take_succ_cons, List.take_zero,
    List.singleton_append]
  exact foldl_finalReply _ (fun x => cancelledReply x .zero) _

theorem answerWaiters_eq (waiters : List Byte) (s : State) :
    answerWaiters waiters s = s.setSl (s.sl.answeredAll (waiters.map cancelDone)) :=
  foldl_finalReply s cancelDone waiters

/-- The current readback cancelled while a record of it is in progress: it keeps the mark and the waiting order. -/
theorem cancelCurrent_inProgress {r : Readback} {tag : Byte} (current : s.sr.current = some r)
    (going : recordInProgress s = true) :
    cancelCurrent [tag] s =
      s.setSr { s.sr with current := some { r with cancel := true, waiters := r.waiters ++ [tag] } } := by
  have marked : withReadback (fun r => { r with waiters := r.waiters ++ [tag] }) s =
      s.setSr { s.sr with current := some { r with waiters := r.waiters ++ [tag] } } := by
    simp only [withReadback, current, Option.map_some]
  have going' : recordInProgress (s.setSr { s.sr with current := some { r with waiters := r.waiters ++ [tag] } }) = true := by
    rw [recordInProgress, current] at going
    exact going
  rw [cancelCurrent, marked]
  simp only [going', if_true]
  rfl

/-- The current readback cancelled with no record in progress: it ends at once, and the waiting orders are answered. -/
theorem cancelCurrent_ends {r : Readback} {tag : Byte} (queue : s.sr.queue = o :: rest) (current : s.sr.current = some r)
    (still : recordInProgress s = false) :
    let e := cancelCurrent [tag] s
    e.sr.queue = rest ∧ e.sr.current = rest.head?.map Readback.begin ∧
      e.sl = s.sl.answeredAll (cancelledReply o r.outcomes :: (r.waiters ++ [tag]).map cancelDone) := by
  intro e
  let marked := s.setSr { s.sr with current := some { r with waiters := r.waiters ++ [tag] } }
  have marks : withReadback (fun r => { r with waiters := r.waiters ++ [tag] }) s = marked := by
    simp only [withReadback, current, Option.map_some]
    rfl
  have still' : recordInProgress marked = false := by
    rw [recordInProgress, current] at still
    exact still
  have ends : e = endReadback true false marked := by
    show cancelCurrent [tag] s = _
    rw [cancelCurrent, marks]
    simp only [still', Bool.false_eq_true, if_false]
  obtain ⟨x, orphaned⟩ := orphanRead_setSr marked
  have answered : e = startReadback (queueLeft rest ((s.setSr x).setSl
      (s.sl.answeredAll (cancelledReply o r.outcomes :: (r.waiters ++ [tag]).map cancelDone)))) := by
    rw [ends, endReadback_eq marked (o := o) (rest := rest) (r := { r with waiters := r.waiters ++ [tag] }) queue rfl, orphaned,
      answerWaiters_eq, ← SL.answeredAll_cons]
    have replied : replyDone o.tag 16 true (readbackBody o r.outcomes) (queueLeft rest (marked.setSr x)) = _ :=
      finalReply_eq (cancelledReply o r.outcomes) (queueLeft rest (marked.setSr x))
    simp only [Bool.false_eq_true, if_false, replied]
    rfl
  rw [answered, startReadback_queueLeft]
  exact ⟨rfl, rfl, rfl⟩

end

/-- Settles O47: by the state of the store, the count, and the tags the queue carries. -/
theorem readbackOrders : Obligations.ReadbackOrders := by
  unfold Obligations.ReadbackOrders
  refine ⟨fun s tag first count ready => ?_, fun s tag target ready => ?_⟩
  · intro refused
    have runs : exec (.readRecords tag first count) s =
        .next (settle (orderReadRecords tag first.toNat count.toNat s)) :=
      exec_carryOut ready rfl (readOrder_orderOf rfl rfl nofun) rfl
    have refused_of : ∀ r, orderReadRecords tag first.toNat count.toNat s = refuse tag 16 r s → refused r := fun r judged =>
      runs.trans (by rw [judged]; rfl)
    refine ⟨fun faulted => refused_of _ ?_, fun unmounted whole => refused_of _ ?_, fun mounted bad => refused_of _ ?_,
      fun mounted low high => ⟨fun full => refused_of _ ?_, fun room => ⟨_, runs, ?_⟩⟩⟩
    · simp only [orderReadRecords, faulted]
    · unfold orderReadRecords
      split
      · next here => exact absurd here unmounted
      · next here => exact absurd here whole
      · rfl
    · have bad' : count.toNat = 0 ∨ 256 < count.toNat := bad.imp_left fun zero => by rw [zero]; rfl
      simp only [orderReadRecords, mounted, if_pos bad']
    · simp only [orderReadRecords, mounted, if_neg (by omega : ¬ (count.toNat = 0 ∨ 256 < count.toNat)), if_pos full]
    · have taken : orderReadRecords tag first.toNat count.toNat s =
          startReadback ((s.setSl (acceptedLink (plainReply tag 16 .accepted .none) s)).setSr
            { s.sr with queue := s.sr.queue ++ [⟨tag, first.toNat, count.toNat⟩] }) := by
        unfold orderReadRecords
        rw [mounted]
        refine (if_neg (by omega)).trans ((if_neg (Nat.not_le.mpr room)).trans ?_)
        rw [accept_eq]
        rfl
      have sr := startReadback_joined (s.setSl (acceptedLink (plainReply tag 16 .accepted .none) s))
        ⟨tag, first.toNat, count.toNat⟩
      have view : readerless (startReadback ((s.setSl (acceptedLink (plainReply tag 16 .accepted .none) s)).setSr
            { s.sr with queue := s.sr.queue ++ [⟨tag, first.toNat, count.toNat⟩] })) = readerless s :=
        (readerless_startReadback _).trans rfl
      obtain ⟨-, -, rq, sw, ia, frame⟩ := fields_of_readerless view
      rw [taken]
      refine ⟨congrArg SR.queue sr, (congrArg SR.current sr).trans ?_, sl_startReadback _, rq, sw, ia, frame⟩
      simp only [State.setSl_sr] <;> rfl
  · intro refused
    have runs : exec (.cancelRead tag target) s = .next (settle (orderCancelRead tag target s)) :=
      exec_carryOut ready rfl (readOrder_orderOf rfl rfl nofun) rfl
    have refused_of : ∀ r, orderCancelRead tag target s = refuse tag 17 r s → refused r := fun r judged =>
      runs.trans (by rw [judged]; rfl)
    refine ⟨fun faulted => refused_of _ ?_, fun unmounted whole => refused_of _ ?_, fun mounted absent => refused_of _ ?_,
      fun o rest mounted queue carried => ?_⟩
    · simp only [orderCancelRead, faulted]
    · unfold orderCancelRead
      split
      · next here => exact absurd here unmounted
      · next here => exact absurd here whole
      · rfl
    · have none : ¬ (s.sr.queue.any fun o => o.tag == target) = true := fun some => by
        obtain ⟨x, here, same⟩ := List.any_eq_true.mp some
        exact absent x here (beq_iff_eq.mp same)
      simp only [orderCancelRead, mounted, if_neg none]
    · intro cancelled gone answered ends
      have some : (s.sr.queue.any fun o => o.tag == target) = true := by
        obtain ⟨x, here, same⟩ := carried
        exact List.any_eq_true.mpr ⟨x, queue ▸ here, beq_iff_eq.mpr same⟩
      let accepted := acceptedLink (plainReply tag 17 .accepted .none) s
      let left := (s.setSl (accepted.answeredAll gone)).setSr
        { s.sr with queue := o :: rest.filter fun x => x.tag != target }
      have queued : cancelQueued target (accept tag 17 s) = left := by
        rw [accept_eq]
        exact cancelQueued_eq (s := s.setSl accepted) (o := o) (rest := rest) queue
      have taken : orderCancelRead tag target s =
          if o.tag = target then cancelCurrent [tag] left else finalReply (ends tag) left := by
        unfold orderCancelRead
        rw [mounted]
        simp only [if_pos some, queued]
        by_cases front : o.tag = target
        · simp [queue, front]
        · simp [queue, front]
          rfl
      have view : readerless (orderCancelRead tag target s) = readerless s := by
        rw [taken]
        split
        · exact (readerless_cancelCurrent _ _).trans rfl
        · exact (readerless_finalReply _ _).trans rfl
      obtain ⟨-, -, rq, sw, ia, frame⟩ := fields_of_readerless view
      have grown : ∀ (e : State) (more : List Reply), e.sl = (accepted.answeredAll gone).answeredAll more → answered e more := by
        intro e more eq up
        have first : accepted.replies = s.sl.replies ++ [plainReply tag 17 .accepted .none] := if_pos up
        rw [eq, SL.answeredAll_replies (accepted.answeredAll gone) _ up, SL.answeredAll_replies accepted _ up, first,
          List.append_assoc, List.append_assoc]
        rfl
      refine ⟨_, runs, rq, sw, ia, frame, fun other => ?_, fun r front current => ⟨fun going => ?_, fun still => ?_⟩⟩
      · rw [taken, if_neg other, finalReply_eq]
        refine ⟨rfl, rfl, grown _ _ ?_⟩
        rw [← SL.answeredAll_cons, SL.answeredAll_nil]
        rfl
      · rw [taken, if_pos front, cancelCurrent_inProgress (s := left) (r := r) current going]
        exact ⟨rfl, rfl, grown _ _ (SL.answeredAll_nil _).symm⟩
      · obtain ⟨left_queue, left_current, sl⟩ := cancelCurrent_ends (s := left) (r := r) (tag := tag) rfl current still
        rw [taken, if_pos front]
        exact ⟨left_queue, left_current.trans (by rw [left_queue]), grown _ _ sl⟩

end Sys2Proof.Machine
end

section
/-! Records handed over one after another while the store is MOUNTED and the queue has room (R136, R137), and START, whose two
records they are (R127). -/

namespace Sys2Proof.Machine

/-! ## Records that enter one after another -/

/-- The queue of a later state: the entries that stood in an earlier one, those with both marks perhaps gone, and behind them
new ones that are not stored. -/
structure Behind (old new l : List Entry) : Prop where
  stand : l = old ++ new ∨ l = (old.filter fun e => !e.leaves) ++ new
  unstored : ∀ x ∈ new, x.stored = false

/-- Between two states the records of some bodies have been numbered from `n` on and have entered in this order. -/
structure Queued (s t : State) (n : Nat) (bodies : List RecordBody) : Prop where
  store : t.sr.state = s.sr.state
  campaign : t.ia.number = s.ia.number
  loss : t.rq.campaignLoss = s.rq.campaignLoss
  next : t.rq.next = .number (n + bodies.length)
  entries : ∃ new, Behind s.rq.entries new t.rq.entries ∧ new.map (fun x => x.record.body) = bodies ∧
    new.map (fun x => x.record.sequence) = List.range' n new.length ∧ ∀ x ∈ new, x.record.campaign = s.ia.number

section
variable {s t u : State} {n : Nat} {bodies : List RecordBody}

theorem Behind.length_le {old new l : List Entry} (h : Behind old new l) : l.length ≤ old.length + new.length := by
  rcases h.stand with rfl | rfl
  · simp
  · have := List.length_filter_le (fun e : Entry => !e.leaves) old
    simp only [List.length_append]
    omega

/-- With no entry that has both marks, all stand. -/
theorem Behind.all_stand {old new l : List Entry} (h : Behind old new l)
    (marks : ∀ x ∈ old, x.stored = false ∨ x.emitted = false) : l = old ++ new := by
  rcases h.stand with rfl | rfl
  · rfl
  · rw [List.filter_eq_self.mpr]
    intro x member
    rcases marks x member with mark | mark <;> simp [Entry.leaves, mark]

/-- The entries with both marks leave, and one more enters. -/
theorem Behind.snoc {old new l : List Entry} (h : Behind old new l) {x : Entry} (unstored : x.stored = false) :
    Behind old (new ++ [x]) ((l ++ [x]).filter fun e => !e.leaves) := by
  have stays : ∀ y ∈ new ++ [x], y.stored = false := by
    intro y member
    rcases List.mem_append.mp member with member | member
    · exact h.unstored y member
    · rw [List.mem_singleton.mp member]
      exact unstored
  have kept : (new ++ [x]).filter (fun e => !e.leaves) = new ++ [x] :=
    List.filter_eq_self.mpr fun y member => by simp [Entry.leaves, stays y member]
  refine ⟨.inr ?_, stays⟩
  rcases h.stand with rfl | rfl
  · rw [List.append_assoc, List.filter_append, kept]
  · rw [List.append_assoc, List.filter_append, kept, List.filter_filter]
    simp

theorem Queued.nil (next : s.rq.next = .number n) : Queued s s n [] :=
  ⟨rfl, rfl, rfl, next, [], ⟨.inl (List.append_nil _).symm, by simp⟩, rfl, rfl, by simp⟩

/-- What touches neither the queue nor the store state nor the campaign number adds no record. -/
theorem Queued.frame (h : Queued s t n bodies) (rq : u.rq = t.rq) (store : u.sr.state = t.sr.state)
    (campaign : u.ia.number = t.ia.number) : Queued s u n bodies := by
  refine ⟨store.trans h.store, campaign.trans h.campaign, by rw [rq]; exact h.loss, by rw [rq]; exact h.next, ?_⟩
  rw [rq]
  exact h.entries

/-- The room that is left. -/
theorem Queued.length_le (h : Queued s t n bodies) : t.rq.entries.length ≤ s.rq.entries.length + bodies.length := by
  obtain ⟨new, stand, rfl, -⟩ := h.entries
  simpa using stand.length_le

/-- A queue of fewer than 15 entries has a slot for every record. -/
theorem hasSlot_of_length {entries : List Entry} (room : entries.length < 15) (isEnd : Bool) :
    hasSlot isEnd entries = true := by
  have := List.length_filter_le (fun e : Entry => !e.record.body.isEnd) entries
  exact (hasSlot_iff _ _).mpr ⟨by omega, .inr (by omega)⟩

/-- A record handed over takes the next number and a slot (R136, R137). -/
theorem Queued.enters (h : Queued s t n bodies) (mounted : s.sr.state = .mounted)
    (room : s.rq.entries.length + bodies.length < 15) (numbers : n + bodies.length < 4294967295) (body : RecordBody) :
    (handRecord body t).1 = .entered (n + bodies.length) ∧ (handRecord body t).2.sl = t.sl ∧
      Queued s (handRecord body t).2 n (bodies ++ [body]) := by
  have store : t.sr.state = .mounted := h.store.trans mounted
  have slot := hasSlot_of_length (h.length_le.trans_lt room) body.isEnd
  rw [handRecord_entered (recordNumber_of (.inl store) h.next) slot]
  have view := (recordless_sweep (t.setRq { t.rq.numbered (n + bodies.length) body with
    entries := t.rq.entries ++ [newEntry (t.setRq (t.rq.numbered (n + bodies.length) body))
      (formRecord t (n + bodies.length) body)] })).trans (recordless_setRq t _)
  have sr := congrArg State.sr view
  have ia := congrArg State.ia view
  refine ⟨rfl, sl_sweep _, ⟨(congrArg SR.state sr).trans h.store, (congrArg IA.number ia).trans h.campaign, ?_, ?_, ?_⟩⟩
  · rw [rq_sweep]
    exact h.loss
  · rw [rq_sweep]
    simp [RQ.numbered, nextAfter, numbers, Nat.add_assoc]
  · obtain ⟨new, stand, bodiesOf, sequences, campaigns⟩ := h.entries
    have length : new.length = bodies.length := by rw [← bodiesOf, List.length_map]
    rw [rq_sweep]
    refine ⟨_, stand.snoc (by simp [newEntry, store]), ?_, ?_, ?_⟩
    · simp [bodiesOf, newEntry, formRecord]
    · rw [List.map_append, sequences, List.length_append, List.length_singleton, ← List.range'_append_1, length]
      rfl
    · intro x member
      rcases List.mem_append.mp member with member | member
      · exact campaigns x member
      · rw [List.mem_singleton.mp member]
        exact h.campaign

theorem Queued.hand (h : Queued s t n bodies) (mounted : s.sr.state = .mounted)
    (room : s.rq.entries.length + bodies.length < 15) (numbers : n + bodies.length < 4294967295) (body : RecordBody) :
    Queued s (handRecord body t).2 n (bodies ++ [body]) :=
  let ⟨_, _, queued⟩ := h.enters mounted room numbers body
  queued

/-- Each body that has entered stands in the queue under its number. -/
theorem Queued.mem (h : Queued s t n bodies) {i : Nat} {body : RecordBody} (at' : bodies[i]? = some body) :
    ∃ x ∈ t.rq.entries, x.record.sequence = n + i ∧ x.record.campaign = s.ia.number ∧ x.record.body = body := by
  obtain ⟨new, stand, rfl, sequences, campaigns⟩ := h.entries
  rw [List.getElem?_map, Option.map_eq_some_iff] at at'
  obtain ⟨x, at', rfl⟩ := at'
  have member := List.mem_of_getElem? at'
  refine ⟨x, ?_, ?_, campaigns x member, rfl⟩
  · rcases stand.stand with eq | eq <;> exact eq ▸ List.mem_append_right _ member
  · have number := congrArg (fun l => l[i]?) sequences
    obtain ⟨bound, rfl⟩ := List.getElem?_eq_some_iff.mp at'
    simpa [bound] using number

end

/-! ## START (R127, R128) -/

/-- The state that a START leaves before its records (R127). -/
def numberedStart (s : State) : State :=
  let t := clearGrids (s.setIa { s.ia with number := nextCampaign s.ia.number, summary := .zero })
  t.setRq { t.rq with campaignLoss := 0 }

/-- The state with the two records of a START queued. -/
def recordedStart (s : State) : State :=
  settingsRecord .start 0 (handRecord (.campaignStart (startBody (numberedStart s))) (numberedStart s)).2

/-- The state in ARMING that a START puts to the test of R128. -/
def armed (t : State) : State := t.setIa { t.ia with state := .arming, armTimer := 0 }

theorem beginCampaign_eq (s : State) : beginCampaign s = readyTest (armed (recordedStart s)) := rfl

theorem recordless_recordedStart (s : State) : recordless (recordedStart s) = recordless (numberedStart s) := by
  simp [recordedStart]

/-- The blocks that the record queue leaves whole. -/
theorem blocks_of_recordless {s t : State} (h : recordless t = recordless s) :
    t.lr = s.lr ∧ t.mm = s.mm ∧ t.cc = s.cc ∧ t.ct = s.ct ∧ t.mu = s.mu ∧ t.ed = s.ed ∧ t.tb = s.tb ∧ t.sr = s.sr ∧
      t.mb = s.mb ∧ t.ia = s.ia := by
  have lr := congrArg State.lr h
  have mm := congrArg State.mm h
  have cc := congrArg State.cc h
  have ct := congrArg State.ct h
  have mu := congrArg State.mu h
  have ed := congrArg State.ed h
  have tb := congrArg State.tb h
  have sr := congrArg State.sr h
  have mb := congrArg State.mb h
  have ia := congrArg State.ia h
  exact ⟨lr, mm, cc, ct, mu, ed, tb, sr, mb, ia⟩

/-- What a START leaves before its records. -/
theorem blocks_numberedStart (s : State) :
    (numberedStart s).lr = s.lr ∧ (numberedStart s).mm = s.mm ∧ (numberedStart s).cc = s.cc ∧ (numberedStart s).ct = s.ct ∧
      (numberedStart s).tb = s.tb ∧ (numberedStart s).sr = s.sr ∧ (numberedStart s).mb = s.mb := by
  simp [numberedStart, clearGrids]

/-- The readiness test looks at the channel table, the modules and the tracker (R128). -/
theorem campaignReady_congr {s t : State} (cc : t.cc = s.cc) (mm : t.mm = s.mm) (ct : t.ct = s.ct) :
    campaignReady t = campaignReady s := by
  simp only [campaignReady, voltageModulesReady, channelQualified, cc, mm, ct]

/-- The two records of a START are numbered in turn (R127). -/
theorem queued_recordedStart {s : State} {n : Nat} (mounted : s.sr.state = .mounted) (next : s.rq.next = .number n)
    (numbers : n < 4294967294) (room : s.rq.entries.length < 14) :
    ∃ b, b.cause = .start ∧ (recordedStart s).sl = s.sl ∧
      Queued (numberedStart s) (recordedStart s) n [.campaignStart (startBody (numberedStart s)), .settings b] := by
  have nothing : Queued (numberedStart s) (numberedStart s) n [] := .nil next
  obtain ⟨-, firstSl, first⟩ := nothing.enters mounted (by simp [numberedStart, clearGrids]; omega) (by simp; omega)
    (.campaignStart (startBody (numberedStart s)))
  obtain ⟨-, secondSl, second⟩ := first.enters mounted (by simp [numberedStart, clearGrids]; omega) (by simp; omega) _
  exact ⟨_, rfl, secondSl.trans firstSl, second⟩

/-- A START taken goes to RUNNING at once when the campaign is ready, and to ARMING otherwise (R127, R128). -/
theorem readyTest_arming {t : State} (arming : t.ia.state = .arming) :
    readyTest t = if campaignReady t then enterRunning t else t := by
  simp [readyTest, arming]

/-- What the readiness test leaves (R128). -/
theorem blocks_readyTest (s : State) :
    (readyTest s).lr = s.lr ∧ (readyTest s).mm = s.mm ∧ (readyTest s).cc = s.cc ∧ (readyTest s).ct = s.ct ∧
      (readyTest s).ed = s.ed ∧ (readyTest s).tb = s.tb ∧ (readyTest s).sr = s.sr ∧ (readyTest s).mb = s.mb := by
  unfold readyTest
  split
  · exact ⟨rfl, rfl, rfl, rfl, rfl, rfl, rfl, rfl⟩
  · exact ⟨rfl, rfl, rfl, rfl, rfl, rfl, rfl, rfl⟩

theorem blocks_beginCampaign (s : State) :
    (beginCampaign s).lr = (recordedStart s).lr ∧ (beginCampaign s).mm = (recordedStart s).mm ∧
      (beginCampaign s).cc = (recordedStart s).cc ∧ (beginCampaign s).ct = (recordedStart s).ct ∧
      (beginCampaign s).ed = (recordedStart s).ed ∧ (beginCampaign s).tb = (recordedStart s).tb ∧
      (beginCampaign s).sr = (recordedStart s).sr ∧ (beginCampaign s).mb = (recordedStart s).mb := by
  rw [beginCampaign_eq]
  exact blocks_readyTest (armed (recordedStart s))

@[simp] theorem rq_readyTest (s : State) : (readyTest s).rq = s.rq := by
  unfold readyTest
  split <;> rfl

@[simp] theorem sl_readyTest (s : State) : (readyTest s).sl = s.sl := by
  unfold readyTest
  split <;> rfl

/-- The campaign after the test of R128 in ARMING. -/
theorem ia_readyTest {t : State} (arming : t.ia.state = .arming) :
    (readyTest t).ia.number = t.ia.number ∧ (readyTest t).ia.summary = t.ia.summary ∧
      (readyTest t).ia.armTimer = t.ia.armTimer ∧
      (if campaignReady t then (readyTest t).ia.state = .running ∧ (readyTest t).ia.interval.isSome = true
        else (readyTest t).ia.state = .arming) := by
  rw [readyTest_arming arming]
  split
  · exact ⟨rfl, rfl, rfl, rfl, rfl⟩
  · exact ⟨rfl, rfl, rfl, arming⟩

/-- Settles O39: what is refused is `startAllowed`, and the two records of a START taken enter one after the other. -/
theorem startEntersArming : Obligations.StartEntersArming := by
  unfold Obligations.StartEntersArming
  intro s tag ready
  have runs : exec (.start tag) s = .next (settle (orderStart tag s)) :=
    exec_carryOut ready rfl (readOrder_orderOf rfl rfl nofun) rfl
  refine ⟨fun refused => ?_, fun n stopped mounted next numbers room => ?_⟩
  · have notAllowed : startAllowed s = false := by
      rcases refused with no | no | no <;> simp [startAllowed, no]
    rw [runs, orderStart, notAllowed]
    rfl
  · have allowed : startAllowed s = true := by simp [startAllowed, stopped, mounted, next]
    obtain ⟨b, cause, recordedSl, queued⟩ := queued_recordedStart mounted next numbers room
    have view := recordless_recordedStart s
    obtain ⟨lr, mm, cc, ct, -, ed, tb, sr, mb, -⟩ := blocks_of_recordless view
    obtain ⟨lr', mm', cc', ct', tb', sr', mb'⟩ := blocks_numberedStart s
    have iaEq : (recordedStart s).ia = (numberedStart s).ia := ia_of_recordless view
    obtain ⟨number, summary, timer, state⟩ := ia_readyTest (t := armed (recordedStart s)) rfl
    rw [← beginCampaign_eq] at number summary timer state
    have number : (beginCampaign s).ia.number = nextCampaign s.ia.number := number.trans (congrArg IA.number iaEq)
    have summary : (beginCampaign s).ia.summary = .zero := summary.trans (congrArg IA.summary iaEq)
    have isReady : campaignReady (armed (recordedStart s)) = campaignReady s := by
      have same : campaignReady (recordedStart s) = campaignReady s :=
        campaignReady_congr (cc.trans cc') (mm.trans mm') (ct.trans ct')
      exact same
    rw [isReady] at state
    have rq : (beginCampaign s).rq = (recordedStart s).rq := by
      rw [beginCampaign_eq, rq_readyTest]
      rfl
    have sl : (beginCampaign s).sl = (recordedStart s).sl := by
      rw [beginCampaign_eq, sl_readyTest]
      rfl
    obtain ⟨lr₂, mm₂, cc₂, ct₂, ed₂, tb₂, sr₂, mb₂⟩ := blocks_beginCampaign s
    refine ⟨beginCampaign s, by rw [runs, orderStart, allowed]; rfl, number, summary,
      congrArg ED.dipCells (ed₂.trans ed), congrArg ED.swellCells (ed₂.trans ed), by rw [rq]; exact queued.loss,
      by rw [rq]; exact queued.next, ?_, ?_, timer, state, ?_⟩
    · obtain ⟨x, member, sequence, campaign, body⟩ := queued.mem (i := 0) rfl
      exact ⟨x, by rw [rq]; exact member, sequence, campaign.trans number.symm, body⟩
    · obtain ⟨x, member, sequence, -, body⟩ := queued.mem (i := 1) rfl
      exact ⟨x, by rw [rq]; exact member, sequence, b, body, cause⟩
    · exact ⟨lr₂.trans (lr.trans lr'), mm₂.trans (mm.trans mm'), cc₂.trans (cc.trans cc'), ct₂.trans (ct.trans ct'),
        tb₂.trans (tb.trans tb'), sr₂.trans (sr.trans sr'), mb₂.trans (mb.trans mb'), sl.trans recordedSl⟩

end Sys2Proof.Machine
end

section
/-! What the end of a campaign leaves and what it ends (R130, R132): the blocks that stand by, the events and the window, the
Capture Unit. -/

namespace Sys2Proof.Machine

/-! ## What stands by -/

/-- The blocks that no record, no close of an event or a capture, and no application of the pending set touches. -/
def bystanders (s : State) := (s.lr, s.mm, s.ct, s.tb, s.mb, s.mu.counter)

/-- The Magnitude Unit, the open events and the grids. -/
def eventView (s : State) := (s.mu, s.ed.dip, s.ed.swell, s.ed.dipCells, s.ed.swellCells)

theorem bystanders_of_recordless {s t : State} (h : recordless t = recordless s) : bystanders t = bystanders s := by
  obtain ⟨lr, mm, -, ct, mu, -, tb, -, mb, -⟩ := blocks_of_recordless h
  simp only [bystanders, lr, mm, ct, mu, tb, mb]

theorem eventView_of_recordless {s t : State} (h : recordless t = recordless s) : eventView t = eventView s := by
  obtain ⟨-, -, -, -, mu, ed, -⟩ := blocks_of_recordless h
  simp only [eventView, mu, ed]

section
variable (s : State)

@[simp] theorem bystanders_handRecord (body : RecordBody) : bystanders (handRecord body s).2 = bystanders s :=
  bystanders_of_recordless (recordless_handRecord s body)

@[simp] theorem eventView_handRecord (body : RecordBody) : eventView (handRecord body s).2 = eventView s :=
  eventView_of_recordless (recordless_handRecord s body)

theorem standing_applyPending (cause : SettingsCause) :
    bystanders (applyPending cause s) = bystanders s ∧ eventView (applyPending cause s) = eventView s := by
  unfold applyPending
  split
  · exact ⟨rfl, rfl⟩
  · have settled := recordless_settingsRecord (placePending s) cause (pendingMask s)
    exact ⟨(bystanders_of_recordless settled).trans rfl, (eventView_of_recordless settled).trans rfl⟩

theorem ia_applyPending (cause : SettingsCause) : (applyPending cause s).ia = s.ia := by
  unfold applyPending
  split
  · rfl
  · exact (ia_of_recordless (recordless_settingsRecord (placePending s) cause (pendingMask s))).trans rfl

theorem standing_applyUnlessHold (cause : SettingsCause) :
    bystanders (applyUnlessHold cause s) = bystanders s ∧ eventView (applyUnlessHold cause s) = eventView s ∧
      (applyUnlessHold cause s).ia = s.ia := by
  unfold applyUnlessHold
  split
  · exact ⟨rfl, rfl, rfl⟩
  · obtain ⟨stand, events⟩ := standing_applyPending s cause
    exact ⟨stand, events, ia_applyPending s cause⟩

theorem standing_closeInterval (stop : Stamp) (ended early : Bool) :
    bystanders (closeInterval stop ended early s) = bystanders s ∧
      eventView (closeInterval stop ended early s) = eventView s ∧
      (closeInterval stop ended early s).ia.interval = none := by
  unfold closeInterval
  split
  · next none => exact ⟨rfl, rfl, none⟩
  · next x _ =>
    have handed := recordless_handRecord s (.interval (intervalBody s x stop ended early))
    have stand := bystanders_of_recordless handed
    have events := eventView_of_recordless handed
    exact ⟨stand, events, rfl⟩

theorem bystanders_countGrid (swell : Bool) (cell : Option (Nat × Nat)) :
    bystanders (countGrid swell cell s) = bystanders s := by
  unfold countGrid
  repeat' split
  all_goals rfl

theorem bystanders_closeEvent (e : OpenEvent) (cause : CloseCause) (b : Boundary) (stamp : Stamp) :
    bystanders (closeEvent e cause b stamp s) = bystanders s := by
  have handed := fun swell cell body =>
    (bystanders_handRecord (countGrid swell cell s) body).trans (bystanders_countGrid s swell cell)
  unfold closeEvent
  dsimp only
  split
  · exact handed _ _ _
  · exact handed _ _ _

/-- A forced close is that of the dip-family event, then that of the swell event (R88, R90). -/
def closeOpen (cause : CloseCause) (b : Boundary) (stamp : Stamp) (o : Option OpenEvent) (s : State) : State :=
  match o with
  | some e => closeEvent e cause b stamp s
  | none => s

theorem forceClose_at {b : Boundary} {stamp : Stamp} (last : s.ed.lastBoundary = some (b, stamp)) (cause : CloseCause) :
    forceClose cause s =
      closeOpen cause b stamp (closeOpen cause b stamp s.ed.dip s).ed.swell (closeOpen cause b stamp s.ed.dip s) := by
  simp only [forceClose, last]
  rfl

theorem forceClose_none (last : s.ed.lastBoundary = none) (cause : CloseCause) : forceClose cause s = s := by
  simp only [forceClose, last]

theorem bystanders_forceClose (cause : CloseCause) : bystanders (forceClose cause s) = bystanders s := by
  have one : ∀ (b : Boundary) (stamp : Stamp) (o : Option OpenEvent) (t : State),
      bystanders (closeOpen cause b stamp o t) = bystanders t := by
    intro b stamp o t
    cases o with
    | none => rfl
    | some e => exact bystanders_closeEvent t e cause b stamp
  cases last : s.ed.lastBoundary with
  | none => rw [forceClose_none s last]
  | some at' => rw [forceClose_at s last, one, one]

theorem standing_releaseCapture :
    bystanders (releaseCapture s) = bystanders s ∧ eventView (releaseCapture s) = eventView s :=
  ⟨bystanders_of_recordless (recordless_releaseCapture s), eventView_of_recordless (recordless_releaseCapture s)⟩

theorem standing_closeCapture (truncated cut : Bool) :
    bystanders (closeCapture truncated cut s) = bystanders s ∧ eventView (closeCapture truncated cut s) = eventView s := by
  have handed : ∀ (x : CU) (body : RecordBody), recordless (handRecord body (s.setCu x)).2 = recordless s :=
    fun x body => recordless_handRecord (s.setCu x) body
  unfold closeCapture
  split
  · exact ⟨rfl, rfl⟩
  · dsimp only
    generalize eq : handRecord _ _ = r
    have handed := eq ▸ handed _ _
    obtain ⟨stand, events⟩ := standing_releaseCapture r.2
    split
    · exact ⟨bystanders_of_recordless handed, eventView_of_recordless handed⟩
    · exact ⟨stand.trans (bystanders_of_recordless handed), events.trans (eventView_of_recordless handed)⟩

theorem standing_stopCapture :
    bystanders (stopCapture s) = bystanders s ∧ eventView (stopCapture s) = eventView s := by
  unfold stopCapture
  split
  · exact ⟨rfl, rfl⟩
  · exact ⟨rfl, rfl⟩
  · exact standing_closeCapture s _ _
  · exact ⟨rfl, rfl⟩

theorem standing_applyPendingCal :
    bystanders (applyPendingCal s) = bystanders s ∧ eventView (applyPendingCal s) = eventView s := by
  constructor
  · refine foldl_view _ (fun u m => ?_) _
    split <;> rfl
  · refine foldl_view _ (fun u m => ?_) _
    split <;> rfl

end

/-! ## The Capture Unit -/

/-- The Capture Unit stands, or collects nothing in the later state: what a departure of its record can do (R108). -/
def CaptureStands (s t : State) : Prop := t.cu = s.cu ∨ t.cu.state ≠ .collecting

section
variable {s t u : State}

theorem CaptureStands.trans (h : CaptureStands s t) (g : CaptureStands t u) : CaptureStands s u := by
  rcases g with same | gone
  · rcases h with h | h
    · exact .inl (same.trans h)
    · exact .inr (by rw [same]; exact h)
  · exact .inr gone

theorem CaptureStands.held (h : CaptureStands s t) (held : s.cu.state = .collecting → s.cu.hand.isSome = true) :
    t.cu.state = .collecting → t.cu.hand.isSome = true := by
  rcases h with same | gone
  · rwa [same]
  · exact fun collecting => absurd collecting gone

theorem CaptureStands.uncollecting (h : CaptureStands s t) (none : s.cu.state ≠ .collecting) : t.cu.state ≠ .collecting := by
  rcases h with same | gone
  · rwa [same]
  · exact gone

/-- Released memory is not collected into (R108). -/
theorem state_releaseCapture (s : State) : (releaseCapture s).cu.state ≠ .collecting := by
  unfold releaseCapture
  split <;> exact nofun

theorem captureStands_departed (s : State) (e : Entry) : CaptureStands s (departed s e) := by
  unfold departed
  dsimp only
  split
  · exact .inr (state_releaseCapture _)
  · split <;> exact .inl rfl

theorem captureStands_sweep (s : State) : CaptureStands s (sweep s) :=
  foldl_keeps (P := CaptureStands s) (fun e _ u h => h.trans (captureStands_departed u e)) (.inl rfl)

theorem captureStands_handRecord (body : RecordBody) (s : State) : CaptureStands s (handRecord body s).2 := by
  cases number : recordNumber s with
  | none =>
    rw [handRecord_notCreated number]
    exact .inl rfl
  | some n =>
    by_cases slot : hasSlot body.isEnd s.rq.entries = true
    · rw [handRecord_entered number slot]
      exact captureStands_sweep _
    · rw [handRecord_lost number slot]
      exact .inl rfl

theorem captureStands_closeEvent (e : OpenEvent) (cause : CloseCause) (b : Boundary) (stamp : Stamp) (s : State) :
    CaptureStands s (closeEvent e cause b stamp s) := by
  have counted : ∀ swell cell, CaptureStands s (countGrid swell cell s) := fun swell cell => by
    unfold countGrid
    repeat' split
    all_goals exact .inl rfl
  have handed := fun swell cell body => (counted swell cell).trans (captureStands_handRecord body (countGrid swell cell s))
  unfold closeEvent
  dsimp only
  split <;> exact handed _ _ _

theorem captureStands_forceClose (cause : CloseCause) (s : State) : CaptureStands s (forceClose cause s) := by
  have one : ∀ (b : Boundary) (stamp : Stamp) (o : Option OpenEvent) (t : State),
      CaptureStands t (closeOpen cause b stamp o t) := by
    intro b stamp o t
    cases o with
    | none => exact .inl rfl
    | some e => exact captureStands_closeEvent e cause b stamp t
  cases last : s.ed.lastBoundary with
  | none => exact .inl (by rw [forceClose_none s last])
  | some at' =>
    rw [forceClose_at s last]
    exact (one _ _ _ _).trans (one _ _ _ _)

theorem captureStands_applyPending (cause : SettingsCause) (s : State) : CaptureStands s (applyPending cause s) := by
  unfold applyPending
  split
  · exact .inl rfl
  · exact captureStands_handRecord _ (placePending s)

theorem captureStands_applyUnlessHold (cause : SettingsCause) (s : State) :
    CaptureStands s (applyUnlessHold cause s) := by
  unfold applyUnlessHold
  split
  · exact .inl rfl
  · exact captureStands_applyPending cause s

theorem captureStands_closeInterval (stop : Stamp) (ended early : Bool) (s : State) :
    CaptureStands s (closeInterval stop ended early s) := by
  unfold closeInterval
  split
  · exact .inl rfl
  · next x _ => exact captureStands_handRecord (.interval (intervalBody s x stop ended early)) s

/-- A close with a capture in hand ends the collecting (R107). -/
theorem state_closeCapture {s : State} (held : s.cu.hand.isSome = true) (truncated cut : Bool) :
    (closeCapture truncated cut s).cu.state ≠ .collecting := by
  obtain ⟨h, hand⟩ := Option.isSome_iff_exists.mp held
  simp only [closeCapture, hand]
  generalize eq : handRecord _ _ = r
  have handed := eq ▸ captureStands_handRecord _ _
  split
  · exact handed.uncollecting nofun
  · exact state_releaseCapture _

/-- A STOP or a RESTART leaves no capture being collected (R109, R110). -/
theorem state_stopCapture {s : State} (held : s.cu.state = .collecting → s.cu.hand.isSome = true) :
    (stopCapture s).cu.state ≠ .collecting := by
  unfold stopCapture
  split
  · exact nofun
  · exact nofun
  · next collecting => exact state_closeCapture (held collecting) _ _
  · next waiting => rw [waiting]; exact nofun

theorem cu_applyPendingCal (s : State) : (applyPendingCal s).cu = s.cu := by
  refine foldl_view (view := State.cu) _ (fun u m => ?_) _
  split <;> rfl

end

end Sys2Proof.Machine
end

section
/-! The records of the end of a campaign, in their order (R130, R132), and STOP. -/

namespace Sys2Proof.Machine

/-! ## The records of each part -/

/-- The store is MOUNTED, and there is room and a number for one record more than `k`. -/
structure RecordRoom (s : State) (n k : Nat) : Prop where
  mounted : s.sr.state = .mounted
  slots : s.rq.entries.length + k < 15
  numbers : n + k < 4294967295

theorem RecordRoom.mono {s : State} {n k j : Nat} (h : RecordRoom s n k) (le : j ≤ k) : RecordRoom s n j :=
  ⟨h.mounted, by have := h.slots; omega, by have := h.numbers; omega⟩

/-- The EVENT record of an event that a STOP or a RESTART closes at the last boundary (R88, R90). -/
def closedBody (cause : CloseCause) (b : Boundary) (stamp : Stamp) (s : State) (e : OpenEvent) : RecordBody :=
  .event (eventBody s (e.closeSub b.position) cause b stamp)

/-- The CAPTURE record of a capture (R107). -/
def captureBody (h : Capture) : CaptureBody :=
  { truncated := h.truncated, cut := h.cut, channels := h.channels, decim := h.decim, firstStrobe := firstStrobe h,
    prePoints := h.prePoints, postPoints := h.points.length - h.prePoints, postEnd := h.postEnd,
    startStrobe := h.startStrobe, startStamp := h.startStamp, triggers := h.triggers, overflow := h.overflow }

/-- The SETTINGS record of an application (R193). -/
def settingsBodyOf (cause : SettingsCause) (applied : BitVec 8) (s : State) : RecordBody :=
  let x := s.sl.settings
  .settings
    { cause := cause, applied := applied, intervalSeconds := x.intervalSeconds, activeProfile := x.activeProfile,
      attribThreshold := x.attribThreshold, attribFloor := x.attribFloor, profile := s.ed.limits.get x.activeProfile }

/-- What an application of the pending set records (R193). -/
def appliedBodies (cause : SettingsCause) (s : State) : List RecordBody :=
  if pendingMask s = 0 then [] else [settingsBodyOf cause (pendingMask s) (placePending s)]

/-- What a STOP or a RESTART records of a capture (R109, R110). -/
def cutBodies (s : State) : List RecordBody :=
  match s.cu.state, s.cu.hand with
  | .collecting, some h => [.capture (captureBody { h with truncated := false, cut := true })]
  | _, _ => []

theorem length_appliedBodies (cause : SettingsCause) (s : State) : (appliedBodies cause s).length ≤ 1 := by
  unfold appliedBodies
  split
  · exact Nat.zero_le 1
  · exact Nat.le_refl 1

theorem length_cutBodies (s : State) : (cutBodies s).length ≤ 1 := by
  unfold cutBodies
  split
  · exact Nat.le_refl 1
  · exact Nat.zero_le 1

section
variable {s t : State} {n : Nat} {l : List RecordBody}

theorem Queued.handed (h : Queued s t n l) (room : RecordRoom s n l.length) (body : RecordBody) :
    Queued s (handRecord body t).2 n (l ++ [body]) := h.hand room.mounted room.slots room.numbers body

theorem Queued.closeEvent (h : Queued s t n l) (room : RecordRoom s n l.length) (cause : CloseCause) (b : Boundary)
    (stamp : Stamp) (e : OpenEvent) :
    Queued s (closeEvent e cause b stamp t) n (l ++ [closedBody cause b stamp t e]) := by
  have counted : ∀ swell cell, Queued s (countGrid swell cell t) n l := fun swell cell => by
    unfold countGrid
    repeat' split
    all_goals exact h.frame rfl rfl rfl
  have handed := fun swell cell => (counted swell cell).handed room (closedBody cause b stamp t e)
  unfold Machine.closeEvent
  dsimp only
  split
  · exact (handed _ _).frame rfl rfl rfl
  · exact (handed _ _).frame rfl rfl rfl

theorem Queued.closeOpen (h : Queued s t n l) (room : RecordRoom s n l.length) (cause : CloseCause) (b : Boundary)
    (stamp : Stamp) (o : Option OpenEvent) :
    Queued s (closeOpen cause b stamp o t) n (l ++ (o.map (closedBody cause b stamp t)).toList) := by
  cases o with
  | none => exact (List.append_nil l).symm ▸ h
  | some e => exact h.closeEvent room cause b stamp e

theorem Queued.closeCapture (h : Queued s t n l) (room : RecordRoom s n l.length) {c : Capture} (hand : t.cu.hand = some c)
    (truncated cut : Bool) :
    Queued s (closeCapture truncated cut t) n
      (l ++ [.capture (captureBody { c with truncated := truncated, cut := cut })]) := by
  simp only [Machine.closeCapture, hand]
  have entered := Queued.enters
    (h.frame (u := t.setCu { t.cu with state := .waiting, hand := some { c with truncated := truncated, cut := cut } })
      rfl rfl rfl) room.mounted room.slots room.numbers (.capture (captureBody { c with truncated := truncated, cut := cut }))
  obtain ⟨result, -, queued⟩ := entered
  generalize eq : handRecord _ _ = r
  have result := eq ▸ result
  have queued := eq ▸ queued
  obtain ⟨outcome, u⟩ := r
  obtain rfl : outcome = _ := result
  exact queued

theorem Queued.stopCapture (h : Queued s t n l) (room : RecordRoom s n l.length) :
    Queued s (stopCapture t) n (l ++ cutBodies t) := by
  unfold Machine.stopCapture
  split
  · next state =>
    have nothing : cutBodies t = [] := by simp [cutBodies, state]
    rw [nothing, List.append_nil]
    exact h.frame rfl rfl rfl
  · next state =>
    have nothing : cutBodies t = [] := by simp [cutBodies, state]
    rw [nothing, List.append_nil]
    exact h.frame rfl rfl rfl
  · next state =>
    cases hand : t.cu.hand with
    | none => simpa [cutBodies, state, hand, Machine.closeCapture] using h
    | some c => simpa [cutBodies, state, hand] using h.closeCapture room hand false true
  · next state => simpa [cutBodies, state] using h

theorem Queued.closeInterval (h : Queued s t n l) (room : RecordRoom s n l.length) (stop : Stamp) (ended early : Bool) :
    Queued s (closeInterval stop ended early t) n
      (l ++ (t.ia.interval.map fun x => .interval (intervalBody t x stop ended early)).toList) := by
  unfold Machine.closeInterval
  split
  · next none => simpa [none] using h
  · next x interval =>
    rw [interval]
    exact (h.handed room (.interval (intervalBody t x stop ended early))).frame rfl rfl rfl

theorem Queued.applyPending (h : Queued s t n l) (room : RecordRoom s n l.length) (cause : SettingsCause) :
    Queued s (applyPending cause t) n (l ++ appliedBodies cause t) := by
  unfold Machine.applyPending appliedBodies
  split
  · simpa using h
  · exact (h.frame (u := placePending t) rfl rfl rfl).handed room (settingsBodyOf cause (pendingMask t) (placePending t))

theorem Queued.applyUnlessHold (h : Queued s t n l) (room : RecordRoom s n l.length) (cause : SettingsCause) :
    Queued s (applyUnlessHold cause t) n (l ++ if t.sl.settings.hold then [] else appliedBodies cause t) := by
  unfold Machine.applyUnlessHold
  split
  · simpa using h
  · exact h.applyPending room cause

theorem Queued.applyPendingCal (h : Queued s t n l) : Queued s (applyPendingCal t) n l := by
  refine foldl_keeps (P := fun u => Queued s u n l) (fun m _ u h => ?_) h
  split <;> exact h.frame rfl rfl rfl

end

end Sys2Proof.Machine
end

section
/-! What a campaign's end leaves behind (R130, R132): no open event, no window, no collecting, no interval; and STOP. -/

namespace Sys2Proof.Machine

/-! ## The steps of the end -/

/-- Steps 1 to 3: the events are closed, the capture is cut, the window is abandoned (R130). -/
def abandoned (restart : Bool) (s : State) : State :=
  applyPendingCal (abandonWindow (stopCapture (forceClose (endCauses restart).1 s)))

/-- Step 4: in RUNNING the interval is closed, and the pending set applied unless HOLD is on (R130). -/
def worked (restart running : Bool) (s : State) : State :=
  if running then
    applyUnlessHold (endCauses restart).2
      (closeInterval (nowStamp (abandoned restart s)) true false (abandoned restart s))
  else abandoned restart s

theorem campaignEnds_eq (restart running : Bool) (s : State) :
    campaignEnds restart running s =
      handRecord (.campaignEnd (endBody restart (worked restart running s))) (worked restart running s) := rfl

section
variable (s : State)

/-! ## What is over -/

/-- A close clears the machine of its class, and leaves the other (R81, R93). -/
theorem ed_closeEvent (e : OpenEvent) (cause : CloseCause) (b : Boundary) (stamp : Stamp) :
    (closeEvent e cause b stamp s).ed.lastBoundary = s.ed.lastBoundary ∧
    (closeEvent e cause b stamp s).ed.dip = (if e.cls = .swell then s.ed.dip else none) ∧
      (closeEvent e cause b stamp s).ed.swell = (if e.cls = .swell then none else s.ed.swell) := by
  have handed : ∀ swell cell body, (handRecord body (countGrid swell cell s)).2.ed.lastBoundary = s.ed.lastBoundary ∧
      (handRecord body (countGrid swell cell s)).2.ed.dip = s.ed.dip ∧
      (handRecord body (countGrid swell cell s)).2.ed.swell = s.ed.swell := by
    intro swell cell body
    obtain ⟨-, -, -, -, -, ed, -⟩ := blocks_of_recordless (recordless_handRecord (countGrid swell cell s) body)
    rw [ed]
    unfold countGrid
    repeat' split
    all_goals exact ⟨rfl, rfl, rfl⟩
  unfold closeEvent
  dsimp only
  rw [OpenEvent.closeSub_cls]
  by_cases swell : e.cls = .swell
  · obtain ⟨last, dip, -⟩ := handed true (eventBody s (e.closeSub b.position) cause b stamp).cell
      (.event (eventBody s (e.closeSub b.position) cause b stamp))
    simp only [swell, beq_self_eq_true, if_true]
    exact ⟨last, dip, rfl⟩
  · obtain ⟨last, -, other⟩ := handed false (eventBody s (e.closeSub b.position) cause b stamp).cell
      (.event (eventBody s (e.closeSub b.position) cause b stamp))
    have notSwell : (e.cls == .swell) = false := beq_false_of_ne swell
    simp only [swell, notSwell, if_false, Bool.false_eq_true]
    exact ⟨last, rfl, other⟩

/-- The dip-family event closes, and the swell event stands (R88). -/
theorem ed_closeDip (wf : EventsWf s) (cause : CloseCause) (b : Boundary) (stamp : Stamp) :
    (closeOpen cause b stamp s.ed.dip s).ed.dip = none ∧
      (closeOpen cause b stamp s.ed.dip s).ed.swell = s.ed.swell := by
  cases dip : s.ed.dip with
  | none => exact ⟨dip, rfl⟩
  | some e =>
    have notSwell : e.cls ≠ .swell := by simpa [dip] using wf.1
    obtain ⟨-, gone, stays⟩ := ed_closeEvent s e cause b stamp
    rw [if_neg notSwell] at gone stays
    exact ⟨gone, stays⟩

/-- No event is open after the forced closes (R88, R90). -/
theorem ed_forceClose (wf : EventsWf s) {b : Boundary} {stamp : Stamp} (last : s.ed.lastBoundary = some (b, stamp))
    (cause : CloseCause) : (forceClose cause s).ed.dip = none ∧ (forceClose cause s).ed.swell = none := by
  obtain ⟨dip, swell⟩ := ed_closeDip s wf cause b stamp
  rw [forceClose_at s last, swell]
  cases eq : s.ed.swell with
  | none => exact ⟨dip, swell.trans eq⟩
  | some e =>
    have isSwell : e.cls = .swell := by simpa [eq] using wf.2
    obtain ⟨-, stays, gone⟩ := ed_closeEvent (closeOpen cause b stamp s.ed.dip s) e cause b stamp
    rw [if_pos isSwell] at stays gone
    exact ⟨stays.trans dip, gone⟩

theorem bystanders_abandoned (restart : Bool) : bystanders (abandoned restart s) = bystanders s := by
  obtain ⟨applied, -⟩ := standing_applyPendingCal (abandonWindow (stopCapture (forceClose (endCauses restart).1 s)))
  obtain ⟨stopped, -⟩ := standing_stopCapture (forceClose (endCauses restart).1 s)
  exact applied.trans (stopped.trans (bystanders_forceClose s _))

theorem eventView_abandoned (restart : Bool) :
    (abandoned restart s).mu.window = none ∧
      (abandoned restart s).ed.dip = (forceClose (endCauses restart).1 s).ed.dip ∧
      (abandoned restart s).ed.swell = (forceClose (endCauses restart).1 s).ed.swell := by
  obtain ⟨-, applied⟩ := standing_applyPendingCal (abandonWindow (stopCapture (forceClose (endCauses restart).1 s)))
  obtain ⟨-, stopped⟩ := standing_stopCapture (forceClose (endCauses restart).1 s)
  simp only [eventView, Prod.mk.injEq] at applied stopped
  obtain ⟨mu, dip, swell, -⟩ := applied
  obtain ⟨-, dip', swell', -⟩ := stopped
  exact ⟨congrArg MU.window mu, dip.trans dip', swell.trans swell'⟩

theorem uncollecting_abandoned (restart : Bool) (held : s.cu.state = .collecting → s.cu.hand.isSome = true) :
    (abandoned restart s).cu.state ≠ .collecting := by
  unfold abandoned
  rw [cu_applyPendingCal]
  exact state_stopCapture ((captureStands_forceClose _ s).held held)

theorem standing_worked (restart running : Bool) :
    bystanders (worked restart running s) = bystanders s ∧
      eventView (worked restart running s) = eventView (abandoned restart s) ∧
      (running = true → (worked restart running s).ia.interval = none) ∧
      CaptureStands (abandoned restart s) (worked restart running s) := by
  unfold worked
  split
  · obtain ⟨closed, closed', interval⟩ :=
      standing_closeInterval (abandoned restart s) (nowStamp (abandoned restart s)) true false
    obtain ⟨applied, applied', ia⟩ := standing_applyUnlessHold
      (closeInterval (nowStamp (abandoned restart s)) true false (abandoned restart s)) (endCauses restart).2
    exact ⟨applied.trans (closed.trans (bystanders_abandoned s restart)), applied'.trans closed',
      fun _ => (congrArg IA.interval ia).trans interval,
      (captureStands_closeInterval _ _ _ _).trans (captureStands_applyUnlessHold _ _)⟩
  · next notRunning => exact ⟨bystanders_abandoned s restart, rfl, fun running => absurd running notRunning, .inl rfl⟩

/-- What the end of a campaign ends, and what it leaves (R130, R132). -/
theorem campaignEnds_leaves (restart running : Bool) :
    bystanders (campaignEnds restart running s).2 = bystanders s ∧
      (campaignEnds restart running s).2.mu.window = none ∧
      (running = true → (campaignEnds restart running s).2.ia.interval = none) ∧
      (EventsWf s → s.ed.lastBoundary.isSome = true →
        (campaignEnds restart running s).2.ed.dip = none ∧ (campaignEnds restart running s).2.ed.swell = none) ∧
      ((s.cu.state = .collecting → s.cu.hand.isSome = true) →
        (campaignEnds restart running s).2.cu.state ≠ .collecting) := by
  obtain ⟨stand, events, interval, capture⟩ := standing_worked s restart running
  obtain ⟨window, dip, swell⟩ := eventView_abandoned s restart
  have handed := recordless_handRecord (worked restart running s) (.campaignEnd (endBody restart (worked restart running s)))
  have events := (eventView_of_recordless handed).trans events
  rw [campaignEnds_eq]
  simp only [eventView, Prod.mk.injEq] at events
  obtain ⟨mu, dip', swell', -⟩ := events
  refine ⟨(bystanders_of_recordless handed).trans stand, (congrArg MU.window mu).trans window,
    fun running => (congrArg IA.interval (ia_of_recordless handed)).trans (interval running), fun wf last => ?_,
    fun held => ?_⟩
  · obtain ⟨⟨b, stamp⟩, last⟩ := Option.isSome_iff_exists.mp last
    obtain ⟨none, none'⟩ := ed_forceClose s wf last (endCauses restart).1
    exact ⟨dip'.trans (dip.trans none), swell'.trans (swell.trans none')⟩
  · exact (capture.trans (captureStands_handRecord _ _)).uncollecting (uncollecting_abandoned s restart held)

end

/-! ## Its records -/

/-- The records of the events that a STOP or a RESTART closes (R88, R90). -/
def closedBodies (cause : CloseCause) (s : State) : List RecordBody :=
  match s.ed.lastBoundary with
  | none => []
  | some (b, stamp) =>
    let t := closeOpen cause b stamp s.ed.dip s
    (s.ed.dip.map (closedBody cause b stamp s)).toList ++ (t.ed.swell.map (closedBody cause b stamp t)).toList

/-- The records of steps 1 to 3. -/
def abandonedBodies (restart : Bool) (s : State) : List RecordBody :=
  closedBodies (endCauses restart).1 s ++ cutBodies (forceClose (endCauses restart).1 s)

/-- The INTERVAL record of step 4. -/
def intervalBodies (s : State) : List RecordBody :=
  (s.ia.interval.map fun x => .interval (intervalBody s x (nowStamp s) true false)).toList

/-- The records of step 4. -/
def workedBodies (restart running : Bool) (s : State) : List RecordBody :=
  if running then
    let t := closeInterval (nowStamp (abandoned restart s)) true false (abandoned restart s)
    intervalBodies (abandoned restart s) ++
      if t.sl.settings.hold then [] else appliedBodies (endCauses restart).2 t
  else []

theorem length_map_toList {α β : Type} (o : Option α) (f : α → β) : (o.map f).toList.length ≤ 1 := by
  cases o <;> simp

theorem length_closedBodies (cause : CloseCause) (s : State) : (closedBodies cause s).length ≤ 2 := by
  unfold closedBodies
  split
  · exact Nat.zero_le 2
  · next b stamp _ =>
    have dips := length_map_toList s.ed.dip (closedBody cause b stamp s)
    have swells := length_map_toList (closeOpen cause b stamp s.ed.dip s).ed.swell
      (closedBody cause b stamp (closeOpen cause b stamp s.ed.dip s))
    simp only [List.length_append]
    omega

theorem length_abandonedBodies (restart : Bool) (s : State) : (abandonedBodies restart s).length ≤ 3 := by
  have closed := length_closedBodies (endCauses restart).1 s
  have cut := length_cutBodies (forceClose (endCauses restart).1 s)
  simp only [abandonedBodies, List.length_append]
  omega

theorem length_workedBodies (restart running : Bool) (s : State) : (workedBodies restart running s).length ≤ 2 := by
  unfold workedBodies
  split
  · have interval := length_map_toList (abandoned restart s).ia.interval
      fun x => RecordBody.interval (intervalBody (abandoned restart s) x (nowStamp (abandoned restart s)) true false)
    have applied := length_appliedBodies (endCauses restart).2
      (closeInterval (nowStamp (abandoned restart s)) true false (abandoned restart s))
    simp only [intervalBodies, List.length_append]
    split
    · simp only [List.length_nil]
      omega
    · omega
  · exact Nat.zero_le 2

section
variable {s : State} {n : Nat}

theorem queued_forceClose (room : RecordRoom s n 1) (next : s.rq.next = .number n) (cause : CloseCause) :
    Queued s (forceClose cause s) n (closedBodies cause s) := by
  unfold closedBodies
  split
  · next last =>
    rw [forceClose_none s last]
    exact .nil next
  · next b stamp last =>
    rw [forceClose_at s last]
    have dips := (Queued.nil next).closeOpen (room.mono (Nat.zero_le 1)) cause b stamp s.ed.dip
    rw [List.nil_append] at dips
    exact dips.closeOpen (room.mono (length_map_toList _ _)) cause b stamp _

theorem queued_abandoned (room : RecordRoom s n 2) (next : s.rq.next = .number n) (restart : Bool) :
    Queued s (abandoned restart s) n (abandonedBodies restart s) := by
  have closed := queued_forceClose (room.mono (Nat.le_succ 1)) next (endCauses restart).1
  have cut := closed.stopCapture (room.mono (length_closedBodies _ _))
  have window : Queued s (abandonWindow (stopCapture (forceClose (endCauses restart).1 s))) n _ := cut.frame rfl rfl rfl
  exact window.applyPendingCal

theorem queued_worked (room : RecordRoom s n 4) (next : s.rq.next = .number n) (restart running : Bool) :
    Queued s (worked restart running s) n (abandonedBodies restart s ++ workedBodies restart running s) := by
  have base := queued_abandoned (room.mono (Nat.le_add_right 2 2)) next restart
  have most := length_abandonedBodies restart s
  unfold worked workedBodies
  split
  · have closed := base.closeInterval (room.mono (by omega)) (nowStamp (abandoned restart s)) true false
    have more := length_map_toList (abandoned restart s).ia.interval
      fun x => RecordBody.interval (intervalBody (abandoned restart s) x (nowStamp (abandoned restart s)) true false)
    have applied := closed.applyUnlessHold
      (room.mono (by simp only [List.length_append]; omega)) (endCauses restart).2
    rw [List.append_assoc] at applied
    exact applied
  · simpa using base

/-- The end record is queued behind the others under the next number (R130). -/
theorem queued_campaignEnds (room : RecordRoom s n 5) (next : s.rq.next = .number n) (restart running : Bool) :
    (campaignEnds restart running s).1 =
        .entered (n + (abandonedBodies restart s ++ workedBodies restart running s).length) ∧
      Queued s (campaignEnds restart running s).2 n (abandonedBodies restart s ++ workedBodies restart running s ++
        [.campaignEnd (endBody restart (worked restart running s))]) := by
  have before := queued_worked (room.mono (Nat.le_succ 4)) next restart running
  have most := length_abandonedBodies restart s
  have more := length_workedBodies restart running s
  have room := room.mono (j := (abandonedBodies restart s ++ workedBodies restart running s).length)
    (by simp only [List.length_append]; omega)
  obtain ⟨entered, -, queued⟩ := before.enters room.mounted room.slots room.numbers
    (.campaignEnd (endBody restart (worked restart running s)))
  rw [campaignEnds_eq]
  exact ⟨entered, queued⟩

end

/-! ## STOP (R130, R131) -/

/-- A STOP answered ACCEPTED, its tag kept (R130). -/
def stopAccepted (tag : Byte) (s : State) : State :=
  (accept tag 6 s).setIa { (accept tag 6 s).ia with stopTag := some tag }

theorem orderStop_taken {s : State} (taken : s.ia.state = .arming ∨ s.ia.state = .running) (tag : Byte) :
    orderStop tag s =
      awaitEnd (campaignEnds false (s.ia.state == .running) (setCampaign .stopping (stopAccepted tag s))).1
        (campaignEnds false (s.ia.state == .running) (setCampaign .stopping (stopAccepted tag s))).2 := by
  have running : (stopAccepted tag s).ia.state = s.ia.state := by
    unfold stopAccepted
    rw [accept_eq]
    rfl
  have ended : orderStop tag s =
      awaitEnd (endCampaign false (stopAccepted tag s)).1 (endCampaign false (stopAccepted tag s)).2 := by
    rcases taken with state | state
    · simp only [orderStop, state]
      rfl
    · simp only [orderStop, state]
      rfl
  rw [ended, endCampaign_eq, running]

theorem repliesGrow_of_restView {s t : State} (h : restView t = restView s) : RepliesGrow s t := by
  simp only [restView, Prod.mk.injEq] at h
  obtain ⟨-, -, -, -, -, -, up, -, replies, -⟩ := h
  exact ⟨by rw [replies], fun _ => replies, up⟩

/-- The answer to a STOP that waits leaves all but the reply queue and its tag (R131). -/
theorem answerStop_leaves (outcome : Nat) (s : State) :
    bystanders (answerStop outcome s) = bystanders s ∧ eventView (answerStop outcome s) = eventView s ∧
      (answerStop outcome s).cu = s.cu ∧ (answerStop outcome s).ia = { s.ia with stopTag := none } ∧
      RepliesGrow s (answerStop outcome s) := by
  unfold answerStop
  split
  · next none => exact ⟨rfl, rfl, rfl, by rw [← none], .refl s⟩
  · next tag _ =>
    have grows := repliesGrow_finalReply (s.setIa { s.ia with stopTag := none })
      { tag := tag, kind := byteOf 6, status := .done, reason := .none, cancelled := false,
        body := leBytes 2 s.ia.number ++ leBytes 1 outcome }
    unfold replyDone
    rw [finalReply_eq] at grows ⊢
    exact ⟨rfl, rfl, rfl, rfl, grows⟩

/-- What the outcome of an end record leaves (R130, R131). -/
theorem awaitEnd_leaves (r : HandResult) (s : State) :
    bystanders (awaitEnd r s) = bystanders s ∧ eventView (awaitEnd r s) = eventView s ∧
      ((awaitEnd r s).ia.state = s.ia.state ∨ (awaitEnd r s).ia.state = .stopped) ∧
      (awaitEnd r s).ia.interval = s.ia.interval ∧ CaptureStands s (awaitEnd r s) ∧ RepliesGrow s (awaitEnd r s) := by
  have stopped : ∀ outcome, bystanders (enterStopped outcome s) = bystanders s ∧
      eventView (enterStopped outcome s) = eventView s ∧
      ((enterStopped outcome s).ia.state = s.ia.state ∨ (enterStopped outcome s).ia.state = .stopped) ∧
      (enterStopped outcome s).ia.interval = s.ia.interval ∧ CaptureStands s (enterStopped outcome s) ∧
      RepliesGrow s (enterStopped outcome s) := by
    intro outcome
    obtain ⟨stand, events, cu, ia, replies⟩ :=
      answerStop_leaves outcome (s.setIa { s.ia with state := .stopped, endSeq := none })
    obtain ⟨applied, applied'⟩ := standing_applyPending
      (answerStop outcome (s.setIa { s.ia with state := .stopped, endSeq := none })) .stopped
    have ia := (ia_applyPending _ .stopped).trans ia
    have grows := repliesGrow_of_restView (restView_applyPending
      (answerStop outcome (s.setIa { s.ia with state := .stopped, endSeq := none })) .stopped)
    have capture : CaptureStands s (answerStop outcome (s.setIa { s.ia with state := .stopped, endSeq := none })) := .inl cu
    exact ⟨applied.trans stand, applied'.trans events, .inr (congrArg IA.state ia), (congrArg IA.interval ia).trans rfl,
      capture.trans (captureStands_applyPending _ _), replies.trans grows⟩
  unfold awaitEnd
  split
  · split
    · exact stopped 1
    · exact ⟨rfl, rfl, .inl rfl, rfl, .inl rfl, .of_sl rfl⟩
  · exact stopped 2
  · exact stopped 3

/-- Settles O40: a STOP taken is the campaign's end after its ACCEPTED reply, and the outcome of the end record after it. -/
theorem stopEndsTheCampaign : Obligations.StopEndsTheCampaign := by
  unfold Obligations.StopEndsTheCampaign
  intro s tag ready
  have runs : exec (.stop tag) s = .next (settle (orderStop tag s)) :=
    exec_carryOut ready rfl (readOrder_orderOf rfl rfl nofun) rfl
  refine ⟨fun state => ?_, fun taken => ?_⟩
  · have refused : orderStop tag s = refuse tag 6 .wrongState s := by
      rcases state with state | state
      · simp only [orderStop, state]
      · simp only [orderStop, state]
    rw [runs, refused]
    rfl
  · -- the state in STOPPING, with the ACCEPTED reply, in which the campaign ends
    obtain ⟨u, start⟩ : ∃ u, u = setCampaign .stopping (stopAccepted tag s) := ⟨_, rfl⟩
    rw [orderStop_taken taken, ← start] at runs
    have at' : u = (s.setSl (acceptedLink { plainReply tag 6 .accepted .none with body := earlyBody 6 } s)).setIa
        { s.ia with state := .stopping, stopTag := some tag } := by
      rw [start, stopAccepted, accept_eq]
      rfl
    obtain ⟨stand, window, interval, events, capture⟩ := campaignEnds_leaves u false (s.ia.state == .running)
    obtain ⟨stand', events', state', interval', capture', grows⟩ := awaitEnd_leaves
      (campaignEnds false (s.ia.state == .running) u).1 (campaignEnds false (s.ia.state == .running) u).2
    have rest := restView_campaignEnds false (s.ia.state == .running) u
    obtain ⟨state, stopTag⟩ := campaign_of_restView rest
    simp only [eventView, Prod.mk.injEq] at events'
    obtain ⟨mu, dip, swell, -⟩ := events'
    have same : bystanders u = bystanders s := by rw [at']; rfl
    have stand := stand'.trans (stand.trans same)
    simp only [bystanders, Prod.mk.injEq] at stand
    obtain ⟨lr, mm, ct, tb, mb, -⟩ := stand
    refine ⟨_, runs, ?_, fun wf last => ?_, fun held => ?_, (congrArg MU.window mu).trans window, fun up => ?_,
      fun running => ?_, lr, mm, ct, tb, mb, fun n mounted next numbers entries => ?_⟩
    · rcases state' with stays | stopped
      · exact .inl (stays.trans (state.trans (by rw [at']; rfl)))
      · exact .inr stopped
    · obtain ⟨noDip, noSwell⟩ := events (by rw [at']; exact wf) (by rw [at']; exact last)
      exact ⟨dip.trans noDip, swell.trans noSwell⟩
    · exact capture'.uncollecting (capture (by rw [at']; exact held))
    · obtain ⟨⟨more, grown⟩, -⟩ := (repliesGrow_of_restView rest).trans grows
      refine ⟨more, grown.symm.trans ?_⟩
      rw [at']
      simp [acceptedLink, up, plainReply, earlyBody]
    · exact interval'.trans (interval (beq_iff_eq.mpr running))
    · have room : RecordRoom u n 5 := by
        rw [at']
        exact ⟨mounted, by simp; omega, by omega⟩
      obtain ⟨entered, queued⟩ := queued_campaignEnds room (by rw [at']; exact next) false (s.ia.state == .running)
      have store : (campaignEnds false (s.ia.state == .running) u).2.sr.state ≠ .faulted := by
        rw [queued.store, room.mounted]
        exact nofun
      obtain ⟨x, member, sequence, -, body⟩ := queued.mem
        (i := (abandonedBodies false u ++ workedBodies false (s.ia.state == .running) u).length)
        (by rw [List.getElem?_append_right (Nat.le_refl _), Nat.sub_self]; rfl)
      rw [entered]
      simp only [awaitEnd, store, if_false]
      refine ⟨state.trans (by rw [at']; rfl), stopTag.trans (by rw [at']; rfl), x, member, ?_, by rw [body]; rfl⟩
      rw [sequence]
      rfl

end Sys2Proof.Machine
end

section
/-! RESTART (R132): the campaign's part of it with its records, and the measurement blocks' parts. -/

namespace Sys2Proof.Machine

/-! ## What is pending, and the open interval -/

/-- The settings in force and pending, and the limit tables. -/
def planned (s : State) := (s.sl.settings, s.sl.pending, s.ed.limits, s.ed.pendingLimits)

/-- What is pending depends on the pending settings and the pending limit table (section 12.5). -/
theorem pendingMask_of_planned {s t : State} (h : planned t = planned s) : pendingMask t = pendingMask s := by
  simp only [planned, Prod.mk.injEq] at h
  obtain ⟨-, pending, -, limits⟩ := h
  simp only [pendingMask, pending, limits]

theorem planned_of_recordless {s t : State} (h : recordless t = recordless s) : planned t = planned s := by
  obtain ⟨-, -, -, -, -, ed, -⟩ := blocks_of_recordless h
  have settings := congrArg (fun u => u.sl.settings) h
  have pending := congrArg (fun u => u.sl.pending) h
  have settings' : t.sl.settings = s.sl.settings := settings
  have pending' : t.sl.pending = s.sl.pending := pending
  simp only [planned, settings', pending', ed]

section
variable (s : State)

/-- The limit tables stand at the close of an event. -/
theorem planned_closeEvent (e : OpenEvent) (cause : CloseCause) (b : Boundary) (stamp : Stamp) :
    planned (closeEvent e cause b stamp s) = planned s ∧
      (closeEvent e cause b stamp s).ia.interval = s.ia.interval := by
  have handed : ∀ swell cell body, planned (handRecord body (countGrid swell cell s)).2 = planned s ∧
      (handRecord body (countGrid swell cell s)).2.ia.interval = s.ia.interval := by
    intro swell cell body
    have left := recordless_handRecord (countGrid swell cell s) body
    have counted : planned (countGrid swell cell s) = planned s ∧ (countGrid swell cell s).ia.interval = s.ia.interval := by
      unfold countGrid
      repeat' split
      all_goals exact ⟨rfl, rfl⟩
    exact ⟨(planned_of_recordless left).trans counted.1, (congrArg IA.interval (ia_of_recordless left)).trans counted.2⟩
  unfold closeEvent
  dsimp only
  split
  · exact handed _ _ _
  · exact handed _ _ _

theorem planned_forceClose (cause : CloseCause) :
    planned (forceClose cause s) = planned s ∧ (forceClose cause s).ia.interval = s.ia.interval := by
  have one : ∀ (b : Boundary) (stamp : Stamp) (o : Option OpenEvent) (t : State),
      planned (closeOpen cause b stamp o t) = planned t ∧ (closeOpen cause b stamp o t).ia.interval = t.ia.interval := by
    intro b stamp o t
    cases o with
    | none => exact ⟨rfl, rfl⟩
    | some e => exact planned_closeEvent t e cause b stamp
  cases last : s.ed.lastBoundary with
  | none =>
    rw [forceClose_none s last]
    exact ⟨rfl, rfl⟩
  | some at' =>
    rw [forceClose_at s last]
    exact ⟨(one _ _ _ _).1.trans (one _ _ _ _).1, (one _ _ _ _).2.trans (one _ _ _ _).2⟩

theorem planned_stopCapture :
    planned (stopCapture s) = planned s ∧ (stopCapture s).ia.interval = s.ia.interval := by
  have closed : planned (closeCapture false true s) = planned s ∧
      (closeCapture false true s).ia.interval = s.ia.interval := by
    have handed : ∀ (x : CU) (body : RecordBody), recordless (handRecord body (s.setCu x)).2 = recordless s :=
      fun x body => recordless_handRecord (s.setCu x) body
    have left : recordless (closeCapture false true s) = recordless s := by
      unfold closeCapture
      split
      · rfl
      · dsimp only
        generalize eq : handRecord _ _ = r
        have handed := eq ▸ handed _ _
        split
        · exact handed
        · exact (recordless_releaseCapture _).trans handed
    exact ⟨planned_of_recordless left, congrArg IA.interval (ia_of_recordless left)⟩
  unfold stopCapture
  split
  · exact ⟨rfl, rfl⟩
  · exact ⟨rfl, rfl⟩
  · exact closed
  · exact ⟨rfl, rfl⟩

/-- The pending calibrations change the channel table alone (R26). -/
theorem applyPendingCal_eq : ∃ cc, applyPendingCal s = s.setCc cc :=
  foldl_keeps (P := fun u => ∃ cc, u = s.setCc cc)
    (fun m _ u ⟨cc, eq⟩ => by
      subst eq
      split
      · exact ⟨_, rfl⟩
      · exact ⟨cc, rfl⟩)
    ⟨s.cc, rfl⟩

theorem planned_abandoned (restart : Bool) :
    planned (abandoned restart s) = planned s ∧ (abandoned restart s).ia.interval = s.ia.interval := by
  obtain ⟨closed, closed'⟩ := planned_forceClose s (endCauses restart).1
  obtain ⟨stopped, stopped'⟩ := planned_stopCapture (forceClose (endCauses restart).1 s)
  obtain ⟨cc, eq⟩ := applyPendingCal_eq (abandonWindow (stopCapture (forceClose (endCauses restart).1 s)))
  rw [abandoned, eq]
  exact ⟨stopped.trans closed, stopped'.trans closed'⟩

theorem planned_closeInterval (stop : Stamp) (ended early : Bool) :
    planned (closeInterval stop ended early s) = planned s := by
  unfold closeInterval
  split
  · rfl
  · next x _ =>
    have left := planned_of_recordless (recordless_handRecord s (.interval (intervalBody s x stop ended early)))
    exact left

/-- After an application nothing is pending (R193). -/
theorem pendingMask_applyPending (cause : SettingsCause) : pendingMask (applyPending cause s) = 0 := by
  unfold applyPending
  split
  · assumption
  · exact (pendingMask_of_planned (planned_of_recordless (recordless_settingsRecord (placePending s) cause _))).trans rfl

/-- What is pending after step 4: nothing when the pending set was applied. -/
theorem pendingMask_worked (restart running : Bool) :
    pendingMask (worked restart running s) =
      if running = true ∧ s.sl.settings.hold = false then 0 else pendingMask s := by
  obtain ⟨plan, -⟩ := planned_abandoned s restart
  have closed := (planned_closeInterval (abandoned restart s) (nowStamp (abandoned restart s)) true false).trans plan
  have hold : (closeInterval (nowStamp (abandoned restart s)) true false (abandoned restart s)).sl.settings.hold =
      s.sl.settings.hold := by
    have settings := congrArg Prod.fst closed
    exact congrArg Settings.hold settings
  cases running with
  | false => simpa [worked] using pendingMask_of_planned plan
  | true =>
    simp only [worked, if_true, applyUnlessHold, hold]
    cases held : s.sl.settings.hold with
    | true => simpa using pendingMask_of_planned closed
    | false => simpa using pendingMask_applyPending _ _

end

/-! ## A queue without a departure -/

/-- The Capture Unit stands, the store is MOUNTED, and no entry has both marks. -/
def Undeparting (c : CU) (s : State) : Prop := s.cu = c ∧ s.sr.state = .mounted ∧ ∀ x ∈ s.rq.entries, x.leaves = false

section
variable {c : CU} {s t : State}

theorem Undeparting.same (h : Undeparting c s) (cu : t.cu = s.cu) (store : t.sr.state = s.sr.state)
    (entries : t.rq.entries = s.rq.entries) : Undeparting c t := by
  unfold Undeparting
  rw [cu, store, entries]
  exact h

/-- With no entry that has both marks, nothing departs. -/
theorem sweep_of_undeparting (h : ∀ x ∈ s.rq.entries, x.leaves = false) : sweep s = s := by
  have none : s.rq.entries.filter Entry.leaves = [] := List.filter_eq_nil_iff.mpr fun x member => by simp [h x member]
  have all : s.rq.entries.filter (fun e => !e.leaves) = s.rq.entries :=
    List.filter_eq_self.mpr fun x member => by simp [h x member]
  unfold sweep
  rw [none, all]
  rfl

theorem undeparting_handRecord (body : RecordBody) (h : Undeparting c s) : Undeparting c (handRecord body s).2 := by
  obtain ⟨cu, store, stays⟩ := h
  cases number : recordNumber s with
  | none =>
    rw [handRecord_notCreated number]
    exact ⟨cu, store, stays⟩
  | some n =>
    by_cases slot : hasSlot body.isEnd s.rq.entries = true
    · have enters : ∀ x ∈ s.rq.entries ++ [newEntry (s.setRq (s.rq.numbered n body)) (formRecord s n body)],
          x.leaves = false := by
        intro x member
        rcases List.mem_append.mp member with old | new
        · exact stays x old
        · rw [List.mem_singleton.mp new]
          simp [newEntry, Entry.leaves, store]
      rw [handRecord_entered number slot, sweep_of_undeparting enters]
      exact ⟨cu, store, enters⟩
    · rw [handRecord_lost number slot]
      exact ⟨cu, store, stays⟩

theorem undeparting_closeEvent (e : OpenEvent) (cause : CloseCause) (b : Boundary) (stamp : Stamp)
    (h : Undeparting c s) : Undeparting c (closeEvent e cause b stamp s) := by
  have handed : ∀ swell cell body, Undeparting c (handRecord body (countGrid swell cell s)).2 := by
    intro swell cell body
    refine undeparting_handRecord body ?_
    unfold countGrid
    repeat' split
    all_goals exact h.same rfl rfl rfl
  unfold closeEvent
  dsimp only
  split <;> exact (handed _ _ _).same rfl rfl rfl

theorem undeparting_forceClose (cause : CloseCause) (h : Undeparting c s) : Undeparting c (forceClose cause s) := by
  have one : ∀ (b : Boundary) (stamp : Stamp) (o : Option OpenEvent) (t : State), Undeparting c t →
      Undeparting c (closeOpen cause b stamp o t) := by
    intro b stamp o t h
    cases o with
    | none => exact h
    | some e => exact undeparting_closeEvent e cause b stamp h
  cases last : s.ed.lastBoundary with
  | none => rwa [forceClose_none s last]
  | some at' =>
    rw [forceClose_at s last]
    exact one _ _ _ _ (one _ _ _ _ h)

end

/-! ## The campaign's part of a RESTART -/

/-- A RESTART in ARMING or RUNNING before its application of the pending set (R132). -/
def restartEnded (s : State) : State :=
  setCampaign .stopped (campaignEnds true (s.ia.state == .running) (setCampaign .stopping s)).2

/-- A RESTART in STOPPING: the STOP that waits is answered (R132). -/
def restartStopping (s : State) : State :=
  let t := s.setIa { s.ia with state := .stopped, endSeq := none }
  answerStop (endOutcome t) t

theorem restartCampaign_taken {s : State} (taken : s.ia.state = .arming ∨ s.ia.state = .running) :
    restartCampaign s = applyPending .restart (restartEnded s) := by
  rcases taken with state | state
  · simp only [restartCampaign, state]
    simp only [restartEnded, state, endCampaign_eq]
  · simp only [restartCampaign, state]
    simp only [restartEnded, state, endCampaign_eq]

theorem restartCampaign_stopping {s : State} (stopping : s.ia.state = .stopping) :
    restartCampaign s = applyPending .restart (restartStopping s) := by
  simp only [restartCampaign, stopping]
  rfl

theorem restartCampaign_stopped {s : State} (stopped : s.ia.state = .stopped) :
    restartCampaign s = applyPending .restart s := by
  simp only [restartCampaign, stopped]

/-- What a RESTART leaves of the campaign and beside it. -/
structure Restarted (s t : State) : Prop where
  stand : bystanders t = bystanders s
  state : t.ia.state = .stopped
  number : t.ia.number = s.ia.number
  sr : t.sr = s.sr
  waits : s.ia.state = .stopping → t.ia.stopTag = none ∧ t.ia.endSeq = none

theorem Restarted.applied {s t : State} (h : Restarted s t) : Restarted s (applyPending .restart t) := by
  have ia := ia_applyPending t .restart
  have rest := restView_applyPending t .restart
  simp only [restView, Prod.mk.injEq] at rest
  obtain ⟨-, -, -, -, -, sr, -⟩ := rest
  exact ⟨(standing_applyPending t .restart).1.trans h.stand, ia ▸ h.state, ia ▸ h.number, sr.trans h.sr, ia ▸ h.waits⟩

theorem restarted_ended {s : State} (taken : s.ia.state = .arming ∨ s.ia.state = .running) :
    Restarted s (restartEnded s) := by
  obtain ⟨stand, -⟩ := campaignEnds_leaves (setCampaign .stopping s) true (s.ia.state == .running)
  have rest := restView_campaignEnds true (s.ia.state == .running) (setCampaign .stopping s)
  simp only [restView, Prod.mk.injEq] at rest
  obtain ⟨-, -, -, number, -, sr, -⟩ := rest
  refine ⟨stand, rfl, number, sr, fun stopping => ?_⟩
  rcases taken with state | state
  · exact absurd (state.symm.trans stopping) nofun
  · exact absurd (state.symm.trans stopping) nofun

theorem sr_answerStop (outcome : Nat) (s : State) : (answerStop outcome s).sr = s.sr := by
  unfold answerStop
  split
  · rfl
  · exact sr_finalReply _ _

theorem restarted_stopping (s : State) : Restarted s (restartStopping s) := by
  obtain ⟨stand, -, -, ia, -⟩ := answerStop_leaves
    (endOutcome (s.setIa { s.ia with state := .stopped, endSeq := none })) (s.setIa { s.ia with state := .stopped, endSeq := none })
  exact ⟨stand, congrArg IA.state ia, (congrArg IA.number ia).trans rfl, sr_answerStop _ _,
    fun _ => ⟨congrArg IA.stopTag ia, congrArg IA.endSeq ia⟩⟩

/-- What the campaign's part of a RESTART leaves in every campaign state (R132, R193). -/
theorem restarted_restartCampaign (s : State) :
    Restarted s (restartCampaign s) ∧ pendingMask (restartCampaign s) = 0 := by
  cases campaign : s.ia.state with
  | stopped =>
    rw [restartCampaign_stopped campaign]
    exact ⟨Restarted.applied ⟨rfl, campaign, rfl, rfl, fun stopping => absurd (campaign.symm.trans stopping) nofun⟩,
      pendingMask_applyPending _ _⟩
  | stopping =>
    rw [restartCampaign_stopping campaign]
    exact ⟨(restarted_stopping s).applied, pendingMask_applyPending _ _⟩
  | arming =>
    rw [restartCampaign_taken (.inl campaign)]
    exact ⟨(restarted_ended (.inl campaign)).applied, pendingMask_applyPending _ _⟩
  | running =>
    rw [restartCampaign_taken (.inr campaign)]
    exact ⟨(restarted_ended (.inr campaign)).applied, pendingMask_applyPending _ _⟩

/-! ## The measurement blocks' parts -/

/-- The lane of a RESTART: the slots stay open without their frames (R17). -/
def LR.restarted (x : LR) : LR := { x with slots := x.slots.map fun l => l.map fun y => { y with frame := none } }

/-- The tracker of a RESTART (R54). -/
def CT.restarted (t : CT) : CT :=
  { t with
    state := .freerun, reference := none, held := none, run := [], align := 0, revertPhase := none, revertCount := 0,
    timer := none }

/-- The Magnitude Unit of a RESTART (R66, R74). -/
def MU.restarted (x : MU) : MU :=
  { x with
    window := none, carriedRefChange := false, carriedTimeStep := false, channels := x.channels.map ChanSums.restart }

theorem restartBlocks_eq (s : State) :
    ∃ cc : CC, restartBlocks s =
      ((((((s.setLr s.lr.restarted).setMm { count := 0, mods := s.mm.mods.map ModMon.restart }).setCc
        { cc with held := none, buffer := [] }).setCt s.ct.restarted).setMu s.mu.restarted).setMb
          { s.mb with cut := s.mb.transaction.isSome }) := by
  obtain ⟨cc, eq⟩ := applyPendingCal_eq (restartLane s)
  refine ⟨cc, ?_⟩
  unfold restartBlocks restartConditioner
  rw [eq]
  rfl

end Sys2Proof.Machine
end

section
/-! The records of a RESTART in their order (R132), and what is settled of it. -/

namespace Sys2Proof.Machine

theorem PerModule.get_map {α β : Type} (p : PerModule α) (f : α → β) (m : Fin 4) : (p.map f).get m = f (p.get m) := by
  match m with
  | 0 | 1 | 2 | 3 => rfl

/-- The records of a machine's event, if one is open, closed at a boundary (R88, R90). -/
def ClosedAs (cause : CloseCause) (b : Boundary) (stamp : Stamp) (o : Option OpenEvent) (l : List RecordBody) : Prop :=
  (o = none → l = []) ∧
    ∀ x, o = some x → ∃ y, l = [.event y] ∧ y.event = x.closeSub b.position ∧ y.cause = cause ∧
      y.endNumber = b.number ∧ y.endStamp = stamp

/-- The records of the pending set's application, if there is one (R193). -/
def AppliesAs (now : Prop) (mask : BitVec 8) (l : List RecordBody) : Prop :=
  (now ∧ mask ≠ 0 → ∃ y, l = [.settings y] ∧ y.cause = .restart ∧ y.applied = mask) ∧ (¬ now ∨ mask = 0 → l = [])

section
variable {s : State}

theorem closedAs_map (cause : CloseCause) (b : Boundary) (stamp : Stamp) (t : State) (o : Option OpenEvent) :
    ClosedAs cause b stamp o (o.map (closedBody cause b stamp t)).toList := by
  cases o with
  | none => exact ⟨fun _ => rfl, fun x no => absurd no.symm (Option.some_ne_none x)⟩
  | some e =>
    refine ⟨fun no => absurd no (Option.some_ne_none e), fun x eq => ?_⟩
    obtain rfl := Option.some.inj eq
    exact ⟨eventBody t (e.closeSub b.position) cause b stamp, rfl, rfl, rfl, rfl, rfl⟩

/-- The open events are recorded in their order, the dip-family event first (R88, R90). -/
theorem closedBodies_split (wf : EventsWf s) {b : Boundary} {stamp : Stamp}
    (last : (s.ed.dip = none ∧ s.ed.swell = none) ∨ s.ed.lastBoundary = some (b, stamp)) (cause : CloseCause) :
    ∃ dips swells, closedBodies cause s = dips ++ swells ∧ ClosedAs cause b stamp s.ed.dip dips ∧
      ClosedAs cause b stamp s.ed.swell swells := by
  rcases last with ⟨dip, swell⟩ | last
  · refine ⟨[], [], ?_, ⟨fun _ => rfl, by simp [dip]⟩, ⟨fun _ => rfl, by simp [swell]⟩⟩
    unfold closedBodies
    split
    · rfl
    · simp [dip, swell, closeOpen]
  · obtain ⟨-, swell⟩ := ed_closeDip s wf cause b stamp
    have closed : closedBodies cause s = (s.ed.dip.map (closedBody cause b stamp s)).toList ++
        (s.ed.swell.map (closedBody cause b stamp (closeOpen cause b stamp s.ed.dip s))).toList := by
      simp only [closedBodies, last, swell]
    exact ⟨_, _, closed, closedAs_map cause b stamp s s.ed.dip, closedAs_map cause b stamp _ s.ed.swell⟩

theorem appliesAs_appliedBodies (t : State) : AppliesAs True (pendingMask t) (appliedBodies .restart t) := by
  unfold appliedBodies
  constructor
  · rintro ⟨-, pending⟩
    exact ⟨_, if_neg pending, rfl, rfl⟩
  · rintro (no | nothing)
    · exact absurd trivial no
    · exact if_pos nothing

/-- The records of a RESTART taken in ARMING or RUNNING stand in the queue in their order (R132). -/
theorem queued_restartCampaign (taken : s.ia.state = .arming ∨ s.ia.state = .running) {n : Nat}
    (room : RecordRoom s n 6) (next : s.rq.next = .number n) :
    let u := setCampaign .stopping s
    let running := s.ia.state == .running
    Queued u (restartCampaign s) n
      (abandonedBodies true u ++ workedBodies true running u ++ [.campaignEnd (endBody true (worked true running u))] ++
        appliedBodies .restart (restartEnded s)) := by
  intro u running
  have room : RecordRoom u n 6 := ⟨room.mounted, room.slots, room.numbers⟩
  obtain ⟨-, ended⟩ := queued_campaignEnds (room.mono (Nat.le_succ 5)) next true running
  have most := length_abandonedBodies true u
  have more := length_workedBodies true running u
  have stopped : Queued u (restartEnded s) n _ := ended.frame rfl rfl rfl
  rw [restartCampaign_taken taken]
  exact stopped.applyPending (room.mono (by simp only [List.length_append, List.length_singleton]; omega)) .restart

/-- What is left to apply after the interval's close (R132). -/
theorem pendingMask_restartEnded (s : State) :
    pendingMask (restartEnded s) =
      if s.ia.state = .running ∧ s.sl.settings.hold = false then 0 else pendingMask s := by
  have worked := pendingMask_worked (setCampaign .stopping s) true (s.ia.state == .running)
  have handed := pendingMask_of_planned (planned_of_recordless (recordless_handRecord
    (Machine.worked true (s.ia.state == .running) (setCampaign .stopping s))
    (.campaignEnd (endBody true (Machine.worked true (s.ia.state == .running) (setCampaign .stopping s))))))
  refine (handed.trans worked).trans ?_
  simp only [beq_iff_eq]
  rfl

/-- The records of the interval's close are the INTERVAL record and that of the application at it (R132). -/
theorem workedBodies_split (s : State) (running : Bool) :
    ∃ intervals applied, workedBodies true running s = intervals ++ applied ∧
      (running = false ∨ s.ia.interval = none → intervals = []) ∧
      (∀ x, running = true → s.ia.interval = some x → ∃ z, intervals = [.interval z] ∧ z.number = x.number ∧
        z.start = x.start ∧ z.stop = nowStamp s ∧ z.partialMark = true ∧ z.early = false) ∧
      AppliesAs (running = true ∧ s.sl.settings.hold = false) (pendingMask s) applied := by
  obtain ⟨plan, interval⟩ := planned_abandoned s true
  have stamp : nowStamp (abandoned true s) = nowStamp s := by
    have stand := bystanders_abandoned s true
    simp only [bystanders, Prod.mk.injEq] at stand
    obtain ⟨-, -, -, tb, -⟩ := stand
    simp only [nowStamp, tb]
  have closed := (planned_closeInterval (abandoned true s) (nowStamp (abandoned true s)) true false).trans plan
  have hold : (closeInterval (nowStamp (abandoned true s)) true false (abandoned true s)).sl.settings.hold =
      s.sl.settings.hold := by
    have settings := congrArg Prod.fst closed
    exact congrArg Settings.hold settings
  cases running with
  | false => exact ⟨[], [], rfl, fun _ => rfl, fun _ no _ => absurd no Bool.false_ne_true,
      fun now => absurd now.1.1 Bool.false_ne_true, fun _ => rfl⟩
  | true =>
    have split : workedBodies true true s = intervalBodies (abandoned true s) ++
        if s.sl.settings.hold then [] else appliedBodies .restart
          (closeInterval (nowStamp (abandoned true s)) true false (abandoned true s)) := by
      simp only [workedBodies, if_true, hold]
      rfl
    refine ⟨_, _, split, ?_, ?_, ?_⟩
    · rintro (no | none)
      · exact absurd no nofun
      · simp [intervalBodies, interval, none]
    · intro x _ some
      refine ⟨intervalBody (abandoned true s) x (nowStamp (abandoned true s)) true false, ?_, rfl, rfl, stamp, ?_, rfl⟩
      · simp [intervalBodies, interval, some]
      · simp [intervalBody]
    · have applies := appliesAs_appliedBodies (closeInterval (nowStamp (abandoned true s)) true false (abandoned true s))
      rw [pendingMask_of_planned closed] at applies
      obtain ⟨some, none⟩ := applies
      cases held : s.sl.settings.hold with
      | true => exact ⟨fun ⟨⟨_, no⟩, _⟩ => absurd no nofun, fun _ => rfl⟩
      | false =>
        refine ⟨fun ⟨_, pending⟩ => some ⟨trivial, pending⟩, ?_⟩
        rintro (no | nothing)
        · exact absurd ⟨rfl, rfl⟩ no
        · exact none (.inr nothing)

/-- A capture that is being collected is recorded CUT (R110). -/
theorem cutBodies_split {t : State} (cu : t.cu = s.cu) :
    (s.cu.state ≠ .collecting → cutBodies t = []) ∧
      ∀ h, s.cu.state = .collecting → s.cu.hand = some h → ∃ z, cutBodies t = [.capture z] ∧ z.cut = true ∧
        z.truncated = false ∧ z.postEnd = h.postEnd ∧ z.startStrobe = h.startStrobe ∧ z.triggers = h.triggers := by
  refine ⟨fun idle => ?_, fun h collecting hand => ?_⟩
  · unfold cutBodies
    rw [cu]
    split
    · next collecting _ => exact absurd collecting idle
    · rfl
  · refine ⟨captureBody { h with truncated := false, cut := true }, ?_, rfl, rfl, rfl, rfl, rfl⟩
    simp only [cutBodies, cu, collecting, hand]

end

/-- A RESTART in ARMING or RUNNING leaves no event, no collecting and no interval (R132). -/
theorem restartCampaign_ends {s : State} (taken : s.ia.state = .arming ∨ s.ia.state = .running) :
    (EventsWf s → s.ed.lastBoundary.isSome = true →
      (restartCampaign s).ed.dip = none ∧ (restartCampaign s).ed.swell = none) ∧
    ((s.cu.state = .collecting → s.cu.hand.isSome = true) → (restartCampaign s).cu.state ≠ .collecting) ∧
    (s.ia.state = .running → (restartCampaign s).ia.interval = none) := by
  obtain ⟨-, -, interval, events, capture⟩ := campaignEnds_leaves (setCampaign .stopping s) true (s.ia.state == .running)
  rw [restartCampaign_taken taken]
  have applied := (standing_applyPending (restartEnded s) .restart).2
  simp only [eventView, Prod.mk.injEq] at applied
  obtain ⟨-, dip, swell, -⟩ := applied
  refine ⟨fun wf last => ?_, fun held => ?_, fun running => ?_⟩
  · obtain ⟨noDip, noSwell⟩ := events wf last
    exact ⟨dip.trans noDip, swell.trans noSwell⟩
  · exact (captureStands_applyPending .restart (restartEnded s)).uncollecting (capture held)
  · rw [ia_applyPending]
    exact interval (beq_iff_eq.mpr running)

/-- The end record of a RESTART has the summary and the grids as they then stand (R133). -/
theorem endBody_restartCampaign {s : State} (taken : s.ia.state = .arming ∨ s.ia.state = .running) :
    let y := endBody true (worked true (s.ia.state == .running) (setCampaign .stopping s))
    y.summary = (restartCampaign s).ia.summary ∧ y.dipCells = (restartCampaign s).ed.dipCells ∧
      y.swellCells = (restartCampaign s).ed.swellCells := by
  intro y
  have handed := recordless_handRecord (worked true (s.ia.state == .running) (setCampaign .stopping s)) (.campaignEnd y)
  have applied := (standing_applyPending (restartEnded s) .restart).2
  have ended := eventView_of_recordless handed
  have view := applied.trans ended
  rw [restartCampaign_taken taken, ia_applyPending]
  simp only [eventView, Prod.mk.injEq] at view
  obtain ⟨-, -, -, dips, swells⟩ := view
  exact ⟨(congrArg IA.summary (ia_of_recordless handed)).symm, dips.symm, swells.symm⟩

/-- The records of a RESTART in ARMING or RUNNING, each where its part of the work puts it (R132). -/
theorem restartCampaign_records {s : State} (taken : s.ia.state = .arming ∨ s.ia.state = .running) {n : Nat}
    {b : Boundary} {stamp : Stamp} (wf : EventsWf s)
    (last : (s.ed.dip = none ∧ s.ed.swell = none) ∨ s.ed.lastBoundary = some (b, stamp))
    (room : RecordRoom s n 6) (next : s.rq.next = .number n)
    (marks : ∀ x ∈ s.rq.entries, x.stored = false ∨ x.emitted = false) :
    let running := s.ia.state = .running
    let hold := s.sl.settings.hold = false
    ∃ dips swells cuts intervals applied later entries y,
      ClosedAs .restart b stamp s.ed.dip dips ∧ ClosedAs .restart b stamp s.ed.swell swells ∧
      ((s.cu.state ≠ .collecting → cuts = []) ∧
        ∀ h, s.cu.state = .collecting → s.cu.hand = some h → ∃ z, cuts = [.capture z] ∧ z.cut = true ∧
          z.truncated = false ∧ z.postEnd = h.postEnd ∧ z.startStrobe = h.startStrobe ∧ z.triggers = h.triggers) ∧
      (¬ running ∨ s.ia.interval = none → intervals = []) ∧
      (∀ x, running → s.ia.interval = some x → ∃ z, intervals = [.interval z] ∧ z.number = x.number ∧
        z.start = x.start ∧ z.stop = nowStamp s ∧ z.partialMark = true ∧ z.early = false) ∧
      AppliesAs (running ∧ hold) (pendingMask s) applied ∧ AppliesAs (¬ running ∨ ¬ hold) (pendingMask s) later ∧
      y.restart = true ∧ (y.summary = (restartCampaign s).ia.summary ∧ y.dipCells = (restartCampaign s).ed.dipCells ∧
        y.swellCells = (restartCampaign s).ed.swellCells) ∧ y.lost = s.rq.campaignLoss ∧
      (restartCampaign s).rq.entries = s.rq.entries ++ entries ∧
      entries.map (fun x => x.record.sequence) = List.range' n entries.length ∧
      entries.map (fun x => x.record.body) =
        dips ++ swells ++ cuts ++ intervals ++ applied ++ [.campaignEnd y] ++ later := by
  intro running hold
  -- the state in STOPPING, in which the records are formed
  obtain ⟨u, stopping⟩ : ∃ u, u = setCampaign .stopping s := ⟨_, rfl⟩
  have queued := queued_restartCampaign taken room next
  have final := endBody_restartCampaign taken
  dsimp only at queued final
  rw [← stopping] at queued final
  obtain ⟨dips, swells, closed, dipsAs, swellsAs⟩ :=
    closedBodies_split (s := u) (by rw [stopping]; exact wf) (by rw [stopping]; exact last) .restart
  have idle : Undeparting s.cu u := by
    rw [stopping]
    exact ⟨rfl, room.mounted, fun x member => by rcases marks x member with m | m <;> simp [Entry.leaves, m]⟩
  obtain ⟨cu, -⟩ := undeparting_forceClose .restart idle
  obtain ⟨intervals, applied, work, noInterval, anInterval, appliedAs⟩ := workedBodies_split u (s.ia.state == .running)
  have lateAs := appliesAs_appliedBodies (restartEnded s)
  have uRoom : RecordRoom u n 4 := by
    rw [stopping]
    exact ⟨room.mounted, (room.mono (Nat.le_add_right 4 2)).slots, (room.mono (Nat.le_add_right 4 2)).numbers⟩
  have lost := (queued_worked uRoom (by rw [stopping]; exact next) true (s.ia.state == .running)).loss
  obtain ⟨new, behind, bodies, sequences, -⟩ := queued.entries
  have entries : u.rq.entries = s.rq.entries := by rw [stopping]; rfl
  have isRunning : ((s.ia.state == .running) = true) = (s.ia.state = .running) := by simp
  have notRunning : ((s.ia.state == .running) = false) = ¬ (s.ia.state = .running) := by simp
  refine ⟨dips, swells, cutBodies (forceClose .restart u), intervals, applied, appliedBodies .restart (restartEnded s), new,
    endBody true (worked true (s.ia.state == .running) u), by rw [stopping] at dipsAs; exact dipsAs,
    by rw [stopping] at swellsAs; exact swellsAs, cutBodies_split cu, ?_, ?_, ?_, ?_, rfl, final, ?_, ?_, sequences, ?_⟩
  · rw [notRunning, stopping] at noInterval
    exact noInterval
  · rw [isRunning, stopping] at anInterval
    exact anInterval
  · rw [isRunning, stopping] at appliedAs
    exact appliedAs
  · rw [pendingMask_restartEnded] at lateAs
    by_cases now : running ∧ hold
    · have now' : s.ia.state = .running ∧ s.sl.settings.hold = false := now
      rw [if_pos now'] at lateAs
      refine ⟨fun late => ?_, fun _ => lateAs.2 (.inr rfl)⟩
      rcases late.1 with no | no
      · exact absurd now.1 no
      · exact absurd now.2 no
    · have now' : ¬ (s.ia.state = .running ∧ s.sl.settings.hold = false) := now
      rw [if_neg now'] at lateAs
      refine ⟨fun late => lateAs.1 ⟨trivial, late.2⟩, fun nothing => ?_⟩
      rcases nothing with no | no
      · exact absurd (not_and_or.mp now) no
      · exact lateAs.2 (.inr no)
  · refine lost.trans ?_
    rw [stopping]
    rfl
  · rw [behind.all_stand (by rw [entries]; exact marks), entries]
  · have cause : (endCauses true).1 = .restart := rfl
    rw [bodies, abandonedBodies, cause, closed, work]
    simp only [List.append_assoc]

/-- What the measurement blocks' parts of a RESTART leave, and what they make of their own blocks. -/
theorem restartBlocks_leaves (s : State) :
    ((restartBlocks s).ia = s.ia ∧ (restartBlocks s).ed = s.ed ∧ (restartBlocks s).cu = s.cu ∧
      (restartBlocks s).rq = s.rq ∧ (restartBlocks s).tb = s.tb ∧ (restartBlocks s).sr = s.sr ∧
      (restartBlocks s).sl = s.sl) ∧
    (restartBlocks s).lr = s.lr.restarted ∧ (restartBlocks s).mm = { count := 0, mods := s.mm.mods.map ModMon.restart } ∧
    (restartBlocks s).cc.buffer = [] ∧ (restartBlocks s).cc.held = none ∧ (restartBlocks s).ct = s.ct.restarted ∧
    (restartBlocks s).mu = s.mu.restarted ∧ (restartBlocks s).mb = { s.mb with cut := s.mb.transaction.isSome } := by
  obtain ⟨cc, eq⟩ := restartBlocks_eq s
  rw [eq]
  exact ⟨⟨rfl, rfl, rfl, rfl, rfl, rfl, rfl⟩, rfl, rfl, rfl, rfl, rfl, rfl, rfl⟩

/-- What is pending, of settings and limit tables (section 12.5). -/
theorem pendingMask_congr {s t : State} (sl : t.sl = s.sl) (ed : t.ed = s.ed) : pendingMask t = pendingMask s := by
  simp only [pendingMask, sl, ed]

/-- Settles O41: the campaign's part in each of its states, then the measurement blocks' parts; the records are those of the
campaign's end. -/
theorem restartKeepsStrobeAndTime : Obligations.RestartKeepsStrobeAndTime := by
  unfold Obligations.RestartKeepsStrobeAndTime
  intro s tag ready
  have runs : exec (.restart tag) s = .next (settle (orderRestart tag s)) :=
    exec_carryOut ready rfl (readOrder_orderOf rfl rfl nofun) rfl
  obtain ⟨⟨stand, state, number, sr, waits⟩, pending⟩ := restarted_restartCampaign s
  simp only [bystanders, Prod.mk.injEq] at stand
  obtain ⟨lr, mm, ct, tb, mb, counter⟩ := stand
  obtain ⟨⟨iaE, edE, cuE, rqE, tbE, srE, slE⟩, lrE, mmE, buffer, held, ctE, muE, mbE⟩ :=
    restartBlocks_leaves (restartCampaign s)
  refine ⟨restartBlocks (restartCampaign s), runs, by rw [iaE]; exact state, by rw [iaE]; exact number,
    (pendingMask_congr slE edE).trans pending, by rw [iaE]; exact waits, ?_, fun m => ?_, by rw [mmE], fun m => ?_, buffer, held,
    ?_, by rw [muE]; rfl, by rw [muE]; exact counter, tbE.trans tb, srE.trans sr, ?_, fun taken => ?_⟩
  · rw [lrE, lr]
    rfl
  · rw [lrE, lr]
    exact PerModule.get_map _ _ _
  · rw [mmE, mm, PerModule.get_map]
    exact ⟨rfl, rfl⟩
  · rw [ctE, ct]
    rfl
  · rw [mbE, mb]
  · obtain ⟨events, capture, interval⟩ := restartCampaign_ends taken
    refine ⟨by rw [edE]; exact events, by rw [cuE]; exact capture, by rw [iaE]; exact interval, ?_⟩
    intro n b stamp wf last _ mounted next numbers entries marks ended running hold applies
    have room : RecordRoom s n 6 := ⟨mounted, by omega, by omega⟩
    rw [iaE, edE, rqE]
    obtain ⟨dips, swells, cuts, intervals, applied, later, new, y, dipsAs, swellsAs, ⟨noCut, aCut⟩, noInterval, anInterval,
      appliedAs, laterAs, restart, ⟨summary, dipCells, swellCells⟩, lost, stand, sequences, bodies⟩ :=
      restartCampaign_records taken wf last room next marks
    rw [Bool.not_eq_false] at laterAs
    exact ⟨dips, swells, cuts, intervals, applied, later, new, y, dipsAs, swellsAs, noCut, aCut, noInterval, anInterval,
      appliedAs, laterAs, restart, summary, dipCells, swellCells, lost, stand, sequences, bodies⟩

end Sys2Proof.Machine
end

section
/-! The close of an event: the one cell it counts (R94) and its attribution (R91, R92). -/

namespace Sys2Proof.Machine

/-! ## The grids (R94) -/

/-- The grids after a close are those with its cell counted. -/
theorem cells_closeEvent (s : State) (e : OpenEvent) (cause : CloseCause) (b : Boundary) (stamp : Stamp) :
    let counted := countGrid (e.cls == .swell) (eventBody s (e.closeSub b.position) cause b stamp).cell s
    (closeEvent e cause b stamp s).ed.dipCells = counted.ed.dipCells ∧
      (closeEvent e cause b stamp s).ed.swellCells = counted.ed.swellCells := by
  intro counted
  have handed := eventView_handRecord counted (.event (eventBody s (e.closeSub b.position) cause b stamp))
  simp only [eventView, Prod.mk.injEq] at handed
  obtain ⟨-, -, -, dips, swells⟩ := handed
  rw [← dips, ← swells]
  unfold closeEvent
  dsimp only [counted]
  rw [OpenEvent.closeSub_cls]
  split <;> exact ⟨rfl, rfl⟩

/-- A cell counted is one up, saturating, and every other stands (R94). -/
theorem getElem?_countCell (cells : List Nat) (k i : Nat) :
    (countCell cells k)[i]? = if i = k then (cells[i]?).map (satSucc 65535) else cells[i]? := by
  unfold countCell
  rw [List.getElem?_modify]
  by_cases at' : k = i
  · simp [at']
  · simp [at', Ne.symm at']

theorem length_countCell (cells : List Nat) (k : Nat) : (countCell cells k).length = cells.length :=
  List.length_modify ..

/-- The close of a sub-span leaves the start of the event (R85). -/
theorem OpenEvent.closeSub_startPosition (position : Nat) (e : OpenEvent) :
    (e.closeSub position).startPosition = e.startPosition := by
  unfold OpenEvent.closeSub
  split <;> rfl

/-- The cell of an event that is not closed NO_DATA (R94). -/
theorem cellOf_counted (s : State) (e : OpenEvent) {cause : CloseCause} (counted : cause ≠ .noData) (micros : Nat) :
    cellOf s e cause micros =
      some (if e.cls = .swell then swellRow s.ed.grid (extremeOf e) else dipRow s.ed.grid (extremeOf e),
        gridColumn s.ed.grid micros) := if_neg counted

/-! ## The attribution phase (R91) -/

/-- A phase's entry is the one found for it, since no phase is listed twice. -/
theorem find?_phase {l : List PhaseEntry} (nodup : (l.map PhaseEntry.phase).Nodup) {x : PhaseEntry} (member : x ∈ l) :
    (l.find? fun y => y.phase == x.phase) = some x := by
  induction l with
  | nil => exact absurd member List.not_mem_nil
  | cons y l ih =>
    obtain ⟨fresh, nodup⟩ := List.nodup_cons.mp nodup
    rcases List.mem_cons.mp member with rfl | member
    · exact List.find?_cons_of_pos (beq_self_eq_true _)
    · have other : (y.phase == x.phase) = false :=
        beq_false_of_ne fun same => fresh (same ▸ List.mem_map_of_mem member)
      rw [List.find?_cons_of_neg (by simp [other])]
      exact ih nodup member

/-- An entry found for a phase is listed for it. -/
theorem of_find?_phase {l : List PhaseEntry} {p : Phase} {y : PhaseEntry} (found : (l.find? fun y => y.phase == p) = some y) :
    y ∈ l ∧ y.phase = p := ⟨List.mem_of_find?_eq_some found, by simpa using List.find?_some found⟩

/-- Of the entry held and that of the next phase, the lower one, the one held among equals (R91). -/
def keepLower (best next : Option PhaseEntry) : Option PhaseEntry :=
  match next, best with
  | none, b => b
  | some x, none => some x
  | some x, some b => if x.extreme < b.extreme then some x else some b

theorem attributionPhase_fold (e : OpenEvent) :
    attributionPhase e =
      allPhases.foldl (fun best p => keepLower best (e.phases.find? fun y => y.phase == p)) none := rfl

theorem keepLower_held {x : PhaseEntry} {next : Option PhaseEntry} (least : ∀ y, next = some y → x.extreme ≤ y.extreme) :
    keepLower (some x) next = some x := by
  cases next with
  | none => rfl
  | some y => exact if_neg (Nat.not_lt.mpr (least y rfl))

theorem keepLower_next {x : PhaseEntry} {best : Option PhaseEntry} (least : ∀ y, best = some y → x.extreme < y.extreme) :
    keepLower best (some x) = some x := by
  cases best with
  | none => rfl
  | some y => exact if_pos (least y rfl)

/-- The lower one is one of the two. -/
theorem keepLower_cases {best next : Option PhaseEntry} {y : PhaseEntry} (kept : keepLower best next = some y) :
    best = some y ∨ next = some y := by
  unfold keepLower at kept
  split at kept
  · exact .inl kept
  · exact .inr kept
  · split at kept
    · exact .inr kept
    · exact .inl kept

/-- The attribution phase is the listed one with the lowest minimum, the first in order among equals (R91). -/
theorem attributionPhase_eq {e : OpenEvent} {x : PhaseEntry} (nodup : (e.phases.map PhaseEntry.phase).Nodup)
    (member : x ∈ e.phases)
    (lowest : ∀ y ∈ e.phases, x.extreme < y.extreme ∨ x.extreme = y.extreme ∧ x.phase.code ≤ y.phase.code) :
    attributionPhase e = some x := by
  have found := find?_phase nodup member
  have others : ∀ {p y}, (e.phases.find? fun y => y.phase == p) = some y →
      x.extreme < y.extreme ∨ x.extreme = y.extreme ∧ x.phase.code ≤ p.code := by
    intro p y at'
    obtain ⟨member, rfl⟩ := of_find?_phase at'
    exact lowest y member
  have least : ∀ {p y}, (e.phases.find? fun y => y.phase == p) = some y → x.extreme ≤ y.extreme := fun at' => by
    rcases others at' with lt | ⟨eq, -⟩ <;> omega
  have below : ∀ {p y}, p.code < x.phase.code → (e.phases.find? fun y => y.phase == p) = some y →
      x.extreme < y.extreme := fun before at' => by
    rcases others at' with lt | ⟨-, after⟩ <;> omega
  have first : keepLower none (e.phases.find? fun y => y.phase == .p1) = e.phases.find? fun y => y.phase == .p1 := by
    cases e.phases.find? fun y => y.phase == .p1 <;> rfl
  rw [attributionPhase_fold]
  simp only [allPhases, List.foldl_cons, List.foldl_nil, first]
  cases phase : x.phase with
  | p1 =>
    rw [phase] at found
    rw [found, keepLower_held fun y => least, keepLower_held fun y => least]
  | p2 =>
    rw [phase] at found below
    rw [found, keepLower_next fun y => below (by decide), keepLower_held fun y => least]
  | p3 =>
    rw [phase] at found below
    rw [found, keepLower_next fun y kept => ?_]
    rcases keepLower_cases kept with at' | at'
    · exact below (by decide) at'
    · exact below (by decide) at'

/-- Settles O22: the cell is `cellOf`, the phase the lowest listed one, and the prerequisites follow in their order. -/
theorem eventCountsOneGridCell : Obligations.EventCountsOneGridCell := by
  unfold Obligations.EventCountsOneGridCell
  refine ⟨fun s e cause b stamp counted => ?_, fun s e b stamp => ?_, fun s e swell => if_pos swell,
    fun s e x notSwell nodup member lowest => ?_⟩
  · intro closed micros column row t
    have cell : (eventBody s closed cause b stamp).cell = some (row, column) := by
      refine (cellOf_counted s closed counted _).trans ?_
      have cls : closed.cls = e.cls := OpenEvent.closeSub_cls _ _
      rw [cls, OpenEvent.closeSub_startPosition]
      rfl
    obtain ⟨dips, swells⟩ := cells_closeEvent s e cause b stamp
    refine ⟨cell, ?_⟩
    rw [cell] at dips swells
    by_cases swell : e.cls = .swell
    · simp only [swell, beq_self_eq_true, countGrid, if_true, State.setEd_ed] at dips swells
      simp only [t, dips, swells, length_countCell, getElem?_countCell, swell, ne_eq, not_true_eq_false, false_and, true_and,
        if_false, implies_true, and_self]
    · have notSwell : (e.cls == .swell) = false := beq_false_of_ne swell
      simp only [notSwell, countGrid, Bool.false_eq_true, if_false, State.setEd_ed] at dips swells
      simp only [t, dips, swells, length_countCell, getElem?_countCell, swell, ne_eq, not_false_eq_true, false_and, true_and,
        if_false, implies_true, and_self]
  · obtain ⟨dips, swells⟩ := cells_closeEvent s e .noData b stamp
    exact ⟨rfl, dips, swells⟩
  · have on : attributionOf s e = attributeOn s e x.phase := by
      simp only [attributionOf, notSwell, if_false, attributionPhase_eq nodup member lowest]
    intro none_ enabled
    dsimp only [none_, enabled]
    rw [on]
    refine ⟨fun off => ?_, fun on broken => ?_, fun on whole noPre => ?_, fun pre on whole hasPre => ⟨fun low => ?_,
      fun high noPeak => ?_, fun peak high hasPeak => ?_⟩⟩
    · simp [attributeOn, undetermined, off]
    · simp [attributeOn, undetermined, on, broken]
    · simp [attributeOn, undetermined, on, whole, noPre]
    · simp [attributeOn, undetermined, on, whole, hasPre, low]
    · simp [attributeOn, undetermined, on, whole, hasPre, Nat.not_lt.mpr high, noPeak]
    · simp only [attributeOn, on, whole, hasPre, Nat.not_lt.mpr high, hasPeak, Bool.not_true, Bool.false_eq_true, if_false]
      rfl

end Sys2Proof.Machine
end

section
/-! The Magnitude Unit (chapter 4): half-cycle sums, sliding values at a boundary, the snapshot and a RESTART. -/

namespace Sys2Proof.Machine

@[simp] theorem PerChannel.get_of {α : Type} (f : Channel → α) (c : Channel) : (PerChannel.of f).get c = f c := by
  cases c <;> rfl

/-! ## The window's flags -/

/-- A flag joined is set when it was set or its condition holds, and every other stands. -/
theorem WinFlag.getLsbD_join (f : WinFlag) (b : Bool) (m : BitVec 8) (i : Nat) :
    (f.join b m).getLsbD i = (m.getLsbD i || (b && f.mask.getLsbD i)) := by
  cases b <;> simp [WinFlag.join]

/-- Some channel has a property. -/
theorem any_allChannels (p : Channel → Bool) : allChannels.any p = true ↔ ∃ c, p c = true := by
  rw [List.any_eq_true]
  exact ⟨fun ⟨c, _, h⟩ => ⟨c, h⟩, fun ⟨c, h⟩ => ⟨c, mem_allChannels c, h⟩⟩

/-! ## The Event Detector leaves the Magnitude Unit -/

section
variable (s : State)

theorem mu_handRecord (body : RecordBody) : (handRecord body s).2.mu = s.mu := by
  obtain ⟨-, -, -, -, mu, -⟩ := blocks_of_recordless (recordless_handRecord s body)
  exact mu

theorem mu_closeEvent (e : OpenEvent) (cause : CloseCause) (b : Boundary) (stamp : Stamp) :
    (closeEvent e cause b stamp s).mu = s.mu := by
  have counted : ∀ swell cell, (countGrid swell cell s).mu = s.mu := fun swell cell => by
    unfold countGrid
    repeat' split
    all_goals rfl
  have handed := fun swell cell body => (mu_handRecord (countGrid swell cell s) body).trans (counted swell cell)
  unfold closeEvent
  dsimp only
  split
  · exact handed _ _ _
  · exact handed _ _ _

theorem mu_handTrigger (cause : TrigCause) (event k : Nat) : (handTrigger cause event k s).2.mu = s.mu := by
  unfold handTrigger trigger
  repeat' split
  all_goals rfl

theorem mu_openDip (w : BoundaryWork) : (openDip w s).mu = s.mu := mu_handTrigger _ _ _ _

theorem mu_openSwell (w : BoundaryWork) : (openSwell w s).mu = s.mu := mu_handTrigger _ _ _ _

theorem mu_escalate (w : BoundaryWork) : (escalate w s).mu = s.mu := by
  unfold escalate
  split
  · rfl
  · split
    · exact mu_handTrigger _ _ _ _
    · rfl

theorem mu_endTests (w : BoundaryWork) (ended : Nat → Bool) (e : OpenEvent) : (endTests w ended e s).mu = s.mu := by
  unfold endTests
  repeat' split
  · exact mu_closeEvent _ _ _ _ _
  · exact mu_closeEvent _ _ _ _ _
  · rfl

theorem mu_runDip (w : BoundaryWork) : (runDip w s).mu = s.mu := by
  unfold runDip
  split
  · split
    · exact (mu_escalate _ w).trans (mu_openDip s w)
    · rfl
  · dsimp only
    split
    · exact (mu_escalate _ w).trans rfl
    · exact (mu_endTests _ w _ _).trans ((mu_escalate _ w).trans rfl)

theorem mu_runSwell (w : BoundaryWork) : (runSwell w s).mu = s.mu := by
  unfold runSwell
  split
  · split
    · exact mu_openSwell s w
    · rfl
  · exact (mu_endTests _ w _ _).trans rfl

theorem mu_boundaryEvents (w : BoundaryWork) : (boundaryEvents w s).2.mu = s.mu := by
  unfold boundaryEvents
  dsimp only
  split
  · exact (mu_runSwell _ w).trans (mu_runDip s w)
  · rfl

/-! ## Window work leaves the half-cycle records -/

theorem mu_applyPendingCal : (applyPendingCal s).mu = s.mu := by
  obtain ⟨cc, eq⟩ := applyPendingCal_eq s
  rw [eq]
  rfl

theorem channels_startWindow (b : Boundary) (stamp : Stamp) (event : Bool) :
    (startWindow b stamp event s).mu.channels = s.mu.channels := by
  have applied := congrArg MU.channels (mu_applyPendingCal s)
  exact applied

theorem channels_windowWork (b : Boundary) (stamp : Stamp) (event : Bool) (values : PerChannel (Option Nat)) :
    (windowWork b stamp event values s).mu.channels = s.mu.channels := by
  unfold windowWork
  repeat' split
  · exact (channels_startWindow _ b stamp event).trans rfl
  · rfl
  · exact channels_startWindow s b stamp event
  · rfl

/-- The half-cycle records move on at a boundary (R57). -/
theorem channels_boundaryWork (b : Boundary) (k : Nat) :
    (boundaryWork b k s).2.mu.channels = s.mu.channels.map ChanSums.moveOn := by
  unfold boundaryWork
  dsimp only
  rw [channels_windowWork, mu_boundaryEvents]
  rfl

end

/-! ## Sums and sliding values -/

/-- A value added to a record, as R56 says it. -/
theorem Sums.add_eq (x : Sums) (v : Int) :
    x.add v =
      if v = 8388607 ∨ v = -8388608 then { x with strobes := x.strobes + 1 }
      else { sum := x.sum + (v * v).toNat, present := x.present + 1, strobes := x.strobes + 1 } := by
  have square : (v * v).toNat = v.natAbs * v.natAbs := by
    rw [← Int.natAbs_mul_self, Int.toNat_natCast]
  simp only [Sums.add, isMarker, missingCode, invalidCode, Bool.or_eq_true, beq_iff_eq, square]

/-- Without a record on each side, or with a cut one, the cycle just ended is not valid (R57). -/
theorem ChanSums.cycle_none {c : ChanSums} (h : c.previous = none ∨ c.running = none ∨ c.cut = true) : c.cycle = none := by
  unfold ChanSums.cycle
  split
  · next previous running cut => simp [previous, running, cut] at h
  · rfl

/-- The cycle just ended is the previous record with the running one, when it is covered well enough (R57). -/
theorem ChanSums.cycle_some {c : ChanSums} {p q : Sums} (previous : c.previous = some p) (running : c.running = some q)
    (cut : c.cut = false) :
    c.cycle = if 7 * (p.strobes + q.strobes) ≤ (p.present + q.present) * 8 then some (p.join q) else none := by
  simp only [ChanSums.cycle, previous, running, cut]
  rfl

/-- Settles O19: the sums channel by channel, the cycle by `ChanSums.cycle_some`, the snapshot after the decision. -/
theorem slidingMagnitudes : Obligations.SlidingMagnitudes := by
  unfold Obligations.SlidingMagnitudes
  refine ⟨fun c s r y running => ?_, fun b k s r => ?_, fun b values s => ?_, fun s r y running => ?_⟩
  · intro marker added t
    have add : ∀ z : Sums, z.add (c.values.get r) = added z := fun z => Sums.add_eq z _
    have channel : t.mu.channels.get r =
        { (s.mu.channels.get r) with running := (s.mu.channels.get r).running.map fun y => y.add (c.values.get r) } :=
      PerChannel.get_of _ r
    rw [channel]
    refine ⟨by simp only [running, Option.map_some, add], rfl, fun w window => ?_⟩
    refine ⟨w.addSet c, by simp [t, Machine.addSet, window], ?_, ?_, rfl, rfl⟩
    · exact (PerChannel.get_of _ r).trans (add _)
    · have marked : c.overrange.toList.any id = true ↔ ∃ q, c.overrange.get q = true := by
        rw [PerChannel.toList_eq, List.any_map]
        exact any_allChannels _
      have bit : WinFlag.mask .overrange = 64#8 := rfl
      simp only [Window.addSet, WinFlag.getLsbD_join, bit, BitVec.reduceGetLsb, Bool.and_true, Bool.or_eq_true, marked]
  · intro x placed
    have value : placed.1.get r = slidingValue s.sl.settings.declaredCounts r x := PerChannel.get_of _ r
    have moved : placed.2.mu.channels.get r = x.moveOn := by
      rw [channels_boundaryWork, PerChannel.get_map]
    rw [value, moved]
    refine ⟨fun absent => ?_, fun p q previous running cut => ?_, rfl, rfl, rfl⟩
    · rw [slidingValue, ChanSums.cycle_none absent]
      rfl
    · intro n e rms
      rw [slidingValue, ChanSums.cycle_some previous running cut]
      refine ⟨fun thin => ?_, fun covered current => ?_, fun covered voltage => ?_⟩
      · rw [if_neg (Nat.not_le.mpr thin)]
        rfl
      · rw [if_pos covered]
        simp only [Option.map_some, current, Bool.false_eq_true, if_false, Sums.join, rms, n]
      · rw [if_pos covered]
        simp only [Option.map_some, voltage, if_true, Sums.join, magnitudeOf, roundDiv, rms, n]
  · obtain ⟨x, eq⟩ := decideReference_setCt s values
    simp only [decideAt, eq]
    rfl
  · have channel : (restartMagnitude s).mu.channels.get r = (s.mu.channels.get r).restart := PerChannel.get_map _ _ r
    refine ⟨?_, rfl, rfl⟩
    rw [channel]
    simp [ChanSums.restart, running, Sums.zero]

end Sys2Proof.Machine
end

section
/-! Windows and their flags (sections 4.4 and 4.5). -/

namespace Sys2Proof.Machine

/-! ## The pending calibrations applied (R26) -/

/-- One module's pending calibration applied and discarded (R26). -/
def applyPendingOf (s : State) (m : Fin 4) : State :=
  match s.cc.pending.get m with
  | some r => applyResult m r (s.setCc { s.cc with pending := s.cc.pending.set m none })
  | none => s

theorem applyPendingCal_fold (s : State) : applyPendingCal s = allModules.foldl applyPendingOf s := rfl

theorem pending_applyPendingOf (s : State) (m : Fin 4) :
    (applyPendingOf s m).cc.pending = s.cc.pending.set m none := by
  unfold applyPendingOf
  split
  · rfl
  · next none =>
    rw [← none]
    exact (PerModule.set_get _ m).symm

/-- No calibration is pending after they have been applied (R26). -/
theorem pending_applyPendingCal (s : State) : (applyPendingCal s).cc.pending = ⟨none, none, none, none⟩ := by
  simp only [applyPendingCal_fold, allModules, List.foldl_cons, List.foldl_nil, pending_applyPendingOf]
  rfl

/-- An entry's result leaves what it names (R26). -/
theorem ChanEntry.applyResult_names (r : CalResult) (e : ChanEntry) :
    (e.applyResult r).enabled = e.enabled ∧ (e.applyResult r).module = e.module := by
  unfold ChanEntry.applyResult
  repeat' split
  all_goals exact ⟨rfl, rfl⟩

/-- Two tables enable and name the same. -/
def SameNames (t u : PerChannel ChanEntry) : Prop :=
  ∀ c, (u.get c).enabled = (t.get c).enabled ∧ (u.get c).module = (t.get c).module

theorem sameNames_applyPendingCal (s : State) : SameNames s.cc.table (applyPendingCal s).cc.table := by
  refine foldl_keeps (P := fun u => SameNames s.cc.table u.cc.table) (fun m _ u names => ?_) fun _ => ⟨rfl, rfl⟩
  split
  · next r _ =>
    intro c
    have entry : ((applyResult m r (u.setCc { u.cc with pending := u.cc.pending.set m none })).cc.table.get c) =
        if (u.cc.table.get c).module = m then (u.cc.table.get c).applyResult r else u.cc.table.get c := PerChannel.get_map _ _ c
    obtain ⟨enabled, module⟩ := names c
    rw [entry]
    split
    · obtain ⟨enabled', module'⟩ := (u.cc.table.get c).applyResult_names r
      exact ⟨enabled'.trans enabled, module'.trans module⟩
    · exact ⟨enabled, module⟩
  · exact names

/-! ## What the flags are for -/

section
variable (s : State)

/-- Whether some enabled entry names a module that is not QUALIFIED (R71). -/
theorem someUnqualified_iff :
    someUnqualified s = true ↔ ∃ c, (s.cc.table.get c).enabled = true ∧
      (s.mm.mods.get (s.cc.table.get c).module).state ≠ .qualified := by
  rw [someUnqualified, any_allChannels]
  simp [channelQualified]

theorem someNoData_iff (values : PerChannel (Option Nat)) :
    someNoData s values = true ↔ ∃ c, (s.cc.table.get c).enabled = true ∧ values.get c = none := by
  rw [someNoData, any_allChannels]
  simp

theorem someThin_iff (w : Window) :
    someThin s w = true ↔ ∃ c, (s.cc.table.get c).enabled = true ∧
      (w.sums.get c).present * 8 < 7 * (w.sums.get c).strobes := by
  rw [someThin, any_allChannels]
  simp

theorem uncalibrated_iff :
    uncalibrated s = true ↔ ∃ c, (s.cc.table.get c).enabled = true ∧
      ((s.cc.table.get c).cal = .default ∨ (s.cc.table.get c).cal = .rejected) := by
  rw [uncalibrated, PerChannel.toList_eq, List.any_map, any_allChannels]
  simp

/-- The module states that count are those of the entries as they were (R71). -/
theorem someUnqualified_applyPendingCal : someUnqualified (applyPendingCal s) = someUnqualified s := by
  have names := sameNames_applyPendingCal s
  have mm : (applyPendingCal s).mm = s.mm := by
    obtain ⟨cc, eq⟩ := applyPendingCal_eq s
    rw [eq]
    rfl
  unfold someUnqualified channelQualified
  simp only [names _, mm]

end

/-- No flag set is left by a join that joins none. -/
theorem WinFlag.join_eq_zero (f : WinFlag) (b : Bool) (m : BitVec 8) : f.join b m = 0 ↔ m = 0 ∧ b = false := by
  have mask : f.mask ≠ 0 := by cases f <;> decide
  cases b with
  | false => simp [WinFlag.join]
  | true =>
    simp only [WinFlag.join, if_true, Bool.true_eq_false, and_false, iff_false]
    intro zero
    exact mask (BitVec.or_eq_zero_iff.mp zero).2

/-! ## The start of a window (R62) -/

/-- The flags of a window as it starts (R67 to R72). -/
def startFlags (b : Boundary) (event : Bool) (s : State) : BitVec 8 :=
  WinFlag.refChange.join s.mu.carriedRefChange (WinFlag.timeStep.join s.mu.carriedTimeStep
    (WinFlag.uncal.join (uncalibrated (applyPendingCal s)) (edgeFlags (applyPendingCal s) b event 0)))

/-- The window that starts at a boundary (R62). -/
def startedWindow (b : Boundary) (stamp : Stamp) (event : Bool) (s : State) : Window :=
  { number := s.mu.counter, cycles := s.sl.settings.windowCycles, startNumber := b.number,
    startPosition := b.position, startStamp := stamp, sums := PerChannel.of fun _ => .zero, flags := startFlags b event s }

theorem startWindow_eq (b : Boundary) (stamp : Stamp) (event : Bool) (s : State) :
    startWindow b stamp event s = (applyPendingCal s).setMu { s.mu with
      window := some (startedWindow b stamp event s), carriedRefChange := false, carriedTimeStep := false,
      counter := wrap32 (s.mu.counter + 1) } := by
  obtain ⟨cc, eq⟩ := applyPendingCal_eq s
  simp only [startWindow, startedWindow, startFlags, eq]
  rfl

/-- The flags that a window starts with, bit by bit (R67 to R72). -/
theorem getLsbD_startFlags (b : Boundary) (event : Bool) (s : State) :
    (startFlags b event s).getLsbD 0 = event ∧ (startFlags b event s).getLsbD 1 = (b.kind == .synthetic) ∧
      (startFlags b event s).getLsbD 2 = s.mu.carriedRefChange ∧ (startFlags b event s).getLsbD 3 = false ∧
      (startFlags b event s).getLsbD 4 = someUnqualified s ∧
      (startFlags b event s).getLsbD 5 = uncalibrated (applyPendingCal s) ∧
      (startFlags b event s).getLsbD 6 = false ∧ (startFlags b event s).getLsbD 7 = s.mu.carriedTimeStep := by
  simp only [startFlags, edgeFlags, WinFlag.getLsbD_join, WinFlag.mask, someUnqualified_applyPendingCal]
  simp

/-! ## The end of a window (R64, R70) -/

/-- The flags of a boundary joined to those of the window (R67, R68, R70, R71). -/
def joinedFlags (b : Boundary) (event : Bool) (values : PerChannel (Option Nat)) (s : State) (w : Window) : BitVec 8 :=
  WinFlag.gap.join (someNoData s values) (edgeFlags s b event w.flags)

theorem windowWork_open {s : State} {w : Window} (window : s.mu.window = some w) (b : Boundary) (stamp : Stamp) (event : Bool)
    (values : PerChannel (Option Nat)) :
    windowWork b stamp event values s =
      if w.endsAt b then startWindow b stamp event (closeWindow w b stamp (joinedFlags b event values s w) s)
      else s.setMu { s.mu with window := some { w with flags := joinedFlags b event values s w } } := by
  simp only [windowWork, window]
  rfl

theorem windowWork_none {s : State} (window : s.mu.window = none) (b : Boundary) (stamp : Stamp) (event : Bool)
    (values : PerChannel (Option Nat)) :
    windowWork b stamp event values s =
      if s.ia.state = .running ∧ b.number % 2 = 0 then startWindow b stamp event s else s := by
  simp only [windowWork, window]

/-- The flags of a boundary in a window, bit by bit (R67, R68, R70, R71). -/
theorem getLsbD_joinedFlags (b : Boundary) (event : Bool) (values : PerChannel (Option Nat)) (s : State) (w : Window) :
    (joinedFlags b event values s w).getLsbD 0 = (w.flags.getLsbD 0 || event) ∧
      (joinedFlags b event values s w).getLsbD 1 = (w.flags.getLsbD 1 || b.kind == .synthetic) ∧
      (joinedFlags b event values s w).getLsbD 3 = (w.flags.getLsbD 3 || someNoData s values) ∧
      (joinedFlags b event values s w).getLsbD 4 = (w.flags.getLsbD 4 || someUnqualified s) ∧
      ∀ i, i ∈ [2, 5, 6, 7] → (joinedFlags b event values s w).getLsbD i = w.flags.getLsbD i := by
  simp only [joinedFlags, edgeFlags, WinFlag.getLsbD_join, WinFlag.mask]
  simp

/-- The flags of a window's result are none exactly when nothing flagged it (R70). -/
theorem closingFlags_eq_zero (b : Boundary) (event : Bool) (values : PerChannel (Option Nat)) (s : State) (w : Window) :
    WinFlag.gap.join (someThin s w) (joinedFlags b event values s w) = 0 ↔
      w.flags = 0 ∧ event = false ∧ b.kind = .crossing ∧ someUnqualified s = false ∧ someNoData s values = false ∧
        someThin s w = false := by
  have kind : (b.kind == .synthetic) = false ↔ b.kind = .crossing := by cases b.kind <;> decide
  simp only [joinedFlags, edgeFlags, WinFlag.join_eq_zero, kind]
  tauto

/-- Settles O20: the window that starts, the flags that join, and the result that the interval counts. -/
theorem windowsAndFlags : Obligations.WindowsAndFlags := by
  unfold Obligations.WindowsAndFlags
  refine ⟨fun b stamp event values s => ?_, fun s => ⟨fun w window => ?_, fun none running => ?_, fun none idle => ?_⟩⟩
  · intro t unqual noData
    have unqualIff : someUnqualified s = true ↔ unqual := someUnqualified_iff s
    have noDataIff : someNoData s values = true ↔ noData := someNoData_iff s values
    have started : ∀ u, t = startWindow b stamp event u → t = (applyPendingCal u).setMu { u.mu with
        window := some (startedWindow b stamp event u), carriedRefChange := false, carriedTimeStep := false,
        counter := wrap32 (u.mu.counter + 1) } := fun u eq => eq.trans (startWindow_eq b stamp event u)
    refine ⟨fun none idle => ?_, fun none running even => ?_, fun w window inside => ?_, fun w x window ends interval => ?_⟩
    · refine (windowWork_none none b stamp event values).trans (if_neg ?_)
      rintro ⟨running, even⟩
      rcases idle with no | odd
      · exact no running
      · omega
    · have starts : t = startWindow b stamp event s :=
        (windowWork_none none b stamp event values).trans (if_pos ⟨running, even⟩)
      obtain ⟨event', hold, refChange, gap, unq, uncal, overrange, timeStep⟩ := getLsbD_startFlags b event s
      rw [started s starts]
      refine ⟨startedWindow b stamp event s, rfl, rfl, rfl, rfl, rfl, rfl, fun c => PerChannel.get_of _ c, event', hold,
        refChange, gap, ?_, overrange, ?_, timeStep, pending_applyPendingCal s, rfl, rfl, rfl⟩
      · exact (Bool.eq_iff_iff.mp unq).trans unqualIff
      · exact (Bool.eq_iff_iff.mp uncal).trans (uncalibrated_iff _)
    · have notEnd : w.endsAt b = false := by
        simpa [Window.endsAt, wrap32] using inside
      have joined := windowWork_open window b stamp event values
      rw [notEnd, if_neg Bool.false_ne_true] at joined
      obtain ⟨event', hold, gap, unq, others⟩ := getLsbD_joinedFlags b event values s w
      refine ⟨{ w with flags := joinedFlags b event values s w }, joined, rfl, event', hold, ?_, ?_, others⟩
      · rw [← noDataIff, ← Bool.or_eq_true]
        exact Bool.eq_iff_iff.mp gap
      · rw [← unqualIff, ← Bool.or_eq_true]
        exact Bool.eq_iff_iff.mp unq
    · intro thin clean
      have isEnd : w.endsAt b = true := by
        simpa [Window.endsAt, wrap32] using ends
      have thinIff : someThin s w = true ↔ thin := someThin_iff s w
      have closed := windowWork_open window b stamp event values
      rw [isEnd, if_pos rfl] at closed
      obtain ⟨r, result⟩ : ∃ r, r = w.result s.sl.settings.declaredCounts b stamp
        (WinFlag.gap.join (someThin s w) (joinedFlags b event values s w)) := ⟨_, rfl⟩
      have cleanIff : r.flags = 0 ↔ clean := by
        rw [result]
        refine (closingFlags_eq_zero b event values s w).trans ?_
        simp only [← Bool.not_eq_true, unqualIff, noDataIff, thinIff, clean]
      obtain ⟨u, closing⟩ : ∃ u, u = closeWindow w b stamp (joinedFlags b event values s w) s := ⟨_, rfl⟩
      have counted : u.ia.interval = some (x.add r) := by
        rw [closing, result]
        simp [closeWindow, windowArrives, updInterval, interval]
      have counter : u.mu.counter = s.mu.counter := by
        rw [closing]
        rfl
      have ia : (applyPendingCal u).ia = u.ia := by
        obtain ⟨cc, eq⟩ := applyPendingCal_eq u
        rw [eq]
        rfl
      rw [started u (closed.trans (by rw [closing]))]
      refine ⟨x.add r, startedWindow b stamp event u, (congrArg IA.interval ia).trans counted, rfl, rfl, fun isClean => ?_,
        fun notClean => ?_, rfl, rfl, rfl, counter⟩
      · have zero : r.flags = 0 := cleanIff.mpr isClean
        simp [Interval.add, zero]
      · have some : (r.flags == 0) = false := beq_false_of_ne fun zero => notClean (cleanIff.mp zero)
        simp only [Interval.add, some, Bool.false_eq_true, if_false, and_self]
  · simp only [reportRefChange, reportTimeStep, window]
    exact ⟨rfl, rfl⟩
  · simp only [reportRefChange, reportTimeStep, none, running, if_true, and_self]
  · simp only [reportRefChange, reportTimeStep, none, idle, if_false, and_self]

end Sys2Proof.Machine
end

section
/-! Forwarding (R30 to R32) and the conditioned set (R21 to R24). -/

namespace Sys2Proof.Machine

/-! ## The outbound sample buffer (R32) -/

/-- Frames created one after another: those that find a place enter, and the rest are dropped with FORWARD_LOSS latched. -/
theorem foldl_pushFrame (frames : List FwdFrame) (s : State) (fits : s.cc.buffer.length ≤ 32) :
    frames.foldl pushFrame s =
      (s.setCc { s.cc with buffer := (s.cc.buffer ++ frames).take 32 }).setSl
        (if 32 < s.cc.buffer.length + frames.length then { s.sl with latched := s.sl.latched ||| 0x10000 } else s.sl) := by
  induction frames generalizing s with
  | nil =>
    have whole : (s.cc.buffer ++ []).take 32 = s.cc.buffer := by rw [List.append_nil, List.take_of_length_le fits]
    have none : ¬ 32 < s.cc.buffer.length + ([] : List FwdFrame).length := by simpa using fits
    rw [whole, if_neg none]
    rfl
  | cons f frames ih =>
    rw [List.foldl_cons]
    by_cases room : s.cc.buffer.length < 32
    · have pushed : pushFrame s f = s.setCc { s.cc with buffer := s.cc.buffer ++ [f] } := if_pos room
      rw [pushed, ih _ (by simp; omega)]
      have total : (s.cc.buffer ++ [f]).length + frames.length = s.cc.buffer.length + (f :: frames).length := by
        simp only [List.length_append, List.length_cons, List.length_nil]
        omega
      simp only [State.setCc_cc, State.setCc_sl, total, List.append_assoc, List.singleton_append]
      rfl
    · have full : s.cc.buffer.length = 32 := by omega
      have pushed : pushFrame s f = s.setSl { s.sl with latched := s.sl.latched ||| 0x10000 } := if_neg room
      have most : 32 < s.cc.buffer.length + (f :: frames).length := by
        simp only [List.length_cons]
        omega
      have take : ∀ l : List FwdFrame, (s.cc.buffer ++ l).take 32 = s.cc.buffer := fun l => by
        rw [← full, List.take_left']
        rfl
      rw [pushed, if_pos most]
      refine (ih _ (by exact fits)).trans ?_
      simp only [State.setSl_cc, State.setSl_sl, take, BitVec.or_assoc, BitVec.or_self, ite_self]
      rfl

/-! ## The parts of a strobe issue and the Channel Conditioner -/

section
variable (s : State)

theorem cc_readyTest : (readyTest s).cc = s.cc := by
  obtain ⟨-, -, cc, -⟩ := blocks_readyTest s
  exact cc

/-- All parts of a strobe issue but the sample path leave the Channel Conditioner. -/
theorem cc_issuePart (set : Option (Nat × PerModule (Option LaneFrame))) (rolled : Bool) {p : IssuePart}
    (other : p ≠ .sample) : (issuePart set rolled s p).cc = s.cc := by
  cases p with
  | sample => exact absurd rfl other
  | monitor =>
    have expired : ∀ u : State, (allModules.foldl expireModule u).cc = u.cc := fun u =>
      foldl_view (view := State.cc) _ (fun v m => by
        unfold expireModule
        dsimp only
        split <;> rfl) _
    have monitor : (monitorIssue s).cc = s.cc := by
      unfold monitorIssue
      split
      · exact (cc_readyTest _).trans (expired _)
      · rfl
    exact monitor
  | rollover =>
    cases rolled with
    | false => rfl
    | true =>
      have rollover : (rolloverReport s).cc = s.cc := by
        unfold rolloverReport
        split
        · have left := (measures_applyUnlessHold (closeInterval ⟨s.tb.seconds, 0⟩ false false s) .interval).trans
            (measures_closeInterval s ⟨s.tb.seconds, 0⟩ false false)
          simp only [measures, Prod.mk.injEq] at left
          obtain ⟨-, -, cc, -⟩ := left
          exact cc
        · rfl
      exact rollover
  | arm =>
    have arm : (armIssue s).cc = s.cc := by
      unfold armIssue
      split
      · dsimp only
        split <;> rfl
      · rfl
    exact arm
  | flush =>
    have flush : (flushAge s).cc = s.cc := by
      unfold flushAge
      split <;> rfl
    exact flush

/-- The set handed on is held by the forwarder (R30). -/
theorem held_takeSet (k : Nat) (frames : PerModule (Option LaneFrame)) :
    (takeSet k frames s).cc.held = some (condition s.cc.table k frames) := rfl

/-- A strobe issue leaves the set it hands on held (R6, R30). -/
theorem held_strobeIssue {k : Nat} {frames : PerModule (Option LaneFrame)} (set : setOf s = some (k, frames)) :
    (strobeIssue s).cc.held = some (condition s.cc.table k frames) := by
  refine strobeIssue_of_part .sample (P := fun u => u.cc.table = s.cc.table)
    (Q := fun u => u.cc.held = some (condition s.cc.table k frames)) rfl
    (fun q other u table => (congrArg CC.table (cc_issuePart u _ _ other)).trans table) (fun u table => ?_)
    (fun q other u held => (congrArg CC.held (cc_issuePart u _ _ other)).trans held)
  rw [set, ← table]
  exact held_takeSet u k frames

end

/-! ## The conditioned set (R21 to R24) -/

/-- Without an enabled entry that names it, a slot has none (R21). -/
theorem entryFor_none {table : PerChannel ChanEntry} {m : Fin 4} {slotB : Bool}
    (h : ∀ r, ¬ ((table.get r).enabled = true ∧ (table.get r).module = m ∧ (table.get r).slotB = slotB)) :
    entryFor table m slotB = none := by
  unfold entryFor
  rw [PerChannel.toList_eq, List.find?_eq_none]
  intro e member
  obtain ⟨r, -, rfl⟩ := List.mem_map.mp member
  simpa [and_assoc] using h r

/-- The one enabled entry that names a slot (R21). -/
theorem entryFor_some {table : PerChannel ChanEntry} {m : Fin 4} {slotB : Bool} {r : Channel}
    (names : (table.get r).enabled = true ∧ (table.get r).module = m ∧ (table.get r).slotB = slotB)
    (only : ∀ q, (table.get q).enabled = true ∧ (table.get q).module = m ∧ (table.get q).slotB = slotB → q = r) :
    entryFor table m slotB = some (table.get r) := by
  unfold entryFor
  rw [PerChannel.toList_eq, List.find?_map]
  cases found : allChannels.find? ((fun e => e.enabled && e.module == m && e.slotB == slotB) ∘ table.get) with
  | none =>
    have no := List.find?_eq_none.mp found r (mem_allChannels r)
    simp [names] at no
  | some q =>
    have named := List.find?_some found
    simp only [Function.comp_apply, Bool.and_eq_true, beq_iff_eq, and_assoc] at named
    rw [only q named]
    rfl

/-- Settles O18: the frames chosen enter in order, the set handed on is held, and each slot value follows its entry. -/
theorem forwarderTakesTheHeldSet : Obligations.ForwarderTakesTheHeldSet := by
  unfold Obligations.ForwarderTakesTheHeldSet
  refine ⟨fun s c newest collecting held fits => ?_, fun s fourth => ?_, fun table k frames => ?_⟩
  · intro t selected chosen half frames
    have same : allModules.filter (forwards s c.k collecting) = chosen := by
      refine List.filter_congr fun m _ => ?_
      have mode : (s.cc.pass.get m).selects c.k collecting = selected m := by
        dsimp only [selected]
        cases s.cc.pass.get m <;> rfl
      rw [forwards, mode]
      by_cases off : (s.mm.mods.get m).state = .disabled <;> simp [off]
    have taken : t = (forward collecting c s).setCc { (forward collecting c s).cc with held := some newest } := by
      simp only [t, forwardHeld, held]
    cases link : s.sl.linkUp with
    | false =>
      have none : forward collecting c s = s := by simp [forward, link]
      rw [taken, none]
      exact ⟨rfl, nofun, fun _ => ⟨rfl, rfl⟩, rfl⟩
    | true =>
      have pushed : forward collecting c s = frames.foldl pushFrame s := by
        simp only [forward, link, if_true, same]
        exact (List.foldl_map ..).symm
      rw [taken, pushed, foldl_pushFrame frames s fits]
      refine ⟨rfl, fun _ => ⟨rfl, fun over' => if_pos over', fun room => if_neg (Nat.not_lt.mpr room)⟩, nofun, rfl⟩
  · have set : setOf s = some (nextStrobe s - 4, closingFrames (nextStrobe s) s) := by
      simp only [setOf, setAtIssue, fourth, if_true, Option.map_some]
    exact ⟨_, exec_strobeIssue s, held_strobeIssue s set⟩
  · intro c value names
    have valueEq : ∀ m slotB, value m slotB = slotValue table (frames.get m) m slotB := by
      intro m slotB
      cases slotB with
      | true => exact PerModule.get_of _ m
      | false => exact PerModule.get_of _ m
    refine ⟨rfl, fun m slotB => ?_, fun r => ?_⟩
    · rw [valueEq]
      refine ⟨fun none => by rw [none]; rfl, fun f some => ?_⟩
      rw [some]
      intro raw
      refine ⟨fun fault => ?_, fun sound unnamed => ?_, fun r sound named only => ?_⟩
      · simp only [slotValue, fault, if_true, invalidCode]
      · simp only [slotValue, sound, Bool.false_eq_true, if_false, entryFor_none unnamed, missingCode]
      · simp only [slotValue, sound, Bool.false_eq_true, if_false, entryFor_some named only]
        rfl
    · intro e
      rw [valueEq]
      refine ⟨PerChannel.get_map _ _ r, ?_⟩
      have mark : c.overrange.get r = overrangeMark e (frames.get e.module) := PerChannel.get_map _ _ r
      rw [mark]
      unfold overrangeMark
      cases frames.get e.module with
      | none => simp
      | some f => simp [LaneFrame.raw, LaneFrame.over, and_assoc, or_assoc]

end Sys2Proof.Machine
end

section
/-! The arithmetic of the measurement: rounding, the integer square root, calibration, crossings and frequencies. -/

namespace Sys2Proof.Machine

/-! ## Rounding and the square root (section 6.4) -/

/-- A rounded quotient is the nearest whole number, a half rounded up. -/
theorem roundDiv_bounds (a : Nat) {b : Nat} (pos : 0 < b) :
    2 * a < 2 * b * roundDiv a b + b ∧ 2 * b * roundDiv a b ≤ 2 * a + b := by
  have low := Nat.div_mul_le_self (2 * a + b) (2 * b)
  have high := Nat.lt_div_mul_add (a := 2 * a + b) (b := 2 * b) (by omega)
  have comm : (2 * a + b) / (2 * b) * (2 * b) = 2 * b * roundDiv a b := Nat.mul_comm _ _
  omega

/-- The digits from bit b down complete a root that lies within 2^b below the number's. -/
theorem isqrtFrom_spec (n b r : Nat) (low : r * r ≤ n) (high : n < (r + 2 ^ b) * (r + 2 ^ b)) :
    isqrtFrom n b r * isqrtFrom n b r ≤ n ∧ n < (isqrtFrom n b r + 1) * (isqrtFrom n b r + 1) := by
  induction b generalizing r with
  | zero => exact ⟨low, high⟩
  | succ b ih =>
    have twice : r + 2 ^ (b + 1) = r + 2 ^ b + 2 ^ b := by rw [Nat.pow_succ]; omega
    rw [twice] at high
    unfold isqrtFrom
    split
    · next fits => exact ih _ fits high
    · next tooLarge => exact ih _ low (Nat.not_le.mp tooLarge)

theorem isqrt_spec {n : Nat} (small : n < 2 ^ 96) : isqrt n * isqrt n ≤ n ∧ n < (isqrt n + 1) * (isqrt n + 1) :=
  isqrtFrom_spec n 48 0 (Nat.zero_le n) (by omega)

/-! ## Calibration (R22) -/

/-- A rounded value brought into the range of a calibrated sample (R22). -/
def clampSample (c : Int) : Int := if 8388606 < c then 8388606 else if c < -8388607 then -8388607 else c

/-- A product over 32,768, rounded half away from zero (R22). -/
def roundedSample (product : Int) : Int :=
  if product < 0 then -(((product.natAbs + 16384) / 32768 : Nat) : Int) else ((product.natAbs + 16384) / 32768 : Nat)

theorem calibrate_eq (raw offset : Int) (gain : Nat) :
    calibrate raw offset gain = clampSample (roundedSample ((raw - offset) * gain)) := rfl

theorem clampSample_range (c : Int) : clampSample c ≤ 8388606 ∧ -8388607 ≤ clampSample c := by
  unfold clampSample
  repeat' split
  all_goals omega

theorem clampSample_inside {c : Int} (low : -8388607 ≤ c) (high : c ≤ 8388606) : clampSample c = c := by
  unfold clampSample
  rw [if_neg (by omega), if_neg (by omega)]

/-- The rounded value lies within half a count, a half rounded away from zero (R22). -/
theorem roundedSample_near (x : Int) :
    2 * (32768 * roundedSample x - x).natAbs ≤ 32768 ∧
      (2 * (32768 * roundedSample x - x).natAbs = 32768 → x.natAbs < (32768 * roundedSample x).natAbs) := by
  unfold roundedSample
  split
  · constructor <;> omega
  · constructor <;> omega

theorem roundedSample_abs (x : Int) : (roundedSample x).natAbs = (x.natAbs + 16384) / 32768 := by
  unfold roundedSample
  split <;> omega

/-! ## Crossings (R38) -/

/-- The fraction of a crossing is the nearest, and at least 1 (R38). -/
theorem crossingFraction_spec {p q : Int} (crosses : (p < 0 ∧ 0 ≤ q) ∨ (0 ≤ p ∧ q < 0)) :
    let n := 256 * p.natAbs
    let d := p.natAbs + q.natAbs
    let f := crossingFraction p q
    1 ≤ f ∧ f ≤ 256 ∧ (f = 1 ∧ 2 * n < d ∨ 2 * n < 2 * d * f + d ∧ 2 * d * f ≤ 2 * n + d) := by
  intro n d f
  have pos : 0 < d := by omega
  obtain ⟨above, below⟩ := roundDiv_bounds n pos
  have fraction : f = max 1 (roundDiv n d) := rfl
  have most : roundDiv n d ≤ 256 := by
    unfold roundDiv
    refine Nat.lt_succ_iff.mp ((Nat.div_lt_iff_lt_mul (by omega)).mpr ?_)
    omega
  rcases Nat.eq_zero_or_pos (roundDiv n d) with zero | some
  · rw [zero] at above fraction
    exact ⟨by omega, by omega, .inl ⟨by omega, by omega⟩⟩
  · have eq : f = roundDiv n d := by omega
    rw [eq]
    exact ⟨some, most, .inr ⟨above, below⟩⟩

theorem crosses_iff (p q : Int) : crosses p q = true ↔ (p < 0 ∧ 0 ≤ q) ∨ (0 ≤ p ∧ q < 0) := by
  simp [crosses]

theorem crossingAt_none {k : Nat} {p q : Int}
    (h : isMarker p = true ∨ isMarker q = true ∨ (p < 0 ∧ q < 0) ∨ (0 ≤ p ∧ 0 ≤ q)) : crossingAt k (some p) q = none := by
  have no : ¬ ((!isMarker p && !isMarker q && crosses p q) = true) := by
    simp only [Bool.and_eq_true, Bool.not_eq_true', crosses_iff]
    rintro ⟨⟨soundP, soundQ⟩, cross⟩
    rcases h with marker | marker | below | above
    · exact absurd marker (by simp [soundP])
    · exact absurd marker (by simp [soundQ])
    · omega
    · omega
  exact if_neg no

theorem crossingAt_some {k : Nat} {p q : Int} (cross : (p < 0 ∧ 0 ≤ q) ∨ (0 ≤ p ∧ q < 0)) (soundP : isMarker p = false)
    (soundQ : isMarker q = false) : crossingAt k (some p) q = some (k * 256 + crossingFraction p q - 256) := by
  have yes : (!isMarker p && !isMarker q && crosses p q) = true := by
    simp only [soundP, soundQ, (crosses_iff p q).mpr cross, Bool.not_false, Bool.and_self]
  exact if_pos yes

/-! ## The frequency of a window (R65) -/

/-- Half-cycles of 23,296 to 40,960 fine units give 40,000 to 70,330 mHz (R65). -/
theorem windowFrequency_range {cycles length : Nat} (some : 0 < cycles) (short : 2 * cycles * 23296 ≤ length)
    (long : length ≤ 2 * cycles * 40960) :
    40000 ≤ windowFrequency cycles length ∧ windowFrequency cycles length ≤ 70330 := by
  unfold windowFrequency roundDiv
  constructor
  · rw [Nat.le_div_iff_mul_le (by omega)]
    omega
  · refine Nat.lt_succ_iff.mp ((Nat.div_lt_iff_lt_mul (by omega)).mpr ?_)
    omega

/-- Settles O17, each figure from the bounds of its rounding. -/
theorem measurementArithmetic : Obligations.MeasurementArithmetic := by
  unfold Obligations.MeasurementArithmetic
  refine ⟨fun k q => ⟨rfl, fun p => crossingAt_none⟩, fun k p q cross soundP soundQ later => ?_, fun n => isqrt_spec,
    fun raw offset gain => ?_, fun cycles length pos => roundDiv_bounds _ pos, fun cycles length => windowFrequency_range,
    fun w b stamp flags s => rfl⟩
  · intro n d f
    refine ⟨?_, crossingFraction_spec cross⟩
    rw [crossingAt_some cross soundP soundQ]
    exact congrArg some (by omega)
  · intro exact c
    have eq : c = clampSample (roundedSample exact) := calibrate_eq raw offset gain
    obtain ⟨high, low⟩ := clampSample_range (roundedSample exact)
    have size := roundedSample_abs exact
    rw [eq]
    refine ⟨high, low, ?_, ?_, fun inside => ?_, fun above => ?_, fun below => ?_⟩
    · simp only [isMarker, missingCode, invalidCode, Bool.or_eq_false_iff, beq_eq_false_iff_ne, ne_eq]
      omega
    · rw [calibrate_eq]
      simp [roundedSample, clampSample]
    · rw [clampSample_inside (by omega) (by omega)]
      exact roundedSample_near exact
    · have positive : 0 ≤ roundedSample exact := by
        unfold roundedSample
        rw [if_neg (by omega)]
        omega
      unfold clampSample
      rw [if_pos (by omega)]
    · have negative : roundedSample exact ≤ 0 := by
        unfold roundedSample
        rw [if_pos (by omega)]
        omega
      unfold clampSample
      rw [if_neg (by omega)]
      split <;> omega

end Sys2Proof.Machine
end

section
/-! Captures (chapter 6): the start, the taking of a set, the close, and the release of the memory. -/

namespace Sys2Proof.Machine

/-- The Capture Unit as the memory of a capture is released (R108). -/
def releasedCu (s : State) : CU :=
  if s.ia.state = .running ∧ 0 < s.sl.settings.captureHoldoff then
    { state := .holdoff, ring := [], hand := none, holdoff := s.sl.settings.captureHoldoff * 256 }
  else { state := .filling, ring := [], hand := none, holdoff := 0 }

section
variable (s : State)

theorem cu_releaseCapture : (releaseCapture s).cu = releasedCu s := by
  unfold releaseCapture releasedCu
  split <;> rfl

theorem releasedCu_congr {s t : State} (ia : t.ia = s.ia) (settings : t.sl.settings = s.sl.settings) :
    releasedCu t = releasedCu s := by
  simp only [releasedCu, ia, settings]

theorem releasedCu_of_recordless {s t : State} (h : recordless t = recordless s) : releasedCu t = releasedCu s := by
  have settings := congrArg (fun u => u.sl.settings) h
  exact releasedCu_congr (ia_of_recordless h) settings

/-! ## The release at a departure (R108, R139) -/

/-- The departure of a CAPTURE entry releases the memory (R108). -/
theorem cu_departed_capture {e : Entry} (capture : e.record.body.isCapture = true) : (departed s e).cu = releasedCu s := by
  unfold departed
  dsimp only
  rw [if_pos capture, cu_releaseCapture]
  split
  · exact releasedCu_congr rfl rfl
  · rfl

/-- Departures among which there is a CAPTURE entry release the memory, whatever their order. -/
theorem cu_foldl_departed {l : List Entry} (capture : ∃ e ∈ l, e.record.body.isCapture = true) :
    (l.foldl departed s).cu = releasedCu s := by
  induction l generalizing s with
  | nil =>
    obtain ⟨e, member, -⟩ := capture
    exact absurd member List.not_mem_nil
  | cons a l ih =>
    have same : releasedCu (departed s a) = releasedCu s := releasedCu_of_recordless (recordless_departed s a)
    rw [List.foldl_cons]
    by_cases more : ∃ e ∈ l, e.record.body.isCapture = true
    · exact (ih (departed s a) more).trans same
    · have first : a.record.body.isCapture = true := by
        obtain ⟨e, member, isCapture⟩ := capture
        rcases List.mem_cons.mp member with rfl | member
        · exact isCapture
        · exact absurd ⟨e, member, isCapture⟩ more
      refine foldl_keeps (P := fun u => u.cu = releasedCu s) (fun e member u cu => ?_) (cu_departed_capture s first)
      have plain : e.record.body.isCapture = false := by
        rw [← Bool.not_eq_true]
        exact fun isCapture => more ⟨e, member, isCapture⟩
      exact (cu_departed plain).trans cu

theorem cu_sweep {e : Entry} (member : e ∈ s.rq.entries) (capture : e.record.body.isCapture = true)
    (leaves : e.leaves = true) : (sweep s).cu = releasedCu s :=
  (cu_foldl_departed _ ⟨e, List.mem_filter.mpr ⟨member, leaves⟩, capture⟩).trans (releasedCu_congr rfl rfl)

theorem cu_discardEntries {e : Entry} (member : e ∈ s.rq.entries) (capture : e.record.body.isCapture = true) :
    (discardEntries s).cu = releasedCu s := by
  have some : (s.rq.entries.any fun e => e.record.body.isCapture) = true := List.any_eq_true.mpr ⟨e, member, capture⟩
  unfold discardEntries
  dsimp only
  rw [if_pos some, cu_releaseCapture]
  exact releasedCu_of_recordless ((recordless_countLost _ _).trans rfl)

/-! ## The close of a capture (R107) -/

/-- A capture in hand with its close's marks, the unit WAITING (R107). -/
def closingState (c : Capture) (s : State) : State := s.setCu { s.cu with state := .waiting, hand := some c }

theorem closeCapture_eq {h : Capture} (hand : s.cu.hand = some h) (truncated cut : Bool) :
    closeCapture truncated cut s =
      match handRecord (.capture (captureBody { h with truncated := truncated, cut := cut }))
        (closingState { h with truncated := truncated, cut := cut } s) with
      | (.entered _, t) => t
      | (_, t) => releaseCapture t := by
  simp only [closeCapture, hand] <;> rfl

/-- A record entered where no entry has both marks. -/
theorem handRecord_stays {n : Nat} {body : RecordBody} (mounted : s.sr.state = .mounted) (next : s.rq.next = .number n)
    (room : s.rq.entries.length < 15) (marks : ∀ e ∈ s.rq.entries, e.stored = false ∨ e.emitted = false) :
    handRecord body s =
      (.entered n, s.setRq { s.rq.numbered n body with
        entries := s.rq.entries ++ [newEntry (s.setRq (s.rq.numbered n body)) (formRecord s n body)] }) := by
  rw [handRecord_entered (recordNumber_of (.inl mounted) next) (hasSlot_of_length room _), sweep_of_undeparting]
  intro e member
  rcases List.mem_append.mp member with old | new
  · rcases marks e old with mark | mark <;> simp [Entry.leaves, mark]
  · rw [List.mem_singleton.mp new]
    simp [Entry.leaves, newEntry, mounted]

/-- A record that finds no number or no slot is not entered (R136, R137). -/
theorem handRecord_notEntered (body : RecordBody)
    (h : 16 ≤ s.rq.entries.length ∨ (s.sr.state ≠ .mounted ∧ s.sr.state ≠ .faulted)) :
    ∀ n, (handRecord body s).1 ≠ .entered n := by
  intro n
  cases number : recordNumber s with
  | none =>
    rw [handRecord_notCreated number]
    exact nofun
  | some k =>
    have full : ¬ hasSlot body.isEnd s.rq.entries = true := by
      rw [hasSlot_iff]
      rintro ⟨room, -⟩
      rcases h with full | unmounted
      · omega
      · rw [recordNumber_none (.inl unmounted)] at number
        exact absurd number nofun
    rw [handRecord_lost number full]
    exact nofun

/-- A close whose record is not entered releases the memory (R107). -/
theorem cu_closeCapture_released {h : Capture} (hand : s.cu.hand = some h) (truncated cut : Bool)
    (lost : 16 ≤ s.rq.entries.length ∨ (s.sr.state ≠ .mounted ∧ s.sr.state ≠ .faulted)) :
    (closeCapture truncated cut s).cu = releasedCu s := by
  rw [closeCapture_eq s hand]
  have no := handRecord_notEntered (closingState { h with truncated := truncated, cut := cut } s)
    (.capture (captureBody { h with truncated := truncated, cut := cut })) lost
  have left := recordless_handRecord (closingState { h with truncated := truncated, cut := cut } s)
    (.capture (captureBody { h with truncated := truncated, cut := cut }))
  generalize handRecord _ _ = r at no left
  split
  · next n t => exact absurd rfl (no n)
  · exact (cu_releaseCapture _).trans ((releasedCu_of_recordless left).trans (releasedCu_congr rfl rfl))

/-- A close whose record enters leaves the unit WAITING with the capture in hand (R107). -/
theorem closeCapture_entered {h : Capture} (hand : s.cu.hand = some h) (truncated cut : Bool) {n : Nat}
    (mounted : s.sr.state = .mounted) (next : s.rq.next = .number n) (room : s.rq.entries.length < 15)
    (marks : ∀ e ∈ s.rq.entries, e.stored = false ∨ e.emitted = false) :
    (closeCapture truncated cut s).cu =
        { s.cu with state := .waiting, hand := some { h with truncated := truncated, cut := cut } } ∧
      ∃ e, (closeCapture truncated cut s).rq.entries = s.rq.entries ++ [e] ∧ e.record.sequence = n ∧
        e.record.body = .capture (captureBody { h with truncated := truncated, cut := cut }) := by
  rw [closeCapture_eq s hand, handRecord_stays (closingState { h with truncated := truncated, cut := cut } s) mounted next room
    marks]
  exact ⟨rfl, _, rfl, rfl, rfl⟩

/-- In COLLECTING the unit collects the set into the capture in hand (R105). -/
theorem captureTake_collecting {h : Capture} (state : s.cu.state = .collecting) (hand : s.cu.hand = some h) (c : CondSet) :
    captureTake c s = collect c h s := by
  simp only [captureTake, state, hand]

end

/-- Settles O23: the start and the miss by the trigger's cases, the close by `collect_eq`, the release by departures. -/
theorem capturesStartCollectAndClose : Obligations.CapturesStartCollectAndClose := by
  unfold Obligations.CapturesStartCollectAndClose
  intro s x channels released
  have release : releasedCu s = released := rfl
  refine ⟨fun cause event strobe filling => ?_, fun cause event strobe missed => ?_, fun c h state hand => ?_,
    fun e member capture stored emitted => ⟨?_, ?_⟩, fun e member capture => ?_⟩
  · have starts : trigger cause event strobe s = (.started, startCapture cause event strobe s) := by
      simp only [trigger, filling]
    exact ⟨_, starts, rfl, rfl, rfl, rfl, rfl, rfl, rfl, rfl, rfl, rfl, rfl, rfl, rfl, rfl, rfl⟩
  · rcases missed with state | state
    · simp only [trigger, state]
      rfl
    · simp only [trigger, state]
      rfl
  · intro g t
    have taking : h.taking c = g := rfl
    have same : g.postEnd = h.postEnd ∧ g.limit = h.limit := by
      dsimp only [g]
      split <;> exact ⟨rfl, rfl⟩
    obtain ⟨postEnd, limit⟩ := same
    have taken : t = _ := (captureTake_collecting s state hand c).trans (collect_eq s c h)
    rw [taking, postEnd, limit] at taken
    refine ⟨fun before room => ?_, fun closes => ?_⟩
    · rw [taken, if_neg before, if_neg (Nat.not_le.mpr room)]
    · have closed : t = closeCapture (decide (c.k + 1 ≠ h.postEnd)) false (s.setCu { s.cu with hand := some g }) := by
        by_cases atEnd : c.k + 1 = h.postEnd
        · rw [taken, if_pos atEnd]
          simp [atEnd]
        · rw [taken, if_neg atEnd, if_pos (closes.resolve_left atEnd)]
          simp [atEnd]
      refine ⟨fun n mounted next room marks => ?_, fun lost => ?_⟩
      · intro truncated
        obtain ⟨cu, e, entries, sequence, eBody⟩ := closeCapture_entered (s.setCu { s.cu with hand := some g }) (h := g) rfl
          truncated false mounted next room marks
        rw [closed]
        refine ⟨cu, e, _, entries, sequence, eBody, rfl, ?_⟩
        have first : ∀ p more, g.points = p :: more →
            firstStrobe { g with truncated := truncated, cut := false } = BitVec.ofNat 32 p.strobe := fun p more points => by
          simp only [firstStrobe, points]
        have others : g.channels = h.channels ∧ g.decim = h.decim ∧ g.prePoints = h.prePoints ∧
            g.startStrobe = h.startStrobe ∧ g.startStamp = h.startStamp ∧ g.triggers = h.triggers ∧
            g.overflow = h.overflow := by
          dsimp only [g]
          split <;> exact ⟨rfl, rfl, rfl, rfl, rfl, rfl, rfl⟩
        obtain ⟨channels, decim, prePoints, startStrobe, startStamp, triggers, overflow⟩ := others
        refine ⟨rfl, channels, decim, prePoints, ?_, postEnd, startStrobe, startStamp, triggers, overflow, first⟩
        rw [← prePoints]
        rfl
      · rw [closed]
        exact (cu_closeCapture_released (s.setCu { s.cu with hand := some g }) (h := g) rfl _ _ lost).trans
          (releasedCu_congr rfl rfl)
  · exact cu_sweep s member capture (by simp [Entry.leaves, stored, emitted])
  · rw [rq_sweep]
    simp [Entry.leaves, stored, emitted]
  · exact cu_discardEntries s member capture

end Sys2Proof.Machine
end

section
/-! The close of an interval, what adds to it, and the application of the pending set (section 7.2, R193). -/

namespace Sys2Proof.Machine

/-! ## Figures and bands (R123, R124) -/

/-- The figures of a channel: absent without a window, else the RMS as a magnitude with minimum and maximum (R123). -/
theorem figures_spec (d : Nat) (y : VoltStat) :
    (y.count = 0 → y.figures d = none) ∧
      ∀ lo hi, y.count ≠ 0 → y.min = some lo → y.max = some hi →
        y.figures d = some (min 65535 ((2 * (isqrt (y.sumSq / y.count) * 10000) + d) / (2 * d)), lo, hi) := by
  refine ⟨fun none => if_pos none, fun lo hi some min max => ?_⟩
  simp only [VoltStat.figures, some, if_false, min, max, Option.getD_some, magnitudeOf, roundDiv]

/-- The band result of a phase: absent without clean figures, else whether its clean RMS lies in the band (R124). -/
theorem bandResult_spec (p : Profile) (clean : Option (Nat × Nat × Nat)) :
    (clean = none → bandResult p clean = none) ∧
      ∀ rms lo hi, clean = some (rms, lo, hi) →
        bandResult p clean = some (decide (p.bandLow ≤ rms ∧ rms ≤ p.bandHigh)) := by
  constructor
  · rintro rfl
    rfl
  · rintro rms lo hi rfl
    rfl

/-- An interval is in band when it has a result and none is OUT (R124). -/
theorem inBand_iff (b : IntervalBody) : b.inBand = true ↔ some true ∈ b.bands ∧ some false ∉ b.bands := by
  simp only [IntervalBody.inBand, Bool.and_eq_true, List.any_eq_true, List.all_eq_true, bne_iff_ne, ne_eq]
  constructor
  · rintro ⟨⟨r, member, isSome⟩, noneOut⟩
    refine ⟨?_, fun out => noneOut _ out rfl⟩
    match r with
    | some true => exact member
    | some false => exact absurd rfl (noneOut _ member)
    | none => exact absurd isSome nofun
  · rintro ⟨inside, noneOut⟩
    exact ⟨⟨_, inside, rfl⟩, fun r member out => noneOut (out ▸ member)⟩

/-- No phase has a band result. -/
theorem noBand_iff (b : IntervalBody) :
    b.bands.all Option.isNone = true ↔ some true ∉ b.bands ∧ some false ∉ b.bands := by
  simp only [List.all_eq_true, Option.isNone_iff_eq_none]
  constructor
  · intro none
    exact ⟨fun h => absurd (none _ h) nofun, fun h => absurd (none _ h) nofun⟩
  · rintro ⟨noIn, noOut⟩ r member
    match r with
    | some true => exact absurd member noIn
    | some false => exact absurd member noOut
    | none => rfl

theorem closeInterval_some {s : State} {x : Interval} (interval : s.ia.interval = some x) (stop : Stamp) (ended early : Bool) :
    (closeInterval stop ended early s).rq = (handRecord (.interval (intervalBody s x stop ended early)) s).2.rq ∧
      (closeInterval stop ended early s).ia = { s.ia with
        interval := none, summary := s.ia.summary.addInterval (intervalBody s x stop ended early) } := by
  have ia := ia_of_recordless (recordless_handRecord s (.interval (intervalBody s x stop ended early)))
  simp only [closeInterval, interval, updSummary, State.setIa_rq, State.setIa_ia, ia, and_self]

/-! ## Window results (R121) -/

theorem lower_eq (old : Option Nat) (v : Nat) : lower old v = some ((old.map (min v)).getD v) := by
  cases old with
  | none => rfl
  | some x => exact congrArg some (Nat.min_comm x v)

theorem higher_eq (old : Option Nat) (v : Nat) : higher old v = some ((old.map (max v)).getD v) := by
  cases old with
  | none => rfl
  | some x => exact congrArg some (Nat.max_comm x v)

/-- A channel's items with a window's figures, or as they were without one (R121). -/
theorem VoltStat.add_spec (y : VoltStat) (rms magnitude : Option Nat) :
    (rms = none → y.add rms magnitude = y) ∧
      ∀ r m, rms = some r → magnitude = some m →
        y.add rms magnitude =
          { count := y.count + 1, sumSq := y.sumSq + r * r, min := some ((y.min.map (Min.min m)).getD m),
            max := some ((y.max.map (Max.max m)).getD m) } := by
  constructor
  · rintro rfl
    rfl
  · rintro r m rfl rfl
    simp only [VoltStat.add, lower_eq, higher_eq]

theorem CurrStat.add_spec (y : CurrStat) (rms : Option Nat) :
    (rms = none → y.add rms = y) ∧
      ∀ r, rms = some r → y.add rms = { count := y.count + 1, sumSq := y.sumSq + r * r } := by
  constructor
  · rintro rfl
    rfl
  · rintro r rfl
    rfl

/-! ## Starts and escalations (R122) -/

section
variable (s : State)

/-- A trigger leaves the open interval and the Event Detector. -/
theorem handTrigger_leaves (cause : TrigCause) (event k : Nat) :
    (handTrigger cause event k s).2.ia.interval = s.ia.interval ∧ (handTrigger cause event k s).2.ed = s.ed := by
  unfold handTrigger trigger
  repeat' split
  all_goals exact ⟨rfl, rfl⟩

theorem interval_openDip (w : BoundaryWork) :
    (openDip w s).ia.interval = s.ia.interval.map fun x => { x with dipStarts := x.dipStarts + 1 } := by
  obtain ⟨interval, -⟩ := handTrigger_leaves (s.setEd { s.ed with eventNumber := nextEvent s }) .dip (nextEvent s) w.k
  exact congrArg (Option.map fun x : Interval => { x with dipStarts := x.dipStarts + 1 }) interval

theorem interval_openSwell (w : BoundaryWork) :
    (openSwell w s).ia.interval = s.ia.interval.map fun x => { x with swellStarts := x.swellStarts + 1 } := by
  obtain ⟨interval, -⟩ := handTrigger_leaves (s.setEd { s.ed with eventNumber := nextEvent s }) .swell (nextEvent s) w.k
  exact congrArg (Option.map fun x : Interval => { x with swellStarts := x.swellStarts + 1 }) interval

/-- The value of an included phase (R80). -/
theorem includedValue_eq_some {w : BoundaryWork} {p : Phase} {v : Nat} :
    includedValue s w p = some v ↔ (s.cc.table.get p.voltage).enabled = true ∧
      (s.mm.mods.get (s.cc.table.get p.voltage).module).state = .qualified ∧ w.values.get p.voltage = some v := by
  unfold includedValue channelQualified
  split
  · next both =>
    simp only [Bool.and_eq_true, beq_iff_eq] at both
    simp [both]
  · next notBoth =>
    simp only [Bool.and_eq_true, beq_iff_eq] at notBoth
    simp only [reduceCtorEq, false_iff]
    exact fun h => notBoth ⟨h.1, h.2.1⟩

/-- All three phases are included and below a threshold (R84). -/
theorem allBelow_iff (w : BoundaryWork) (threshold : Nat) :
    allBelow s w threshold = true ↔ ∀ p, ∃ v, includedValue s w p = some v ∧ v < threshold := by
  simp only [allBelow, List.all_eq_true, mem_allPhases, forall_const, Option.any_eq_true, decide_eq_true_eq]

/-- A dip that all three phases take below the interruption threshold becomes an INTERRUPTION (R84). -/
theorem escalate_some {w : BoundaryWork} {e : OpenEvent} (dip : s.ed.dip = some e) :
    escalate w s =
      if e.cls = .dip ∧ allBelow s w e.intrStart = true then
        let r := handTrigger .interruption e.number w.k s
        updInterval (fun x => { x with escalations := x.escalations + 1 }) (r.2.setEd { r.2.ed with
          dip := some { e with cls := .interruption, openSub := some w.boundary.position, intrOutcome := r.1 } })
      else s := by
  simp only [escalate, dip]

end

/-! ## The pending set (R193) -/

/-- The mask of what is pending, bit by bit (section 12.5). -/
theorem getLsbD_pendingBits : ∀ a b c d e : Bool,
    (BitVec.ofNat 8 (bits [a, b, c, d, e])).getLsbD 0 = a ∧ (BitVec.ofNat 8 (bits [a, b, c, d, e])).getLsbD 1 = b ∧
      (BitVec.ofNat 8 (bits [a, b, c, d, e])).getLsbD 2 = c ∧ (BitVec.ofNat 8 (bits [a, b, c, d, e])).getLsbD 3 = d ∧
      (BitVec.ofNat 8 (bits [a, b, c, d, e])).getLsbD 4 = e ∧
      ∀ i : Fin 3, (BitVec.ofNat 8 (bits [a, b, c, d, e])).getLsbD (5 + i) = false := by
  decide

/-- Nothing is pending exactly when the mask is 0. -/
theorem pendingMask_eq_zero (s : State) :
    pendingMask s = 0 ↔ s.sl.pending = ⟨none, none, none, none⟩ ∧ s.ed.pendingLimits = none := by
  have zero : ∀ a b c d e : Bool, BitVec.ofNat 8 (bits [a, b, c, d, e]) = 0 ↔
      a = false ∧ b = false ∧ c = false ∧ d = false ∧ e = false := by decide
  unfold pendingMask
  dsimp only
  rw [zero]
  obtain ⟨a, b, c, d⟩ := s.sl.pending
  cases a <;> cases b <;> cases c <;> cases d <;> simp [Option.isSome_eq_false_iff]

theorem applyPending_nothing {s : State} (nothing : pendingMask s = 0) (cause : SettingsCause) : applyPending cause s = s :=
  if_pos nothing

theorem applyPending_something {s : State} (something : pendingMask s ≠ 0) (cause : SettingsCause) :
    applyPending cause s = (handRecord (settingsBodyOf cause (pendingMask s) (placePending s)) (placePending s)).2 :=
  if_neg something

/-- The settings in force once every pending value is (R193). -/
def Settings.placed (x : Settings) (p : PendingSet) : Settings :=
  { x with
    intervalSeconds := p.intervalSeconds.getD x.intervalSeconds, activeProfile := p.activeProfile.getD x.activeProfile,
    attribThreshold := p.attribThreshold.getD x.attribThreshold, attribFloor := p.attribFloor.getD x.attribFloor }

/-- What is in force and pending after an application (R193). -/
theorem planned_applyPending (s : State) (cause : SettingsCause) :
    planned (applyPending cause s) =
      (s.sl.settings.placed s.sl.pending, ⟨none, none, none, none⟩, s.ed.pendingLimits.getD s.ed.limits, none) := by
  by_cases nothing : pendingMask s = 0
  · obtain ⟨pending, limits⟩ := (pendingMask_eq_zero s).mp nothing
    rw [applyPending_nothing nothing]
    simp only [planned, pending, limits]
    rfl
  · rw [applyPending_something nothing, planned_of_recordless (recordless_handRecord _ _)]
    rfl

/-- Settles O28: the figures of the body, the items of a window result, the starts, and the values placed. -/
theorem intervalsCloseAndSettingsApply : Obligations.IntervalsCloseAndSettingsApply := by
  unfold Obligations.IntervalsCloseAndSettingsApply
  refine ⟨fun s x stop ended early interval => ?_, fun s w x interval => ?_, fun s w x interval => ?_, fun s cause => ?_⟩
  · intro d profile figures band current t
    obtain ⟨rq, ia⟩ := closeInterval_some interval stop ended early
    refine ⟨intervalBody s x stop ended early, rq, rfl, rfl, rfl, rfl, rfl, rfl, rfl, rfl, figures_spec _ _, figures_spec _ _,
      figures_spec _ _, figures_spec _ _, figures_spec _ _, figures_spec _ _, figures_spec _ _, figures_spec _ _,
      bandResult_spec _ _, bandResult_spec _ _, bandResult_spec _ _, rfl, rfl, rfl, rfl, rfl, rfl, rfl, rfl, rfl, rfl, ?_⟩
    intro bands
    refine ia.trans ?_
    have inside := inBand_iff (intervalBody s x stop ended early)
    have none := noBand_iff (intervalBody s x stop ended early)
    have counts : s.ia.summary.addInterval (intervalBody s x stop ended early) =
        { s.ia.summary with
          intervals := s.ia.summary.intervals + 1
          inBand := s.ia.summary.inBand + (if some true ∈ bands ∧ some false ∉ bands then 1 else 0)
          noClean := s.ia.summary.noClean + (if some true ∉ bands ∧ some false ∉ bands then 1 else 0) } := by
      have up : ∀ (p : Prop) [Decidable p] (n : Nat), (if p then n + 1 else n) = n + (if p then 1 else 0) := by
        intro p _ n
        split <;> rfl
      rw [← up, ← up]
      simp only [Summary.addInterval, inside, none]
      rfl
    rw [counts]
  · intro added joined
    refine ⟨x.add w, by simp only [windowArrives, updInterval, interval, Option.map_some], rfl, rfl, ?_,
      VoltStat.add_spec _ _ _, VoltStat.add_spec _ _ _, VoltStat.add_spec _ _ _, VoltStat.add_spec _ _ _, fun flagged => ?_,
      fun clean => ?_, CurrStat.add_spec _ _, CurrStat.add_spec _ _, CurrStat.add_spec _ _, CurrStat.add_spec _ _, rfl, rfl,
      lower_eq _ _, higher_eq _ _, rfl, rfl, rfl⟩
    · by_cases clean : w.flags = 0
      · simp [Interval.add, clean]
      · have notClean : ¬ w.flags = 0#8 := clean
        simp [Interval.add, notClean]
    · have some : (w.flags == 0) = false := beq_false_of_ne flagged
      simp only [Interval.add, some, Bool.false_eq_true, if_false]
    · have none : (w.flags == 0) = true := beq_iff_eq.mpr clean
      simp only [Interval.add, none, if_true]
      exact ⟨VoltStat.add_spec _ _ _, VoltStat.add_spec _ _ _, VoltStat.add_spec _ _ _, VoltStat.add_spec _ _ _⟩
  · refine ⟨by rw [interval_openDip, interval]; rfl, by rw [interval_openSwell, interval]; rfl, ?_⟩
    intro escalates
    have below : ∀ e, s.ed.dip = some e → (e.cls = .dip ∧ allBelow s w e.intrStart = true ↔ escalates) := by
      intro e dip
      simp only [allBelow_iff, includedValue_eq_some, escalates, dip, Option.some.injEq, exists_eq_left', and_assoc,
        exists_and_left]
    refine ⟨fun yes => ?_, fun no => ?_⟩
    · obtain ⟨e, dip, -⟩ := id yes
      obtain ⟨same, -⟩ := handTrigger_leaves s .interruption e.number w.k
      rw [escalate_some s dip, if_pos ((below e dip).mpr yes)]
      refine ⟨?_, _, rfl, rfl⟩
      simp only [updInterval, State.setEd_ia, State.setIa_ia, same, interval, Option.map_some]
    · cases dip : s.ed.dip with
      | none => simp only [escalate, dip]
      | some e => rw [escalate_some s dip, if_neg fun yes => no ((below e dip).mp yes)]
  · intro p x t empty inForce
    have plan := planned_applyPending s cause
    simp only [planned, Prod.mk.injEq] at plan
    obtain ⟨settings, pending, limits, pendingLimits⟩ := plan
    refine ⟨fun hold => if_pos hold, fun off => if_neg (by rw [off]; exact Bool.false_ne_true), fun none noTable => ?_, pending,
      pendingLimits, settings, limits, fun n some mounted next room marks => ?_⟩
    · exact applyPending_nothing ((pendingMask_eq_zero s).mpr ⟨none, noTable⟩) cause
    · have something : pendingMask s ≠ 0 := by
        intro zero
        obtain ⟨none, noTable⟩ := (pendingMask_eq_zero s).mp zero
        rcases some with some | some
        · exact some none
        · rw [noTable] at some
          exact absurd some Bool.false_ne_true
      obtain ⟨interval, profile, threshold, floor, table, rest⟩ := getLsbD_pendingBits p.intervalSeconds.isSome
        p.activeProfile.isSome p.attribThreshold.isSome p.attribFloor.isSome s.ed.pendingLimits.isSome
      have handed := handRecord_stays (placePending s)
        (body := settingsBodyOf cause (pendingMask s) (placePending s)) mounted next room marks
      have eq : t = _ := (applyPending_something something cause).trans (congrArg Prod.snd handed)
      refine ⟨_, pendingMask s, by rw [eq]; rfl, rfl, ?_, interval, profile, threshold, floor, table, fun i high => ?_⟩
      · rw [limits]
        rfl
      · by_cases inside : i < 8
        · obtain ⟨j, rfl⟩ := Nat.exists_eq_add_of_le high
          exact rest ⟨j, by omega⟩
        · exact BitVec.getLsbD_of_ge _ _ (Nat.not_lt.mp inside)

end Sys2Proof.Machine
end

section
/-! The event machines at a boundary: what their tests say, and what each step of a machine leaves (sections 5.3 to 5.5). -/

namespace Sys2Proof.Machine

/-! ## Inclusion (R80) -/

section
variable (s : State) (w : BoundaryWork)

theorem someIncluded_iff (test : Nat → Bool) :
    someIncluded s w test = true ↔ ∃ p x, includedValue s w p = some x ∧ test x = true := by
  simp only [someIncluded, List.any_eq_true, mem_allPhases, true_and, Option.any_eq_true]

/-- Some phase is included. -/
theorem anyIncluded_iff : allPhases.any (included s w) = true ↔ ∃ p, includedValue s w p ≠ none := by
  simp only [List.any_eq_true, mem_allPhases, true_and, included, Option.isSome_iff_ne_none]

theorem everyIncluded_iff (test : Nat → Bool) :
    everyIncluded s w test = true ↔
      (∃ p, includedValue s w p ≠ none) ∧ ∀ p x, includedValue s w p = some x → test x = true := by
  rw [everyIncluded, Bool.and_eq_true, anyIncluded_iff]
  simp only [List.all_eq_true, mem_allPhases, forall_const, Option.all_eq_true_iff_get]
  refine and_congr_right fun _ => forall_congr' fun p => ?_
  cases includedValue s w p <;> simp

/-- What the tests of a machine look at. -/
def detects (s : State) := (s.cc, s.mm, s.sl.settings, s.ed.limits, s.ed.previousCurrents, s.ed.lastBoundary)

/-- Dip-family events closed, counted (R133). -/
def dipCount (s : State) : Nat := s.ia.summary.dips + s.ia.summary.interruptions

theorem includedValue_congr {s t : State} (h : detects t = detects s) : includedValue t w = includedValue s w := by
  simp only [detects, Prod.mk.injEq] at h
  obtain ⟨cc, mm, -⟩ := h
  funext p
  unfold includedValue channelQualified
  rw [cc, mm]

theorem someIncluded_congr {s t : State} (h : detects t = detects s) : someIncluded t w = someIncluded s w := by
  funext test
  simp only [someIncluded, includedValue_congr w h]

theorem everyIncluded_congr {s t : State} (h : detects t = detects s) : everyIncluded t w = everyIncluded s w := by
  funext test
  have same : included t w = included s w := by
    funext p
    simp only [included, includedValue_congr w h]
  simp only [everyIncluded, same, includedValue_congr w h]

theorem allBelow_congr {s t : State} (h : detects t = detects s) : allBelow t w = allBelow s w := by
  funext threshold
  simp only [allBelow, includedValue_congr w h]

theorem activeProfile_congr {s t : State} (h : detects t = detects s) : activeProfile t = activeProfile s := by
  simp only [detects, Prod.mk.injEq] at h
  obtain ⟨-, -, settings, limits, -⟩ := h
  simp only [activeProfile, settings, limits]

/-! ## What each step leaves -/

theorem detects_of_recordless {s t : State} (h : recordless t = recordless s) :
    detects t = detects s ∧ dipCount t = dipCount s := by
  obtain ⟨-, mm, cc, -, -, ed, -, -, -, ia⟩ := blocks_of_recordless h
  have settings := congrArg (fun u => u.sl.settings) h
  have settings' : t.sl.settings = s.sl.settings := settings
  simp only [detects, dipCount, mm, cc, ed, settings', ia, and_self]

theorem detects_handTrigger (cause : TrigCause) (event k : Nat) :
    detects (handTrigger cause event k s).2 = detects s ∧ dipCount (handTrigger cause event k s).2 = dipCount s := by
  unfold handTrigger trigger
  repeat' split
  all_goals exact ⟨rfl, rfl⟩

/-- A close leaves what the tests look at and the event number, and counts by class (R93, R133). -/
theorem detects_closeEvent (e : OpenEvent) (cause : CloseCause) (b : Boundary) (stamp : Stamp) :
    detects (closeEvent e cause b stamp s) = detects s ∧
      (closeEvent e cause b stamp s).ed.eventNumber = s.ed.eventNumber ∧
      dipCount (closeEvent e cause b stamp s) = if e.cls = .swell then dipCount s else dipCount s + 1 := by
  have handed : ∀ swell cell body, detects (handRecord body (countGrid swell cell s)).2 = detects s ∧
      dipCount (handRecord body (countGrid swell cell s)).2 = dipCount s ∧
      (handRecord body (countGrid swell cell s)).2.ed.eventNumber = s.ed.eventNumber := by
    intro swell cell body
    have left := recordless_handRecord (countGrid swell cell s) body
    obtain ⟨seen, count⟩ := detects_of_recordless left
    obtain ⟨-, -, -, -, -, ed, -⟩ := blocks_of_recordless left
    have counted : detects (countGrid swell cell s) = detects s ∧ dipCount (countGrid swell cell s) = dipCount s ∧
        (countGrid swell cell s).ed.eventNumber = s.ed.eventNumber := by
      unfold countGrid
      repeat' split
      all_goals exact ⟨rfl, rfl, rfl⟩
    exact ⟨seen.trans counted.1, count.trans counted.2.1, (congrArg ED.eventNumber ed).trans counted.2.2⟩
  have byClass : ∀ u : State, detects (countClose e.cls u) = detects u ∧
      dipCount (countClose e.cls u) = if e.cls = .swell then dipCount u else dipCount u + 1 := by
    intro u
    refine ⟨rfl, ?_⟩
    cases e.cls with
    | dip => exact Nat.add_right_comm _ 1 _
    | interruption => rfl
    | swell => rfl
  obtain ⟨seen, count, number⟩ := handed (e.cls == .swell) (eventBody s (e.closeSub b.position) cause b stamp).cell
    (.event (eventBody s (e.closeSub b.position) cause b stamp))
  have cleared : ∀ u : State, (detects u = detects s ∧ dipCount u = dipCount s ∧ u.ed.eventNumber = s.ed.eventNumber) →
      detects (countClose e.cls u) = detects s ∧ (countClose e.cls u).ed.eventNumber = s.ed.eventNumber ∧
        dipCount (countClose e.cls u) = if e.cls = .swell then dipCount s else dipCount s + 1 := by
    rintro u ⟨seen, count, number⟩
    obtain ⟨seen', count'⟩ := byClass u
    exact ⟨seen'.trans seen, number, by rw [count', count]⟩
  unfold closeEvent
  dsimp only
  rw [OpenEvent.closeSub_cls]
  refine cleared _ ?_
  split <;> exact ⟨seen, count, number⟩

end

end Sys2Proof.Machine
end

section
/-! The dip-family machine at a boundary (R82 to R87). -/

namespace Sys2Proof.Machine

/-! ## Phases as they open, update and join (R82, R83) -/

section
variable (s : State) (w : BoundaryWork)

/-- The phases listed at an opening are the included ones beyond the threshold (R82). -/
theorem mem_startEntries {beyond : Nat → Bool} {y : PhaseEntry} :
    y ∈ startEntries s w beyond ↔
      ∃ p x, includedValue s w p = some x ∧ beyond x = true ∧
        y = ({ phase := p, extreme := x, time := 0, join := 0 } : PhaseEntry) := by
  simp only [startEntries, List.mem_filterMap, mem_allPhases, true_and]
  refine exists_congr fun p => ?_
  cases includedValue s w p with
  | none => exact ⟨fun no => absurd no nofun, fun ⟨x, no, _⟩ => absurd no nofun⟩
  | some x =>
    constructor
    · intro listed
      dsimp only at listed
      split at listed
      · next past => exact ⟨x, rfl, past, (Option.some.inj listed).symm⟩
      · exact absurd listed nofun
    · rintro ⟨_, value, past, rfl⟩
      obtain rfl := Option.some.inj value
      exact if_pos past

theorem PhaseEntry.update_phase (length : Nat) (beyond : Nat → Bool) (worse : Nat → Nat → Nat) (y : PhaseEntry) :
    (y.update s w length beyond worse).phase = y.phase := by
  unfold PhaseEntry.update
  split <;> rfl

/-- A phase beyond the threshold is listed after an update, with the worse of its extremes (R83). -/
theorem mem_update_phases {beyond : Nat → Bool} {e : OpenEvent} {p : Phase} {x : Nat} (value : includedValue s w p = some x)
    (past : beyond x = true) (worse : Nat → Nat → Nat) :
    ∃ y ∈ (e.update s w beyond worse).phases, y.phase = p ∧ ∃ z, y.extreme = worse z x := by
  have listed : ∃ y ∈ e.phases ++ joiners s w e beyond, y.phase = p := by
    by_cases before : ∃ y ∈ e.phases, y.phase = p
    · obtain ⟨y, member, phase⟩ := before
      exact ⟨y, List.mem_append_left _ member, phase⟩
    · have fresh : (e.phases.any fun y => y.phase == p) = false := by
        rw [← Bool.not_eq_true, List.any_eq_true]
        rintro ⟨y, member, phase⟩
        exact before ⟨y, member, by simpa using phase⟩
      refine ⟨{ phase := p, extreme := x, time := 0, join := w.boundary.position - e.startPosition },
        List.mem_append_right _ (List.mem_filterMap.mpr ⟨p, mem_allPhases p, ?_⟩), rfl⟩
      simp only [value, past, fresh, Bool.not_false, Bool.and_self, if_true]
  obtain ⟨y, member, phase⟩ := listed
  refine ⟨_, List.mem_map_of_mem member, (PhaseEntry.update_phase s w _ _ _ y).trans phase, y.extreme, ?_⟩
  simp only [PhaseEntry.update, phase, value]

/-- With no phase included nothing joins and nothing is updated (R83). -/
theorem update_phases_none {beyond : Nat → Bool} {e : OpenEvent} (none : ∀ p, includedValue s w p = none)
    (worse : Nat → Nat → Nat) : (e.update s w beyond worse).phases = e.phases := by
  have joins : joiners s w e beyond = [] := by
    simp only [joiners, List.filterMap_eq_nil_iff]
    intro p _
    rw [none p]
  simp only [OpenEvent.update, joins, List.append_nil]
  refine (List.map_congr_left fun y _ => ?_).trans (List.map_id _)
  simp only [PhaseEntry.update, none]
  rfl

/-- The boundaries without an included phase are counted in a row (R87). -/
theorem update_noInclusion (e : OpenEvent) (beyond : Nat → Bool) (worse : Nat → Nat → Nat) :
    ((∃ p, includedValue s w p ≠ none) → (e.update s w beyond worse).noInclusion = 0) ∧
      ((∀ p, includedValue s w p = none) → (e.update s w beyond worse).noInclusion = e.noInclusion + 1) := by
  refine ⟨fun some => if_pos ((anyIncluded_iff s w).mpr some), fun none => if_neg ?_⟩
  rw [anyIncluded_iff]
  rintro ⟨p, some⟩
  exact some (none p)

/-! ## The sub-span test (R85) -/

/-- An event of class DIP has no sub-span test. -/
theorem OpenEvent.subTest_dip {e : OpenEvent} (dip : e.cls = .dip) : e.subTest s w = e := by
  simp [OpenEvent.subTest, dip]

theorem OpenEvent.subTest_open {e : OpenEvent} (cls : e.cls = .interruption) {start : Nat} (sub : e.openSub = some start) :
    e.subTest s w =
      if someIncluded s w fun v => decide (e.intrStart + e.hyst ≤ v) then e.closeSub w.boundary.position else e := by
  simp only [OpenEvent.subTest, cls, if_true, sub]

theorem OpenEvent.subTest_closed {e : OpenEvent} (cls : e.cls = .interruption) (sub : e.openSub = none) :
    e.subTest s w =
      if allBelow s w e.intrStart then { e with openSub := some w.boundary.position } else e := by
  simp only [OpenEvent.subTest, cls, if_true, sub]

/-- The sub-span test changes the sub-spans alone (R85). -/
theorem OpenEvent.subTest_leaves (e : OpenEvent) :
    (e.subTest s w).cls = e.cls ∧ (e.subTest s w).phases = e.phases ∧ (e.subTest s w).noInclusion = e.noInclusion ∧
      (e.subTest s w).number = e.number ∧ (e.subTest s w).startThreshold = e.startThreshold ∧
      (e.subTest s w).intrStart = e.intrStart ∧ (e.subTest s w).hyst = e.hyst ∧ (e.subTest s w).pre = e.pre := by
  have closed : (e.closeSub w.boundary.position).cls = e.cls ∧ (e.closeSub w.boundary.position).phases = e.phases ∧
      (e.closeSub w.boundary.position).noInclusion = e.noInclusion ∧ (e.closeSub w.boundary.position).number = e.number ∧
      (e.closeSub w.boundary.position).startThreshold = e.startThreshold ∧
      (e.closeSub w.boundary.position).intrStart = e.intrStart ∧ (e.closeSub w.boundary.position).hyst = e.hyst ∧
      (e.closeSub w.boundary.position).pre = e.pre := by
    unfold OpenEvent.closeSub
    split <;> exact ⟨rfl, rfl, rfl, rfl, rfl, rfl, rfl, rfl⟩
  unfold OpenEvent.subTest
  repeat' split
  · exact closed
  · exact ⟨rfl, rfl, rfl, rfl, rfl, rfl, rfl, rfl⟩
  · exact ⟨rfl, rfl, rfl, rfl, rfl, rfl, rfl, rfl⟩
  · exact ⟨rfl, rfl, rfl, rfl, rfl, rfl, rfl, rfl⟩
  · exact ⟨rfl, rfl, rfl, rfl, rfl, rfl, rfl, rfl⟩

/-! ## The escalation (R84) -/

/-- An event after the escalation test (R84). -/
def OpenEvent.escalated (outcome : TrigOutcome) (e : OpenEvent) : OpenEvent :=
  if e.cls = .dip ∧ allBelow s w e.intrStart = true then
    { e with cls := .interruption, openSub := some w.boundary.position, intrOutcome := outcome }
  else e

/-- The escalation test leaves all but the dip-family event, as far as the machines go (R84). -/
theorem escalate_leaves :
    detects (escalate w s) = detects s ∧ dipCount (escalate w s) = dipCount s ∧
      (escalate w s).ed.swell = s.ed.swell ∧ (escalate w s).ed.eventNumber = s.ed.eventNumber := by
  cases dip : s.ed.dip with
  | none =>
    have same : escalate w s = s := by simp only [escalate, dip]
    rw [same]
    exact ⟨rfl, rfl, rfl, rfl⟩
  | some e =>
    rw [escalate_some s dip]
    split
    · obtain ⟨seen, count⟩ := detects_handTrigger s .interruption e.number w.k
      obtain ⟨-, ed⟩ := handTrigger_leaves s .interruption e.number w.k
      have swell := congrArg ED.swell ed
      have number := congrArg ED.eventNumber ed
      exact ⟨seen, count, swell, number⟩
    · exact ⟨rfl, rfl, rfl, rfl⟩

theorem dip_escalate {e : OpenEvent} (dip : s.ed.dip = some e) :
    ∃ outcome, (escalate w s).ed.dip = some (e.escalated s w outcome) := by
  rw [escalate_some s dip]
  unfold OpenEvent.escalated
  split
  · exact ⟨_, rfl⟩
  · exact ⟨.none, dip⟩

/-- The escalation changes the class and the sub-span alone (R84). -/
theorem OpenEvent.escalated_leaves (outcome : TrigOutcome) (e : OpenEvent) :
    (e.escalated s w outcome).phases = e.phases ∧ (e.escalated s w outcome).noInclusion = e.noInclusion ∧
      (e.escalated s w outcome).number = e.number ∧ (e.escalated s w outcome).startThreshold = e.startThreshold ∧
      (e.escalated s w outcome).hyst = e.hyst ∧ (e.escalated s w outcome).pre = e.pre ∧
      (e.escalated s w outcome).subTotal = e.subTotal ∧ (e.escalated s w outcome).subCount = e.subCount ∧
      (e.cls ≠ .swell → (e.escalated s w outcome).cls ≠ .swell) := by
  unfold OpenEvent.escalated
  split
  · exact ⟨rfl, rfl, rfl, rfl, rfl, rfl, rfl, rfl, fun _ => nofun⟩
  · exact ⟨rfl, rfl, rfl, rfl, rfl, rfl, rfl, rfl, id⟩

/-- A dip that all three phases take below the interruption threshold becomes an INTERRUPTION with a sub-span (R84). -/
theorem OpenEvent.escalated_low {e : OpenEvent} (dip : e.cls = .dip) (low : allBelow s w e.intrStart = true)
    (outcome : TrigOutcome) :
    (e.escalated s w outcome).cls = .interruption ∧ (e.escalated s w outcome).openSub = some w.boundary.position := by
  rw [OpenEvent.escalated, if_pos ⟨dip, low⟩]
  exact ⟨rfl, rfl⟩

theorem OpenEvent.escalated_same {e : OpenEvent} (stays : e.cls ≠ .dip ∨ allBelow s w e.intrStart = false)
    (outcome : TrigOutcome) : e.escalated s w outcome = e := by
  refine if_neg ?_
  rintro ⟨dip, low⟩
  rcases stays with notDip | high
  · exact notDip dip
  · rw [high] at low
    exact absurd low Bool.false_ne_true

/-! ## The end tests (R86, R87) -/

theorem endTests_normal {ended : Nat → Bool} (e : OpenEvent) (all : everyIncluded s w ended = true) :
    endTests w ended e s = closeEvent e .normal w.boundary w.stamp s := if_pos all

theorem endTests_noData {ended : Nat → Bool} {e : OpenEvent} (notAll : everyIncluded s w ended = false)
    (long : 4 ≤ e.noInclusion) : endTests w ended e s = closeEvent e .noData w.boundary w.stamp s := by
  rw [endTests, notAll, if_neg Bool.false_ne_true, if_pos long]

theorem endTests_stays {ended : Nat → Bool} {e : OpenEvent} (notAll : everyIncluded s w ended = false)
    (short : e.noInclusion < 4) : endTests w ended e s = s := by
  rw [endTests, notAll, if_neg Bool.false_ne_true, if_neg (Nat.not_le.mpr short)]

/-- The end tests leave the other machine, and what the tests look at (R90). -/
theorem endTests_leaves (ended : Nat → Bool) (e : OpenEvent) :
    detects (endTests w ended e s) = detects s ∧ (endTests w ended e s).ed.eventNumber = s.ed.eventNumber ∧
      (e.cls ≠ .swell → (endTests w ended e s).ed.swell = s.ed.swell) ∧
      (e.cls = .swell → (endTests w ended e s).ed.dip = s.ed.dip ∧ dipCount (endTests w ended e s) = dipCount s) := by
  have closed : ∀ cause, detects (closeEvent e cause w.boundary w.stamp s) = detects s ∧
      (closeEvent e cause w.boundary w.stamp s).ed.eventNumber = s.ed.eventNumber ∧
      (e.cls ≠ .swell → (closeEvent e cause w.boundary w.stamp s).ed.swell = s.ed.swell) ∧
      (e.cls = .swell → (closeEvent e cause w.boundary w.stamp s).ed.dip = s.ed.dip ∧
        dipCount (closeEvent e cause w.boundary w.stamp s) = dipCount s) := by
    intro cause
    obtain ⟨seen, number, count⟩ := detects_closeEvent s e cause w.boundary w.stamp
    obtain ⟨-, dip, swell⟩ := ed_closeEvent s e cause w.boundary w.stamp
    exact ⟨seen, number, fun no => swell.trans (if_neg no), fun yes => ⟨dip.trans (if_pos yes), count.trans (if_pos yes)⟩⟩
  unfold endTests
  repeat' split
  · exact closed _
  · exact closed _
  · exact ⟨rfl, rfl, fun _ => rfl, fun _ => ⟨rfl, rfl⟩⟩

end

end Sys2Proof.Machine
end

section
/-! The two event machines over a boundary (R79 to R90). -/

namespace Sys2Proof.Machine

section
variable (s : State) (w : BoundaryWork)

/-! ## The dip-family machine -/

/-- The event that the dip-family machine opens (R82). -/
def openedDip (outcome : TrigOutcome) : OpenEvent :=
  { openEvent s w .dip (activeProfile s).dipStart (activeProfile s).intrStart (activeProfile s).hyst
      (fun v => decide (v < (activeProfile s).dipStart)) with startOutcome := outcome }

theorem openDip_leaves :
    detects (openDip w s) = detects s ∧ (openDip w s).ed.swell = s.ed.swell ∧
      ∃ outcome, (openDip w s).ed.dip = some (openedDip s w outcome) := by
  obtain ⟨seen, -⟩ := detects_handTrigger (s.setEd { s.ed with eventNumber := nextEvent s }) .dip (nextEvent s) w.k
  obtain ⟨-, ed⟩ := handTrigger_leaves (s.setEd { s.ed with eventNumber := nextEvent s }) .dip (nextEvent s) w.k
  have swell := congrArg ED.swell ed
  exact ⟨seen, swell, _, rfl⟩

/-- An event of the dip-family machine updated at a boundary, before the escalation test (R83, R85). -/
def OpenEvent.dipUpdated (e : OpenEvent) : OpenEvent :=
  (e.update s w (fun v => decide (v < e.startThreshold)) min).subTest s w

theorem OpenEvent.dipUpdated_leaves (e : OpenEvent) :
    (e.dipUpdated s w).cls = e.cls ∧ (e.dipUpdated s w).number = e.number ∧
      (e.dipUpdated s w).startThreshold = e.startThreshold ∧ (e.dipUpdated s w).intrStart = e.intrStart ∧
      (e.dipUpdated s w).hyst = e.hyst ∧ (e.dipUpdated s w).pre = e.pre ∧
      (e.dipUpdated s w).phases = (e.update s w (fun v => decide (v < e.startThreshold)) min).phases ∧
      (e.dipUpdated s w).noInclusion = (e.update s w (fun v => decide (v < e.startThreshold)) min).noInclusion := by
  obtain ⟨cls, phases, noInclusion, number, threshold, intr, hyst, pre⟩ :=
    OpenEvent.subTest_leaves s w (e.update s w (fun v => decide (v < e.startThreshold)) min)
  exact ⟨cls, number, threshold, intr, hyst, pre, phases, noInclusion⟩

/-- With no event open and no included phase below the threshold, the dip-family machine does nothing (R82). -/
theorem runDip_idle (dip : s.ed.dip = none) (high : ∀ p x, includedValue s w p = some x → (activeProfile s).dipStart ≤ x) :
    runDip w s = s := by
  have none : someIncluded s w (fun v => decide (v < (activeProfile s).dipStart)) = false := by
    rw [← Bool.not_eq_true, someIncluded_iff]
    rintro ⟨p, x, value, low⟩
    have := high p x value
    have := of_decide_eq_true low
    omega
  simp only [runDip, dip, none, Bool.false_eq_true, if_false]

/-- An included phase below the threshold opens an event, and the escalation test follows (R82, R84). -/
theorem runDip_opens (dip : s.ed.dip = none)
    (low : ∃ p x, includedValue s w p = some x ∧ x < (activeProfile s).dipStart) :
    detects (runDip w s) = detects s ∧ (runDip w s).ed.swell = s.ed.swell ∧
      ∃ outcome outcome', (runDip w s).ed.dip = some ((openedDip s w outcome).escalated s w outcome') := by
  have some : someIncluded s w (fun v => decide (v < (activeProfile s).dipStart)) = true := by
    obtain ⟨p, x, value, low⟩ := low
    exact (someIncluded_iff s w _).mpr ⟨p, x, value, decide_eq_true low⟩
  have opens : runDip w s = escalate w (openDip w s) := by
    simp only [runDip, dip, some, if_true]
  obtain ⟨seen, swell, outcome, opened⟩ := openDip_leaves s w
  obtain ⟨seen', -, swell', -⟩ := escalate_leaves (openDip w s) w
  obtain ⟨outcome', escalated⟩ := dip_escalate (openDip w s) w opened
  rw [opens]
  refine ⟨seen'.trans seen, swell'.trans swell, outcome, outcome', escalated.trans ?_⟩
  simp only [OpenEvent.escalated, allBelow_congr w seen]

/-- An open event is updated and escalated, and then put to the end tests (R83 to R87). -/
theorem runDip_open {e : OpenEvent} (dip : s.ed.dip = some e) :
    ∃ outcome u, u.ed.dip = some ((e.dipUpdated s w).escalated s w outcome) ∧ detects u = detects s ∧
      dipCount u = dipCount s ∧ u.ed.swell = s.ed.swell ∧ u.ed.eventNumber = s.ed.eventNumber ∧
      runDip w s = endTests w (fun v => decide (e.startThreshold + e.hyst ≤ v))
        ((e.dipUpdated s w).escalated s w outcome) u := by
  obtain ⟨t, updated⟩ : ∃ t, t = s.setEd { s.ed with dip := some (e.dipUpdated s w) } := ⟨_, rfl⟩
  have same : detects t = detects s ∧ dipCount t = dipCount s ∧ t.ed.swell = s.ed.swell ∧
      t.ed.eventNumber = s.ed.eventNumber ∧ t.ed.dip = some (e.dipUpdated s w) := by
    rw [updated]
    exact ⟨rfl, rfl, rfl, rfl, rfl⟩
  obtain ⟨seen, count, swell, number, held⟩ := same
  obtain ⟨seen', count', swell', number'⟩ := escalate_leaves t w
  obtain ⟨outcome, escalated⟩ := dip_escalate t w held
  have escalated : (escalate w t).ed.dip = some ((e.dipUpdated s w).escalated s w outcome) := by
    rw [escalated]
    simp only [OpenEvent.escalated, allBelow_congr w seen]
  refine ⟨outcome, escalate w t, escalated, seen'.trans seen, count'.trans count, swell'.trans swell, number'.trans number, ?_⟩
  have runs : runDip w s = match (escalate w t).ed.dip with
      | none => escalate w t
      | some e => endTests w (fun v => decide (e.startThreshold + e.hyst ≤ v)) e (escalate w t) := by
    rw [updated]
    simp only [runDip, dip] <;> rfl
  obtain ⟨-, -, -, threshold, hyst, -⟩ := OpenEvent.escalated_leaves s w outcome (e.dipUpdated s w)
  obtain ⟨-, -, threshold', -, hyst', -⟩ := OpenEvent.dipUpdated_leaves s w e
  rw [runs, escalated]
  simp only [threshold, hyst, threshold', hyst']

/-- What the dip-family machine leaves (R90). -/
theorem runDip_leaves (wf : s.ed.dip.all (fun e => e.cls != .swell) = true) :
    detects (runDip w s) = detects s ∧ (runDip w s).ed.swell = s.ed.swell ∧
      (s.ed.dip.isSome = true → (runDip w s).ed.eventNumber = s.ed.eventNumber) := by
  cases dip : s.ed.dip with
  | none =>
    by_cases low : ∃ p x, includedValue s w p = some x ∧ x < (activeProfile s).dipStart
    · obtain ⟨seen, swell, -⟩ := runDip_opens s w dip low
      exact ⟨seen, swell, nofun⟩
    · rw [runDip_idle s w dip fun p x value => Nat.not_lt.mp fun below => low ⟨p, x, value, below⟩]
      exact ⟨rfl, rfl, nofun⟩
  | some e =>
    have notSwell : e.cls ≠ .swell := by simpa [dip] using wf
    obtain ⟨outcome, u, -, seen, -, swell, number, runs⟩ := runDip_open s w dip
    obtain ⟨seen', number', swell', -⟩ := endTests_leaves u w (fun v => decide (e.startThreshold + e.hyst ≤ v))
      ((e.dipUpdated s w).escalated s w outcome)
    obtain ⟨cls, -⟩ := OpenEvent.dipUpdated_leaves s w e
    obtain ⟨-, -, -, -, -, -, -, -, notSwell'⟩ := OpenEvent.escalated_leaves s w outcome (e.dipUpdated s w)
    rw [runs]
    exact ⟨seen'.trans seen, (swell' (notSwell' (by rw [cls]; exact notSwell))).trans swell, fun _ => number'.trans number⟩

/-! ## The swell machine -/

/-- The event that the swell machine opens (R89). -/
def openedSwell (outcome : TrigOutcome) : OpenEvent :=
  { openEvent s w .swell (activeProfile s).swellStart 0 (activeProfile s).hyst
      (fun v => decide ((activeProfile s).swellStart < v)) with startOutcome := outcome }

theorem openSwell_leaves :
    (openSwell w s).ed.dip = s.ed.dip ∧ dipCount (openSwell w s) = dipCount s ∧
      ∃ outcome, (openSwell w s).ed.swell = some (openedSwell s w outcome) := by
  obtain ⟨-, count⟩ := detects_handTrigger (s.setEd { s.ed with eventNumber := nextEvent s }) .swell (nextEvent s) w.k
  obtain ⟨-, ed⟩ := handTrigger_leaves (s.setEd { s.ed with eventNumber := nextEvent s }) .swell (nextEvent s) w.k
  have dip := congrArg ED.dip ed
  exact ⟨dip, count, _, rfl⟩

theorem runSwell_idle (swell : s.ed.swell = none)
    (low : ∀ p x, includedValue s w p = some x → x ≤ (activeProfile s).swellStart) : runSwell w s = s := by
  have none : someIncluded s w (fun v => decide ((activeProfile s).swellStart < v)) = false := by
    rw [← Bool.not_eq_true, someIncluded_iff]
    rintro ⟨p, x, value, high⟩
    have := low p x value
    have := of_decide_eq_true high
    omega
  simp only [runSwell, swell, none, Bool.false_eq_true, if_false]

theorem runSwell_opens (swell : s.ed.swell = none)
    (high : ∃ p x, includedValue s w p = some x ∧ (activeProfile s).swellStart < x) : runSwell w s = openSwell w s := by
  have some : someIncluded s w (fun v => decide ((activeProfile s).swellStart < v)) = true := by
    obtain ⟨p, x, value, high⟩ := high
    exact (someIncluded_iff s w _).mpr ⟨p, x, value, decide_eq_true high⟩
  simp only [runSwell, swell, some, if_true]

/-- An event of the swell machine updated at a boundary (R89). -/
def OpenEvent.swellUpdated (e : OpenEvent) : OpenEvent := e.update s w (fun v => decide (e.startThreshold < v)) max

theorem runSwell_open {e : OpenEvent} (swell : s.ed.swell = some e) :
    runSwell w s = endTests w (fun v => decide (v ≤ e.startThreshold - e.hyst)) (e.swellUpdated s w)
      (s.setEd { s.ed with swell := some (e.swellUpdated s w) }) := by
  simp only [runSwell, swell] <;> rfl

/-- What the swell machine leaves (R90). -/
theorem runSwell_leaves (wf : s.ed.swell.all (fun e => e.cls == .swell) = true) :
    (runSwell w s).ed.dip = s.ed.dip ∧ dipCount (runSwell w s) = dipCount s := by
  cases swell : s.ed.swell with
  | none =>
    by_cases high : ∃ p x, includedValue s w p = some x ∧ (activeProfile s).swellStart < x
    · obtain ⟨dip, count, -⟩ := openSwell_leaves s w
      rw [runSwell_opens s w swell high]
      exact ⟨dip, count⟩
    · rw [runSwell_idle s w swell fun p x value => Nat.not_lt.mp fun above => high ⟨p, x, value, above⟩]
      exact ⟨rfl, rfl⟩
  | some e =>
    have isSwell : e.cls = .swell := by simpa [swell] using wf
    obtain ⟨-, -, -, left⟩ := endTests_leaves (s.setEd { s.ed with swell := some (e.swellUpdated s w) }) w
      (fun v => decide (v ≤ e.startThreshold - e.hyst)) (e.swellUpdated s w)
    rw [runSwell_open s w swell]
    exact left isSwell

/-! ## The work of a boundary -/

theorem boundaryEvents_idle (idle : s.ia.state ≠ .running) :
    boundaryEvents w s = (false, s.setEd { s.ed with
      previousCurrents := PerPhase.of (currentOf w), lastBoundary := some (w.boundary, w.stamp) }) := by
  simp only [boundaryEvents, idle, if_false]

theorem boundaryEvents_running (running : s.ia.state = .running) :
    boundaryEvents w s =
      (s.ed.dip.isSome || anyOpen (runDip w s) || anyOpen (runSwell w (runDip w s)),
        (runSwell w (runDip w s)).setEd { (runSwell w (runDip w s)).ed with
          previousCurrents := PerPhase.of (currentOf w), lastBoundary := some (w.boundary, w.stamp) }) := by
  simp only [boundaryEvents, running, if_true]

end

end Sys2Proof.Machine
end

section
/-! What the two machines make of an open event at a boundary (R83 to R90), and what is settled of it. -/

namespace Sys2Proof.Machine

section
variable (s : State) (w : BoundaryWork)

/-! ## An open dip-family event -/

/-- Without an included phase the sub-span test changes nothing (R85). -/
theorem OpenEvent.subTest_none (none : ∀ p, includedValue s w p = none) (e : OpenEvent) : e.subTest s w = e := by
  have noneSome : ∀ test, someIncluded s w test = false := fun test => by
    rw [← Bool.not_eq_true, someIncluded_iff]
    rintro ⟨p, x, value, -⟩
    rw [none p] at value
    exact absurd value nofun
  have notBelow : ∀ threshold, allBelow s w threshold = false := fun threshold => by
    rw [← Bool.not_eq_true, allBelow_iff]
    intro low
    obtain ⟨x, value, -⟩ := low .p1
    rw [none .p1] at value
    exact absurd value nofun
  unfold OpenEvent.subTest
  split
  · split
    · rw [noneSome, if_neg Bool.false_ne_true]
    · rw [notBelow, if_neg Bool.false_ne_true]
  · rfl

theorem allBelow_false {threshold : Nat} (high : ¬ ∀ p, ∃ x, includedValue s w p = some x ∧ x < threshold) :
    allBelow s w threshold = false := by
  rw [← Bool.not_eq_true, allBelow_iff]
  exact high

section
variable {e : OpenEvent} (dip : s.ed.dip = some e)
include dip

/-- The event ends when every included phase is back above the threshold and the hysteresis (R86). -/
theorem runDip_ends (notSwell : e.cls ≠ .swell) (present : ∃ p, includedValue s w p ≠ none)
    (above : ∀ p x, includedValue s w p = some x → e.startThreshold + e.hyst ≤ x) :
    (runDip w s).ed.dip = none ∧ dipCount (runDip w s) = dipCount s + 1 := by
  obtain ⟨outcome, u, -, seen, count, -, -, runs⟩ := runDip_open s w dip
  have all : everyIncluded u w (fun v => decide (e.startThreshold + e.hyst ≤ v)) = true := by
    rw [everyIncluded_congr w seen]
    exact (everyIncluded_iff s w _).mpr ⟨present, fun p x value => decide_eq_true (above p x value)⟩
  obtain ⟨cls, -⟩ := OpenEvent.dipUpdated_leaves s w e
  obtain ⟨-, -, -, -, -, -, -, -, stillNot⟩ := OpenEvent.escalated_leaves s w outcome (e.dipUpdated s w)
  have notSwell' := stillNot (by rw [cls]; exact notSwell)
  rw [runs, endTests_normal u w _ all]
  obtain ⟨-, gone, -⟩ := ed_closeEvent u ((e.dipUpdated s w).escalated s w outcome) .normal w.boundary w.stamp
  obtain ⟨-, -, counted⟩ := detects_closeEvent u ((e.dipUpdated s w).escalated s w outcome) .normal w.boundary w.stamp
  rw [if_neg notSwell'] at gone counted
  exact ⟨gone, by rw [counted, count]⟩

theorem notEvery_of_below (below : ∃ p x, includedValue s w p = some x ∧ x < e.startThreshold + e.hyst) {u : State}
    (seen : detects u = detects s) : everyIncluded u w (fun v => decide (e.startThreshold + e.hyst ≤ v)) = false := by
  rw [everyIncluded_congr w seen, ← Bool.not_eq_true, everyIncluded_iff]
  rintro ⟨-, all⟩
  obtain ⟨p, x, value, low⟩ := below
  have := of_decide_eq_true (all p x value)
  omega

omit dip in
theorem notEvery_of_none (none : ∀ p, includedValue s w p = none) {u : State} (seen : detects u = detects s)
    (test : Nat → Bool) : everyIncluded u w test = false := by
  rw [everyIncluded_congr w seen, ← Bool.not_eq_true, everyIncluded_iff]
  rintro ⟨⟨p, some⟩, -⟩
  exact some (none p)

/-- With no phase included at 4 boundaries in a row the event ends NO_DATA (R87). -/
theorem runDip_noData (notSwell : e.cls ≠ .swell) (none : ∀ p, includedValue s w p = none) (long : 3 ≤ e.noInclusion) :
    (runDip w s).ed.dip = .none := by
  obtain ⟨outcome, u, -, seen, -, -, -, runs⟩ := runDip_open s w dip
  obtain ⟨cls, -, -, -, -, -, -, noInclusion⟩ := OpenEvent.dipUpdated_leaves s w e
  obtain ⟨-, noInclusion', -, -, -, -, -, -, stillNot⟩ := OpenEvent.escalated_leaves s w outcome (e.dipUpdated s w)
  have row := (update_noInclusion s w e (fun v => decide (v < e.startThreshold)) min).2 none
  have notSwell' := stillNot (by rw [cls]; exact notSwell)
  rw [runs, endTests_noData u w (notEvery_of_none s w none seen _) (by rw [noInclusion', noInclusion, row]; omega)]
  obtain ⟨-, gone, -⟩ := ed_closeEvent u ((e.dipUpdated s w).escalated s w outcome) .noData w.boundary w.stamp
  rwa [if_neg notSwell'] at gone

/-- With no phase included before that, the event is as it was but for the count (R87). -/
theorem runDip_waits (none : ∀ p, includedValue s w p = none) (short : e.noInclusion < 3) :
    ∃ f, (runDip w s).ed.dip = some f ∧ f.noInclusion = e.noInclusion + 1 ∧ f.phases = e.phases ∧ f.cls = e.cls ∧
      f.openSub = e.openSub := by
  obtain ⟨outcome, u, held, seen, -, -, -, runs⟩ := runDip_open s w dip
  have row := (update_noInclusion s w e (fun v => decide (v < e.startThreshold)) min).2 none
  have phases := update_phases_none s w (beyond := fun v => decide (v < e.startThreshold)) (e := e) none min
  have updated : e.dipUpdated s w = e.update s w (fun v => decide (v < e.startThreshold)) min :=
    OpenEvent.subTest_none s w none _
  have same : (e.dipUpdated s w).escalated s w outcome = e.update s w (fun v => decide (v < e.startThreshold)) min := by
    rw [updated]
    refine OpenEvent.escalated_same s w (.inr (allBelow_false s w fun low => ?_)) outcome
    obtain ⟨x, value, -⟩ := low .p1
    rw [none .p1] at value
    exact absurd value nofun
  rw [same] at held runs
  rw [runs, endTests_stays u w (notEvery_of_none s w none seen _) (by rw [row]; omega)]
  exact ⟨_, held, row, phases, rfl, rfl⟩

/-- With an included phase still below the threshold and the hysteresis, the event goes on (R83, R86). -/
theorem runDip_goesOn (below : ∃ p x, includedValue s w p = some x ∧ x < e.startThreshold + e.hyst) :
    ∃ outcome, (runDip w s).ed.dip = some ((e.dipUpdated s w).escalated s w outcome) := by
  obtain ⟨outcome, u, held, seen, -, -, -, runs⟩ := runDip_open s w dip
  obtain ⟨-, -, -, -, -, -, -, noInclusion⟩ := OpenEvent.dipUpdated_leaves s w e
  obtain ⟨-, noInclusion', -⟩ := OpenEvent.escalated_leaves s w outcome (e.dipUpdated s w)
  have row := (update_noInclusion s w e (fun v => decide (v < e.startThreshold)) min).1 (by
    obtain ⟨p, x, value, -⟩ := below
    exact ⟨p, by rw [value]; exact nofun⟩)
  rw [runs, endTests_stays u w (notEvery_of_below s w dip below seen) (by rw [noInclusion', noInclusion, row]; omega)]
  exact ⟨outcome, held⟩

end

/-- The class and the sub-span of an event that goes on (R84, R85). -/
theorem escalated_dipUpdated (e : OpenEvent) (outcome : TrigOutcome) :
    let f := (e.dipUpdated s w).escalated s w outcome
    let low := fun (threshold : Nat) => ∀ p, ∃ x, includedValue s w p = some x ∧ x < threshold
    (e.cls = .dip → low e.intrStart → f.cls = .interruption ∧ f.openSub = some w.boundary.position) ∧
    (e.cls = .dip → ¬ low e.intrStart → f.cls = .dip) ∧
    (e.cls = .interruption → f.cls = .interruption ∧
      (∀ start, e.openSub = some start →
        ((∃ p x, includedValue s w p = some x ∧ e.intrStart + e.hyst ≤ x) →
          f.openSub = none ∧ f.subTotal = e.subTotal + (w.boundary.position - start) ∧
          f.subCount = min 255 (e.subCount + 1)) ∧
        ((∀ p x, includedValue s w p = some x → x < e.intrStart + e.hyst) → f.openSub = some start)) ∧
      (e.openSub = none → low e.intrStart → f.openSub = some w.boundary.position) ∧
      (e.openSub = none → ¬ low e.intrStart → f.openSub = none)) := by
  intro f low
  obtain ⟨x, updated⟩ : ∃ x, x = e.update s w (fun v => decide (v < e.startThreshold)) min := ⟨_, rfl⟩
  have same : x.cls = e.cls ∧ x.openSub = e.openSub ∧ x.intrStart = e.intrStart ∧ x.hyst = e.hyst ∧
      x.subTotal = e.subTotal ∧ x.subCount = e.subCount := by
    rw [updated]
    exact ⟨rfl, rfl, rfl, rfl, rfl, rfl⟩
  obtain ⟨cls, sub, intr, hyst, total, count⟩ := same
  have fEq : f = (x.subTest s w).escalated s w outcome := by rw [updated]; rfl
  obtain ⟨cls', -, -, -, -, intr', -⟩ := OpenEvent.subTest_leaves s w x
  refine ⟨fun isDip below => ?_, fun isDip high => ?_, fun isIntr => ?_⟩
  · rw [fEq, OpenEvent.subTest_dip s w (cls.trans isDip)]
    exact OpenEvent.escalated_low s w (cls.trans isDip) ((allBelow_iff s w _).mpr (by rw [intr]; exact below)) outcome
  · rw [fEq, OpenEvent.escalated_same s w (.inr (allBelow_false s w (by rw [intr', intr]; exact high)))]
    exact cls'.trans (cls.trans isDip)
  · have isIntr' : x.cls = .interruption := cls.trans isIntr
    have stays : f = x.subTest s w := by
      rw [fEq, OpenEvent.escalated_same s w (.inl (by rw [cls', isIntr']; exact nofun))]
    rw [stays]
    refine ⟨cls'.trans isIntr', fun start open' => ⟨fun high => ?_, fun low => ?_⟩, fun closed low => ?_, fun closed high => ?_⟩
    · have some : someIncluded s w (fun v => decide (x.intrStart + x.hyst ≤ v)) = true := by
        obtain ⟨p, y, value, above⟩ := high
        exact (someIncluded_iff s w _).mpr ⟨p, y, value, decide_eq_true (by rw [intr, hyst]; exact above)⟩
      rw [OpenEvent.subTest_open s w isIntr' (sub.trans open'), some, if_pos rfl, ← total, ← count]
      simp only [OpenEvent.closeSub, sub.trans open', satSucc_eq_min, and_self]
    · have none : someIncluded s w (fun v => decide (x.intrStart + x.hyst ≤ v)) = false := by
        rw [← Bool.not_eq_true, someIncluded_iff]
        rintro ⟨p, y, value, above⟩
        have := of_decide_eq_true above
        have := low p y value
        omega
      rw [OpenEvent.subTest_open s w isIntr' (sub.trans open'), none, if_neg Bool.false_ne_true]
      exact sub.trans open'
    · rw [OpenEvent.subTest_closed s w isIntr' (sub.trans closed),
        if_pos ((allBelow_iff s w _).mpr (by rw [intr]; exact low))]
    · rw [OpenEvent.subTest_closed s w isIntr' (sub.trans closed), allBelow_false s w (by rw [intr]; exact high),
        if_neg Bool.false_ne_true]
      exact sub.trans closed

/-! ## An open swell event -/

section
variable {e : OpenEvent} (swell : s.ed.swell = some e)
include swell

/-- The swell event ends when every included phase is back below the threshold less the hysteresis, or with no phase
included at 4 boundaries in a row (R89). -/
theorem runSwell_ends (isSwell : e.cls = .swell)
    (over' : (∃ p, includedValue s w p ≠ none) ∧
        (∀ p x, includedValue s w p = some x → x ≤ e.startThreshold - e.hyst) ∨
      (∀ p, includedValue s w p = none) ∧ 3 ≤ e.noInclusion) : (runSwell w s).ed.swell = none := by
  obtain ⟨u, held⟩ : ∃ u, u = s.setEd { s.ed with swell := some (e.swellUpdated s w) } := ⟨_, rfl⟩
  have seen : detects u = detects s := by rw [held]; rfl
  have closed : ∀ cause, (closeEvent (e.swellUpdated s w) cause w.boundary w.stamp u).ed.swell = none := fun cause => by
    obtain ⟨-, -, gone⟩ := ed_closeEvent u (e.swellUpdated s w) cause w.boundary w.stamp
    exact gone.trans (if_pos isSwell)
  rw [runSwell_open s w swell, ← held]
  rcases over' with ⟨some, below⟩ | ⟨none, long⟩
  · rw [endTests_normal u w _ (by
      rw [everyIncluded_congr w seen]
      exact (everyIncluded_iff s w _).mpr ⟨some, fun p x value => decide_eq_true (below p x value)⟩)]
    exact closed _
  · have row := (update_noInclusion s w e (fun v => decide (e.startThreshold < v)) max).2 none
    have long' : 4 ≤ (e.swellUpdated s w).noInclusion := by
      unfold OpenEvent.swellUpdated
      omega
    rw [endTests_noData u w (notEvery_of_none s w none seen _) long']
    exact closed _

/-- With an included phase still above the threshold less the hysteresis, the swell event goes on (R89). -/
theorem runSwell_goesOn (above : ∃ p x, includedValue s w p = some x ∧ e.startThreshold - e.hyst < x) :
    (runSwell w s).ed.swell = some (e.swellUpdated s w) ∧ (e.swellUpdated s w).noInclusion = 0 := by
  obtain ⟨u, held⟩ : ∃ u, u = s.setEd { s.ed with swell := some (e.swellUpdated s w) } := ⟨_, rfl⟩
  have seen : detects u = detects s := by rw [held]; rfl
  obtain ⟨p, x, value, high⟩ := above
  have row : (e.swellUpdated s w).noInclusion = 0 :=
    (update_noInclusion s w e (fun v => decide (e.startThreshold < v)) max).1 ⟨p, by rw [value]; exact nofun⟩
  have notAll : everyIncluded u w (fun v => decide (v ≤ e.startThreshold - e.hyst)) = false := by
    rw [everyIncluded_congr w seen, ← Bool.not_eq_true, everyIncluded_iff]
    rintro ⟨-, all⟩
    have := of_decide_eq_true (all p x value)
    omega
  rw [runSwell_open s w swell, ← held, endTests_stays u w notAll (by omega), held]
  exact ⟨rfl, row⟩

end

end

end Sys2Proof.Machine
end

section
/-! The work of a boundary as a whole: the two machines apart (R79, R90). -/

namespace Sys2Proof.Machine

/-- The value that an included phase has, written out (R80). -/
theorem includedValue_eq (s : State) (w : BoundaryWork) (p : Phase) :
    includedValue s w p =
      if (s.cc.table.get p.voltage).enabled = true ∧
          (s.mm.mods.get (s.cc.table.get p.voltage).module).state = .qualified then w.values.get p.voltage
      else none := by
  unfold includedValue channelQualified
  simp only [Bool.and_eq_true, beq_iff_eq]

@[simp] theorem PerPhase.get_of {α : Type} (f : Phase → α) (p : Phase) : (PerPhase.of f).get p = f p := by
  cases p <;> rfl

/-- The event that opens at a boundary, after the escalation test (R82, R84). -/
theorem openedDip_escalated (s : State) (w : BoundaryWork) (outcome outcome' : TrigOutcome) :
    let limits := activeProfile s
    let e := (openedDip s w outcome).escalated s w outcome'
    let low := ∀ p, ∃ x, includedValue s w p = some x ∧ x < limits.intrStart
    e.number = (s.ed.eventNumber + 1) % 4294967296 ∧ e.profile = s.sl.settings.activeProfile ∧
      e.startThreshold = limits.dipStart ∧ e.intrStart = limits.intrStart ∧ e.hyst = limits.hyst ∧
      e.startNumber = w.boundary.number ∧ e.startPosition = w.boundary.position ∧ e.startStamp = w.stamp ∧
      e.pre = s.ed.previousCurrents ∧
      (∀ p x, includedValue s w p = some x → x < limits.dipStart →
        ({ phase := p, extreme := x, time := 0, join := 0 } : PhaseEntry) ∈ e.phases) ∧
      (∀ y ∈ e.phases, ∃ x, includedValue s w y.phase = some x ∧ x < limits.dipStart) ∧
      (low → e.cls = .interruption ∧ e.openSub = some w.boundary.position) ∧
      (¬ low → e.cls = .dip ∧ e.openSub = none) := by
  intro limits e low
  have phases : e.phases = startEntries s w (fun v => decide (v < limits.dipStart)) := by
    dsimp only [e, OpenEvent.escalated]
    split <;> rfl
  have others : e.number = (s.ed.eventNumber + 1) % 4294967296 ∧ e.profile = s.sl.settings.activeProfile ∧
      e.startThreshold = limits.dipStart ∧ e.intrStart = limits.intrStart ∧ e.hyst = limits.hyst ∧
      e.startNumber = w.boundary.number ∧ e.startPosition = w.boundary.position ∧ e.startStamp = w.stamp ∧
      e.pre = s.ed.previousCurrents := by
    dsimp only [e, OpenEvent.escalated]
    split <;> exact ⟨rfl, rfl, rfl, rfl, rfl, rfl, rfl, rfl, rfl⟩
  obtain ⟨number, profile, threshold, intr, hyst, startNumber, position, stamp, pre⟩ := others
  refine ⟨number, profile, threshold, intr, hyst, startNumber, position, stamp, pre, fun p x value below => ?_,
    fun y member => ?_, fun below => ?_, fun high => ?_⟩
  · rw [phases]
    exact (mem_startEntries s w).mpr ⟨p, x, value, decide_eq_true below, rfl⟩
  · rw [phases] at member
    obtain ⟨p, x, value, below, rfl⟩ := (mem_startEntries s w).mp member
    exact ⟨x, value, of_decide_eq_true below⟩
  · exact OpenEvent.escalated_low s w rfl ((allBelow_iff s w _).mpr below) outcome'
  · have same : e = openedDip s w outcome := OpenEvent.escalated_same s w (.inr (allBelow_false s w high)) outcome'
    rw [same]
    exact ⟨rfl, rfl⟩

/-- Settles O21: each machine acts by its own event, and the other's view of the boundary stands. -/
theorem eventMachinesAtABoundary : Obligations.EventMachinesAtABoundary := by
  unfold Obligations.EventMachinesAtABoundary
  intro s w wf v limits r t low someIn
  obtain ⟨dipWf, swellWf⟩ := wf
  have value : v = includedValue s w := funext fun p => (includedValue_eq s w p).symm
  have notIn : ¬ someIn → ∀ p, includedValue s w p = none := by
    intro no p
    rw [← value]
    exact Classical.byContradiction fun present => no ⟨p, present⟩
  by_cases running : s.ia.state = .running
  · have ran : r = _ := boundaryEvents_running s w running
    obtain ⟨u, dipRan⟩ : ∃ u, u = runDip w s := ⟨_, rfl⟩
    obtain ⟨seen, swellSame, numberSame⟩ := runDip_leaves s w dipWf
    rw [← dipRan] at ran seen swellSame numberSame
    have swellWf' : u.ed.swell.all (fun e => e.cls == .swell) = true := by rw [swellSame]; exact swellWf
    obtain ⟨dipSame, countSame⟩ := runSwell_leaves u w swellWf'
    have dipIs : t.ed.dip = u.ed.dip := (congrArg (fun x => x.2.ed.dip) ran).trans dipSame
    have swellIs : t.ed.swell = (runSwell w u).ed.swell := congrArg (fun x => x.2.ed.swell) ran
    have countIs : dipCount t = dipCount u := (congrArg (fun x => dipCount x.2) ran).trans countSame
    have reported : r.1 = (s.ed.dip.isSome || anyOpen u || anyOpen (runSwell w u)) := congrArg Prod.fst ran
    have profile : activeProfile u = limits := activeProfile_congr seen
    have same : includedValue u w = v := (includedValue_congr w seen).trans value.symm
    have kept : t.ed.previousCurrents = PerPhase.of (currentOf w) ∧ t.ed.lastBoundary = some (w.boundary, w.stamp) := by
      have currents := congrArg (fun x => x.2.ed.previousCurrents) ran
      have last := congrArg (fun x => x.2.ed.lastBoundary) ran
      exact ⟨currents, last⟩
    obtain ⟨currents, last⟩ := kept
    refine ⟨fun p => by rw [currents, PerPhase.get_of]; rfl, last, fun idle => absurd running idle, fun _ => ?_⟩
    rw [dipIs, swellIs, value]
    refine ⟨fun none high => ?_, fun none below => ?_, fun e dip => ?_, fun none lows => ?_, fun none above => ?_,
      fun e swell => ?_⟩
    · rw [dipRan, runDip_idle s w none high]
      exact none
    · obtain ⟨-, -, outcome, outcome', opened⟩ := runDip_opens s w none below
      rw [← dipRan] at opened
      refine ⟨by simp [reported, anyOpen, opened], _, opened, ?_⟩
      have facts := openedDip_escalated s w outcome outcome'
      dsimp only [low]
      rw [value]
      exact facts
    · have notSwell : e.cls ≠ .swell := by simpa [dip] using dipWf
      refine ⟨by simp [reported, dip], fun present above => ?_, fun absent long => ?_, fun absent short => ?_,
        fun below => ?_⟩
      · obtain ⟨gone, count⟩ := runDip_ends s w dip notSwell (by rw [← value]; exact present) above
        rw [← dipRan] at gone count
        exact ⟨gone, countIs.trans count⟩
      · rw [dipRan]
        exact runDip_noData s w dip notSwell (notIn absent) long
      · rw [dipRan]
        exact runDip_waits s w dip (notIn absent) short
      · obtain ⟨outcome, goesOn⟩ := runDip_goesOn s w dip below
        have subs := escalated_dipUpdated s w e outcome
        obtain ⟨-, number, threshold, -, -, pre, phases, noInclusion⟩ := OpenEvent.dipUpdated_leaves s w e
        obtain ⟨phases', noInclusion', number', threshold', -, pre', -⟩ :=
          OpenEvent.escalated_leaves s w outcome (e.dipUpdated s w)
        have row := (update_noInclusion s w e (fun v => decide (v < e.startThreshold)) min).1 (by
          obtain ⟨p, x, present, -⟩ := below
          exact ⟨p, by rw [present]; exact nofun⟩)
        rw [dipRan]
        refine ⟨_, goesOn, noInclusion'.trans (noInclusion.trans row), number'.trans number, threshold'.trans threshold,
          pre'.trans pre, fun p x present past => ?_, ?_⟩
        · obtain ⟨y, member, phase, z, extreme⟩ := mem_update_phases s w (e := e)
            (beyond := fun v => decide (v < e.startThreshold)) present (decide_eq_true past) min
          refine ⟨y, by rw [phases', phases]; exact member, phase, ?_⟩
          rw [extreme]
          exact Nat.min_le_right z x
        · dsimp only [low]
          rw [value]
          exact subs
    · have none' : u.ed.swell = .none := swellSame.trans none
      rw [runSwell_idle u w none' (by rw [same, value, profile]; exact lows)]
      exact none'
    · have none' : u.ed.swell = .none := swellSame.trans none
      have above' : ∃ p x, includedValue u w p = some x ∧ (activeProfile u).swellStart < x := by
        rw [same, value, profile]
        exact above
      obtain ⟨-, -, outcome, opened⟩ := openSwell_leaves u w
      rw [← runSwell_opens u w none' above'] at opened
      refine ⟨by simp [reported, anyOpen, opened], _, opened, rfl, ?_, ?_, rfl, fun dip => ?_, fun p x present past => ?_⟩
      · exact congrArg Profile.swellStart profile
      · exact congrArg Profile.hyst profile
      · show wrap32 (u.ed.eventNumber + 1) = _
        rw [numberSame dip]
        rfl
      · refine (mem_startEntries u w).mpr ⟨p, x, ?_, decide_eq_true ?_, rfl⟩
        · rw [same, value]
          exact present
        · rw [profile]
          exact past
    · have isSwell : e.cls = .swell := by simpa [swell] using swellWf
      have swell' : u.ed.swell = some e := swellSame.trans swell
      refine ⟨by simp [reported, anyOpen, swell'], fun present below => ?_, fun absent long => ?_, fun above => ?_⟩
      · refine runSwell_ends u w swell' isSwell (.inl ⟨?_, ?_⟩)
        · rw [same]
          exact present
        · rw [same, value]
          exact below
      · refine runSwell_ends u w swell' isSwell (.inr ⟨?_, long⟩)
        rw [same, value]
        exact notIn absent
      · obtain ⟨goesOn, row⟩ := runSwell_goesOn u w swell' (by rw [same, value]; exact above)
        refine ⟨_, goesOn, rfl, row, fun p x present past => ?_⟩
        obtain ⟨y, member, phase, z, extreme⟩ := mem_update_phases u w (e := e)
          (beyond := fun v => decide (e.startThreshold < v)) (by rw [same, value]; exact present) (decide_eq_true past) max
        refine ⟨y, member, phase, ?_⟩
        rw [extreme]
        exact Nat.le_max_right z x
  · have idle : r = _ := boundaryEvents_idle s w running
    have fields : r.1 = false ∧ t.ed.dip = s.ed.dip ∧ t.ed.swell = s.ed.swell ∧
        t.ed.previousCurrents = PerPhase.of (currentOf w) ∧ t.ed.lastBoundary = some (w.boundary, w.stamp) := by
      dsimp only [t]
      rw [idle]
      exact ⟨rfl, rfl, rfl, rfl, rfl⟩
    obtain ⟨first, dip, swell, currents, last⟩ := fields
    exact ⟨fun p => by rw [currents, PerPhase.get_of]; rfl, last, fun _ => ⟨first, dip, swell⟩, fun yes => absurd yes running⟩

end Sys2Proof.Machine
end

section
/-! The reference decision (R43 to R49): what it becomes in each state of the tracker, and what it leaves. -/

namespace Sys2Proof.Machine

/-! ## Eligibility (R43, R44) -/

section
variable (s : State) (values : PerChannel (Option Nat))

/-- A phase is eligible with its entry enabled, its module QUALIFIED, and a magnitude of at least TRACK_FLOOR (R43). -/
theorem eligible_iff (p : Phase) :
    eligible s values p = true ↔ (s.cc.table.get p.voltage).enabled = true ∧
      (s.mm.mods.get (s.cc.table.get p.voltage).module).state = .qualified ∧
      ∃ v, values.get p.voltage = some v ∧ s.sl.settings.trackFloor ≤ v := by
  simp only [eligible, channelQualified, Bool.and_eq_true, beq_iff_eq, Option.any_eq_true, decide_eq_true_eq, and_assoc]

/-- The first that is eligible in a list (R44). -/
theorem find?_eligible {l before after : List Phase} {p : Phase} (split : l = before ++ p :: after)
    (ok : eligible s values p = true) (none : ∀ q ∈ before, ¬ eligible s values q = true) :
    l.find? (eligible s values) = some p :=
  List.find?_eq_some_iff_append.mpr ⟨ok, before, after, split, fun q member => by simpa using none q member⟩

/-- The wanted reference is REF_MANUAL, or the first eligible in REF_PRIORITY (R44). -/
theorem wanted_some {p : Phase}
    (h : (s.sl.settings.refMode = .manual ∧ p = s.sl.settings.refManual ∧ eligible s values p = true) ∨
      (s.sl.settings.refMode = .auto ∧ eligible s values p = true ∧
        ∃ before after, s.sl.settings.refPriority = before ++ p :: after ∧ ∀ q ∈ before, ¬ eligible s values q = true)) :
    wanted s values = some p := by
  rcases h with ⟨mode, rfl, ok⟩ | ⟨mode, ok, before, after, split, none⟩
  · simp only [wanted, mode, ok, if_true]
  · simp only [wanted, mode]
    exact find?_eligible s values split ok none

theorem wanted_none
    (h : (s.sl.settings.refMode = .manual ∧ ¬ eligible s values s.sl.settings.refManual = true) ∨
      (s.sl.settings.refMode = .auto ∧ ∀ p ∈ s.sl.settings.refPriority, ¬ eligible s values p = true)) :
    wanted s values = none := by
  rcases h with ⟨mode, no⟩ | ⟨mode, none⟩
  · simp only [wanted, mode, Bool.eq_false_of_not_eq_true no, Bool.false_eq_true, if_false]
  · simp only [wanted, mode]
    exact List.find?_eq_none.mpr none

/-- A preferred channel is eligible, and stands before the reference and before every other eligible one (R49). -/
theorem preferred_iff (r p : Phase) :
    preferred s values r = some p ↔ eligible s values p = true ∧ p ≠ r ∧
      ∃ before after, s.sl.settings.refPriority = before ++ p :: after ∧
        ∀ q ∈ before, q ≠ r ∧ ¬ eligible s values q = true := by
  constructor
  · intro found
    obtain ⟨ok, before, after, split, none⟩ := List.find?_eq_some_iff_append.mp found
    have all : ∀ q ∈ before ++ p :: after, q ≠ r := fun q member => by
      have kept : (q != r) = true := List.mem_takeWhile_imp (p := fun q => q != r) (split ▸ member)
      simpa using kept
    refine ⟨ok, all p (by simp), before, after ++ s.sl.settings.refPriority.dropWhile fun q => q != r, ?_, fun q member =>
      ⟨all q (by simp [member]), by simpa using none q member⟩⟩
    have whole := List.takeWhile_append_dropWhile (p := fun q => q != r) (l := s.sl.settings.refPriority)
    rw [split, List.append_assoc] at whole
    exact whole.symm
  · rintro ⟨ok, other, before, after, split, none⟩
    refine find?_eligible s values (after := after.takeWhile fun q => q != r) ?_ ok fun q member => (none q member).2
    rw [split, List.takeWhile_append_of_pos fun q member => by simpa using (none q member).1, List.takeWhile_cons_of_pos]
    simpa using other

/-! ## The decision by the tracker's state (R45 to R49) -/

/-- In FREERUN and HOLDOVER the wanted reference is acquired (R45). -/
theorem decideReference_free (state : s.ct.state = .freerun ∨ s.ct.state = .holdover) :
    decideReference values s = match wanted s values with
      | some p => s.setCt (s.ct.acquire p)
      | none => s := by
  rcases state with state | state
  · simp only [decideReference, state] <;> rfl
  · simp only [decideReference, state] <;> rfl

theorem decideReference_acquire (state : s.ct.state = .acquire) {r : Phase} (reference : s.ct.reference = some r) :
    decideReference values s = decideAcquire s values r := by
  simp only [decideReference, state, reference]

theorem decideReference_locked (state : s.ct.state = .locked) {r : Phase} (reference : s.ct.reference = some r) :
    decideReference values s = decideLocked s values r := by
  simp only [decideReference, state, reference]

/-- An ACQUIRE or LOCKED without a reference, which no rule gives, decides nothing. -/
theorem decideReference_none (state : s.ct.state = .acquire ∨ s.ct.state = .locked) (reference : s.ct.reference = none) :
    decideReference values s = s := by
  rcases state with state | state
  · simp only [decideReference, state, reference]
  · simp only [decideReference, state, reference]

/-! ## What a departure from LOCKED or a dropped candidate becomes -/

theorem CT.leaveLocked_held (t : CT) :
    (∀ h, t.held = some h → t.leaveLocked =
      { t with state := .holdover, timer := some 0, align := 0, revertPhase := none, revertCount := 0 }) ∧
    (t.held = none → t.leaveLocked =
      { t with
        state := .freerun, reference := none, timer := none, align := 0, revertPhase := none, revertCount := 0 }) := by
  constructor
  · intro h held
    simp [CT.leaveLocked, held]
  · intro held
    simp [CT.leaveLocked, held]

theorem CT.dropCandidate_held (t : CT) :
    (∀ h, t.held = some h → t.dropCandidate = { t with state := .holdover, run := [] }) ∧
    (t.held = none → t.dropCandidate = { t with state := .freerun, reference := none, run := [], timer := none }) := by
  constructor
  · intro h held
    simp [CT.dropCandidate, held]
  · intro held
    simp [CT.dropCandidate, held]

end

end Sys2Proof.Machine
end

section
/-! What the Cycle Tracker's judgement rests on, and the mark of REF_CHANGE: what the work of a boundary and of the other parts
of a strobe issue leaves of them. -/

namespace Sys2Proof.Machine

/-! ## The mark of REF_CHANGE -/

/-- The latched mark of REF_CHANGE (R51, section 11.7). -/
def changeMark (s : State) : Bool := s.sl.latched.getLsbD 11

/-- The channel table with the mark of REF_CHANGE. -/
def lockView (s : State) := (s.cc, changeMark s)

section
variable (s : State)

/-- Another flag leaves the mark of REF_CHANGE. -/
theorem lockView_latch {f : Flag} (other : f.mask.getLsbD 11 = false) : lockView (latch f s) = lockView s := by
  have mark : changeMark (latch f s) = changeMark s := by
    have joined : (latch f s).sl.latched = s.sl.latched ||| f.mask := rfl
    rw [changeMark, joined, BitVec.getLsbD_or, other, Bool.or_false]
    rfl
  exact Prod.ext rfl mark

/-- A reference change sets the mark, whatever it was. -/
theorem changeMark_latch : changeMark (latch .refChange s) = true := by
  have joined : (latch .refChange s).sl.latched = s.sl.latched ||| Flag.mask .refChange := rfl
  have bit : (Flag.mask .refChange).getLsbD 11 = true := by decide
  rw [changeMark, joined, BitVec.getLsbD_or, bit, Bool.or_true]

theorem lockView_handRecord (body : RecordBody) : lockView (handRecord body s).2 = lockView s := by
  have cc : (handRecord body s).2.cc = s.cc := by
    obtain ⟨-, -, cc, -⟩ := blocks_of_recordless (recordless_handRecord s body)
    exact cc
  refine Prod.ext cc ?_
  cases number : recordNumber s with
  | none =>
    rw [handRecord_notCreated number]
    rfl
  | some n =>
    by_cases slot : hasSlot body.isEnd s.rq.entries = true
    · rw [handRecord_entered number slot]
      exact congrArg (fun x : SL => x.latched.getLsbD 11) (sl_sweep _)
    · rw [handRecord_lost number slot]
      exact congrArg Prod.snd (lockView_latch _ (f := .recordLoss) (by decide))

/-! ## The events and the captures -/

theorem lockView_handTrigger (cause : TrigCause) (event k : Nat) :
    lockView (handTrigger cause event k s).2 = lockView s := by
  unfold handTrigger trigger
  repeat' split
  · rfl
  · rfl
  · exact lockView_latch s (f := .captureMissed) (by decide)
  · rfl

theorem lockView_closeEvent (e : OpenEvent) (cause : CloseCause) (b : Boundary) (stamp : Stamp) :
    lockView (closeEvent e cause b stamp s) = lockView s := by
  have counted : ∀ swell cell, lockView (countGrid swell cell s) = lockView s := fun swell cell => by
    unfold countGrid
    repeat' split
    all_goals rfl
  have handed := fun swell cell body => (lockView_handRecord (countGrid swell cell s) body).trans (counted swell cell)
  unfold closeEvent
  dsimp only
  split
  · exact handed _ _ _
  · exact handed _ _ _

theorem lockView_openDip (w : BoundaryWork) : lockView (openDip w s) = lockView s := lockView_handTrigger _ _ _ _

theorem lockView_openSwell (w : BoundaryWork) : lockView (openSwell w s) = lockView s := lockView_handTrigger _ _ _ _

theorem lockView_escalate (w : BoundaryWork) : lockView (escalate w s) = lockView s := by
  unfold escalate
  split
  · rfl
  · split
    · exact lockView_handTrigger _ _ _ _
    · rfl

theorem lockView_endTests (w : BoundaryWork) (ended : Nat → Bool) (e : OpenEvent) :
    lockView (endTests w ended e s) = lockView s := by
  unfold endTests
  repeat' split
  · exact lockView_closeEvent _ _ _ _ _
  · exact lockView_closeEvent _ _ _ _ _
  · rfl

theorem lockView_runDip (w : BoundaryWork) : lockView (runDip w s) = lockView s := by
  unfold runDip
  split
  · split
    · exact (lockView_escalate _ w).trans (lockView_openDip s w)
    · rfl
  · dsimp only
    split
    · exact (lockView_escalate _ w).trans rfl
    · exact (lockView_endTests _ w _ _).trans ((lockView_escalate _ w).trans rfl)

theorem lockView_runSwell (w : BoundaryWork) : lockView (runSwell w s) = lockView s := by
  unfold runSwell
  split
  · split
    · exact lockView_openSwell s w
    · rfl
  · exact (lockView_endTests _ w _ _).trans rfl

theorem lockView_boundaryEvents (w : BoundaryWork) : lockView (boundaryEvents w s).2 = lockView s := by
  unfold boundaryEvents
  dsimp only
  split
  · exact (lockView_runSwell _ w).trans (lockView_runDip s w)
  · rfl

theorem lockView_closeCapture (truncated cut : Bool) : lockView (closeCapture truncated cut s) = lockView s := by
  have handed : ∀ (x : CU) (body : RecordBody), lockView (handRecord body (s.setCu x)).2 = lockView s :=
    fun x body => lockView_handRecord (s.setCu x) body
  have released : ∀ u : State, lockView (releaseCapture u) = lockView u := fun u => by
    unfold releaseCapture
    split <;> rfl
  unfold closeCapture
  split
  · rfl
  · dsimp only
    generalize eq : handRecord _ _ = r
    have handed := eq ▸ handed _ _
    split
    · exact handed
    · exact (released _).trans handed

theorem lockView_collect (c : CondSet) (h : Capture) : lockView (collect c h s) = lockView s := by
  rw [collect_eq]
  repeat' split
  · exact (lockView_closeCapture _ _ _).trans rfl
  · exact (lockView_closeCapture _ _ _).trans rfl
  · rfl

theorem lockView_captureTake (c : CondSet) : lockView (captureTake c s) = lockView s := by
  unfold captureTake
  split
  · rfl
  · split
    · exact lockView_collect s c _
    · rfl
  · rfl
  · rfl

/-! ## The work of a boundary -/

/-- What the judgement of the tracker rests on, but for the tracker itself: which entries are enabled and the modules they
name, the modules, and the settings that no interval's close changes. -/
structure Judges (s t : State) : Prop where
  names : SameNames s.cc.table t.cc.table
  settings : t.sl.settings.steady = s.sl.settings.steady
  mods : t.mm.mods = s.mm.mods

theorem Judges.refl : Judges s s := ⟨fun _ => ⟨rfl, rfl⟩, rfl, rfl⟩

end

theorem SameNames.trans {a b c : PerChannel ChanEntry} (h : SameNames a b) (g : SameNames b c) : SameNames a c :=
  fun r => ⟨(g r).1.trans (h r).1, (g r).2.trans (h r).2⟩

theorem Judges.trans {s t u : State} (h : Judges s t) (g : Judges t u) : Judges s u :=
  ⟨h.names.trans g.names, g.settings.trans h.settings, g.mods.trans h.mods⟩

section
variable (s : State)

theorem changeMark_applyPendingCal : changeMark (applyPendingCal s) = changeMark s := by
  obtain ⟨cc, eq⟩ := applyPendingCal_eq s
  rw [eq]
  rfl

/-- Window work leaves which entries are enabled and what they name, and the mark. -/
theorem names_windowWork (b : Boundary) (stamp : Stamp) (event : Bool) (values : PerChannel (Option Nat)) :
    SameNames s.cc.table (windowWork b stamp event values s).cc.table ∧
      changeMark (windowWork b stamp event values s) = changeMark s := by
  have starts : ∀ u : State, SameNames u.cc.table (startWindow b stamp event u).cc.table ∧
      changeMark (startWindow b stamp event u) = changeMark u := fun u =>
    ⟨sameNames_applyPendingCal u, changeMark_applyPendingCal u⟩
  unfold windowWork
  repeat' split
  · exact starts (closeWindow _ b stamp _ s)
  · exact ⟨fun _ => ⟨rfl, rfl⟩, rfl⟩
  · exact starts s
  · exact ⟨fun _ => ⟨rfl, rfl⟩, rfl⟩

theorem judges_boundaryWork (b : Boundary) (k : Nat) :
    Judges s (boundaryWork b k s).2 ∧ changeMark (boundaryWork b k s).2 = changeMark s := by
  have left := boundaryless_boundaryWork s b k
  obtain ⟨-, mm, -⟩ := blocks_of_boundaryless left
  obtain ⟨settings, -⟩ := campaign_of_boundaryless left
  obtain ⟨events, mark⟩ := Prod.mk.inj (lockView_boundaryEvents (s.setMu { s.mu with channels := s.mu.channels.map ChanSums.moveOn })
    { boundary := b, stamp := stampAt s b.position, k := k, values := slidingValues s })
  have windows : ∀ r : Bool × State, r.2.cc = s.cc → changeMark r.2 = changeMark s →
      SameNames s.cc.table (windowWork b (stampAt s b.position) r.1 (slidingValues s) r.2).cc.table ∧
        changeMark (windowWork b (stampAt s b.position) r.1 (slidingValues s) r.2) = changeMark s := by
    intro r cc mark
    obtain ⟨names, kept⟩ := names_windowWork r.2 b (stampAt s b.position) r.1 (slidingValues s)
    rw [cc] at names
    exact ⟨names, kept.trans mark⟩
  obtain ⟨names, kept⟩ := windows _ events mark
  exact ⟨⟨names, congrArg Settings.steady settings, congrArg MM.mods mm⟩, kept⟩

end

end Sys2Proof.Machine
end

section
/-! The taking of a set by the Cycle Tracker, step by step (R35): the tracker after each step, and what the steps leave. -/

namespace Sys2Proof.Machine

/-! ## The reference decision looks at little -/

section
variable {s t : State}

/-- A setting that no interval's close changes (R193). -/
theorem Judges.setting (h : Judges s t) {α : Type} (f : Settings → α) (steady : ∀ x : Settings, f x.steady = f x) :
    f t.sl.settings = f s.sl.settings := by
  rw [← steady t.sl.settings, h.settings, steady]

theorem eligible_congr (h : Judges s t) (values : PerChannel (Option Nat)) : eligible t values = eligible s values := by
  funext p
  have floor := h.setting (·.trackFloor) fun _ => rfl
  obtain ⟨enabled, module⟩ := h.names p.voltage
  simp only [eligible, channelQualified, enabled, module, h.mods, floor]

/-- The tracker after the decision depends on the tracker, on which phases are eligible and on the settings of R44. -/
theorem ct_decideReference_congr (h : Judges s t) (ct : t.ct = s.ct) (values : PerChannel (Option Nat)) :
    (decideReference values t).ct = (decideReference values s).ct := by
  have mode := h.setting (·.refMode) fun _ => rfl
  have manual := h.setting (·.refManual) fun _ => rfl
  have order := h.setting (·.refPriority) fun _ => rfl
  have revertive := h.setting (·.revertive) fun _ => rfl
  have ok := eligible_congr h values
  have wants : wanted t values = wanted s values := by simp only [wanted, mode, manual, order, ok]
  have prefers : ∀ r, preferred t values r = preferred s values r := fun r => by simp only [preferred, order, ok]
  have free : s.ct.state = .freerun ∨ s.ct.state = .holdover →
      (decideReference values t).ct = (decideReference values s).ct := fun state => by
    rw [decideReference_free t values (ct ▸ state), decideReference_free s values state, wants]
    cases wanted s values <;> simp [ct]
  cases state : s.ct.state with
  | freerun => exact free (.inl state)
  | holdover => exact free (.inr state)
  | acquire =>
    cases reference : s.ct.reference with
    | none =>
      rw [decideReference_none t values (.inl (ct ▸ state)) (ct ▸ reference),
        decideReference_none s values (.inl state) reference, ct]
    | some r =>
      rw [decideReference_acquire t values (ct ▸ state) (ct ▸ reference),
        decideReference_acquire s values state reference]
      simp only [decideAcquire, mode, manual, ok, apply_ite State.ct, State.updCt, State.setCt_ct, ct]
  | locked =>
    cases reference : s.ct.reference with
    | none =>
      rw [decideReference_none t values (.inr (ct ▸ state)) (ct ▸ reference),
        decideReference_none s values (.inr state) reference, ct]
    | some r =>
      rw [decideReference_locked t values (ct ▸ state) (ct ▸ reference),
        decideReference_locked s values state reference]
      have reverts : (revert t values r).ct = (revert s values r).ct := by
        simp only [revert, prefers, revertive]
        cases preferred s values r <;>
          simp only [apply_ite State.ct, State.updCt, State.setCt_ct, ct]
      simp only [decideLocked, mode, manual, ok]
      cases s.sl.settings.refMode <;>
        simp only [apply_ite State.ct, State.updCt, State.setCt_ct, ct, reverts]

end

/-! ## What a decision can make of the tracker -/

/-- What a reference decision can make of a tracker (R45 to R49). -/
def Decides (t x : CT) : Prop :=
  x = t ∨ (t.state ≠ .locked ∧ ∃ p, x = t.acquire p) ∨ (t.state = .acquire ∧ x = t.dropCandidate) ∨
    (t.state = .locked ∧ (x = t.leaveLocked ∨ (∃ p, x = t.switchTo p) ∨
      ∃ p n, x = { t with revertPhase := p, revertCount := n }))

section
variable (s : State) (values : PerChannel (Option Nat))

theorem decides_free (state : s.ct.state = .freerun ∨ s.ct.state = .holdover) : Decides s.ct (decideReference values s).ct := by
  rw [decideReference_free s values state]
  have unlocked : s.ct.state ≠ .locked := fun locked => by simp [locked] at state
  cases wanted s values with
  | none => exact .inl rfl
  | some p => exact .inr (.inl ⟨unlocked, p, rfl⟩)

theorem decides_acquire (state : s.ct.state = .acquire) (r : Phase) : Decides s.ct (decideAcquire s values r).ct := by
  have unlocked : s.ct.state ≠ .locked := fun locked => by simp [locked] at state
  unfold decideAcquire
  dsimp only
  repeat' split
  · exact .inr (.inl ⟨unlocked, _, rfl⟩)
  · exact .inr (.inr (.inl ⟨state, rfl⟩))
  · exact .inl rfl

theorem decides_locked (state : s.ct.state = .locked) (r : Phase) : Decides s.ct (decideLocked s values r).ct := by
  have counts : ∀ p n, Decides s.ct { s.ct with revertPhase := p, revertCount := n } := fun p n =>
    .inr (.inr (.inr ⟨state, .inr (.inr ⟨p, n, rfl⟩)⟩))
  have leaves : Decides s.ct s.ct.leaveLocked := .inr (.inr (.inr ⟨state, .inl rfl⟩))
  have switches : ∀ p, Decides s.ct (s.ct.switchTo p) := fun p => .inr (.inr (.inr ⟨state, .inr (.inl ⟨p, rfl⟩)⟩))
  have reverts : Decides s.ct (revert s values r).ct := by
    unfold revert
    split
    · exact counts _ _
    · next p _ =>
      generalize (if s.ct.revertPhase = some p then s.ct.revertCount + 1 else 1) = n
      dsimp only
      repeat' split
      · exact switches _
      · exact counts _ _
      · exact counts _ _
  unfold decideLocked
  dsimp only
  repeat' split
  · exact leaves
  · exact reverts
  · exact .inl rfl
  · exact switches _
  · exact leaves

theorem decides_decideReference : Decides s.ct (decideReference values s).ct := by
  cases state : s.ct.state with
  | freerun => exact decides_free s values (.inl state)
  | holdover => exact decides_free s values (.inr state)
  | acquire =>
    cases reference : s.ct.reference with
    | none => exact .inl (congrArg State.ct (decideReference_none s values (.inl state) reference))
    | some r =>
      rw [decideReference_acquire s values state reference]
      exact decides_acquire s values state r
  | locked =>
    cases reference : s.ct.reference with
    | none => exact .inl (congrArg State.ct (decideReference_none s values (.inr state) reference))
    | some r =>
      rw [decideReference_locked s values state reference]
      exact decides_locked s values state r

end

section
variable {t x : CT}

/-- A departure from LOCKED and a dropped candidate keep the boundary, the held half-period and what locked last. -/
theorem CT.leaveLocked_keeps (t : CT) : t.leaveLocked.last = t.last ∧ t.leaveLocked.held = t.held ∧
    t.leaveLocked.run = t.run ∧ t.leaveLocked.lastLocked = t.lastLocked ∧ t.leaveLocked.align = 0 ∧
    t.leaveLocked.state ≠ .locked := by
  unfold CT.leaveLocked
  dsimp only
  split <;> exact ⟨rfl, rfl, rfl, rfl, rfl, nofun⟩

theorem CT.dropCandidate_keeps (t : CT) : t.dropCandidate.last = t.last ∧ t.dropCandidate.held = t.held ∧
    t.dropCandidate.lastLocked = t.lastLocked := by
  unfold CT.dropCandidate
  split <;> exact ⟨rfl, rfl, rfl⟩

/-- A decision keeps the boundary, the held half-period and what locked last. -/
theorem Decides.keeps (h : Decides t x) : x.last = t.last ∧ x.held = t.held ∧ x.lastLocked = t.lastLocked := by
  rcases h with rfl | ⟨-, p, rfl⟩ | ⟨-, rfl⟩ | ⟨-, rfl | ⟨p, rfl⟩ | ⟨p, n, rfl⟩⟩
  · exact ⟨rfl, rfl, rfl⟩
  · exact ⟨rfl, rfl, rfl⟩
  · exact t.dropCandidate_keeps
  · obtain ⟨last, held, -, locked, -⟩ := t.leaveLocked_keeps
    exact ⟨last, held, locked⟩
  · exact ⟨rfl, rfl, rfl⟩
  · exact ⟨rfl, rfl, rfl⟩

end

end Sys2Proof.Machine
end

section
/-! The taking of a set by the Cycle Tracker, step by step (R35): what placement and acquisition come to in each state. -/

namespace Sys2Proof.Machine

/-! ## A boundary placed (R36) -/

/-- The boundary after another, at a position (R36). -/
def Boundary.next (b : Boundary) (position : Nat) (kind : BoundaryKind) : Boundary :=
  { number := wrap32 (b.number + 1), position := position, kind := kind }

/-- A step of the tracker that places a boundary: the boundary with its sliding values, the tracker, and what the decision
looks at; the mark of REF_CHANGE rises when the step changes the reference. -/
structure Puts (s : State) (r : Placed × State) (a : Boundary) (x : CT) (changed : Bool) : Prop where
  placed : r.1 = some (a, slidingValues s)
  ct : r.2.ct = x
  judges : Judges s r.2
  mark : changeMark r.2 = (changeMark s || changed)

section
variable (s : State)

theorem puts_place_at (position : Nat) (kind : BoundaryKind) (k : Nat) {number : Nat}
    (next : number = match s.ct.last with | some b => wrap32 (b.number + 1) | none => 0) :
    Puts s (place position kind k s) ⟨number, position, kind⟩ { s.ct with last := some ⟨number, position, kind⟩ } false := by
  obtain ⟨u, eq⟩ : ∃ u, u = s.updCt fun t => { t with last := some ⟨number, position, kind⟩ } := ⟨_, rfl⟩
  have placed : place position kind k s =
      (some (⟨number, position, kind⟩, slidingValues s), (boundaryWork ⟨number, position, kind⟩ k u).2) := by
    rw [eq, next]
    rfl
  obtain ⟨judges, mark⟩ := judges_boundaryWork u ⟨number, position, kind⟩ k
  obtain ⟨-, -, ct, -⟩ := blocks_of_boundaryless (boundaryless_boundaryWork u ⟨number, position, kind⟩ k)
  rw [placed]
  refine ⟨rfl, ?_, ?_, ?_⟩
  · rw [ct, eq]
    rfl
  · rw [eq] at judges ⊢
    exact ⟨judges.names, judges.settings, judges.mods⟩
  · rw [mark, eq, Bool.or_false]
    rfl

/-- The boundary placed after the last one. -/
theorem puts_place (position : Nat) (kind : BoundaryKind) (k : Nat) {b : Boundary} (last : s.ct.last = some b) :
    Puts s (place position kind k s) (b.next position kind) { s.ct with last := some (b.next position kind) } false :=
  puts_place_at s position kind k (by rw [last])

/-! ## Placement in LOCKED (R41, R42) -/

/-- A crossing from 23,296 up to the loss limit places a CROSSING boundary (R41). -/
theorem placeLocked_accepts {b : Boundary} (last : s.ct.last = some b) {limit C : Nat} (k : Nat)
    (late : b.position + 23296 ≤ C) (early : C ≤ limit) :
    Puts s (placeLocked b limit k (some C) s) (b.next C .crossing)
      { s.ct.accept b C with last := some (b.next C .crossing) } false := by
  have accepted : placeLocked b limit k (some C) s = place C .crossing k (s.updCt (CT.accept b C)) := by
    simp only [placeLocked, shortHalf, Option.filter_some, late, early, and_self, decide_true, if_true]
  have put := puts_place (s.updCt (CT.accept b C)) C .crossing k (b := b) last
  rw [accepted]
  exact ⟨put.placed, put.ct, ⟨put.judges.names, put.judges.settings, put.judges.mods⟩, put.mark⟩

/-- No crossing, or one too early or beyond the limit, is not accepted (R41). -/
theorem unaccepted {b : Boundary} {limit : Nat} {crossing : Option Nat}
    (none : ∀ C, crossing = some C → C < b.position + 23296 ∨ limit < C) :
    (crossing.filter fun c => decide (b.position + shortHalf ≤ c ∧ c ≤ limit)) = Option.none := by
  rw [Option.filter_eq_none_iff]
  intro C found accepted
  obtain ⟨late, early⟩ := of_decide_eq_true accepted
  rcases none C found with short | long
  · exact absurd late (Nat.not_le.mpr short)
  · exact absurd early (Nat.not_le.mpr long)

/-- Without a crossing to accept and below the limit nothing is placed (R41). -/
theorem placeLocked_waits (b : Boundary) {limit k : Nat} {crossing : Option Nat}
    (none : ∀ C, crossing = some C → C < b.position + 23296 ∨ limit < C) (below : k * 256 < limit) :
    placeLocked b limit k crossing s = (Option.none, s) := by
  have refused := unaccepted none
  simp only [placeLocked, refused, Nat.not_le.mpr below, if_false]

/-- At the limit without a crossing to accept a SYNTHETIC boundary is placed there (R42). -/
theorem placeLocked_loses {b : Boundary} (last : s.ct.last = some b) {limit k : Nat} {crossing : Option Nat}
    (none : ∀ C, crossing = some C → C < b.position + 23296 ∨ limit < C) (reached : limit ≤ k * 256) :
    Puts s (placeLocked b limit k crossing s) (b.next limit .synthetic)
      (CT.lose b { s.ct with last := some (b.next limit .synthetic) }) false := by
  have refused := unaccepted none
  have lost : placeLocked b limit k crossing s =
      ((place limit .synthetic k s).1, (place limit .synthetic k s).2.updCt (CT.lose b)) := by
    simp only [placeLocked, refused, reached, if_true]
  obtain ⟨placed, ct, judges, mark⟩ := puts_place s limit .synthetic k last
  rw [lost]
  exact ⟨placed, congrArg (CT.lose b) ct, ⟨judges.names, judges.settings, judges.mods⟩, mark⟩

/-! ## Placement (R36 to R42) -/

/-- The first set taken places boundary 0 at its position (R36). -/
theorem placement_first (c : CondSet) (last : s.ct.last = none) :
    Puts s (placement c s) ⟨0, c.k * 256, .synthetic⟩ { s.ct with last := some ⟨0, c.k * 256, .synthetic⟩ } false := by
  have first : placement c s = place (c.k * 256) .synthetic c.k s := by simp only [placement, last]
  rw [first]
  exact puts_place_at s _ _ _ (by rw [last])

/-- The half-period after which a boundary falls due when not LOCKED (R39, R40). -/
def dueHalf (s : State) : Nat := if s.ct.state = .freerun then nominalHalf s else s.ct.held.getD (nominalHalf s)

/-- Out of LOCKED a boundary is placed at its due position (R39, R40). -/
theorem placement_due (c : CondSet) {b : Boundary} (last : s.ct.last = some b) (unlocked : s.ct.state ≠ .locked) :
    placement c s = placeDue (b.position + dueHalf s) c.k s := by
  cases state : s.ct.state with
  | locked => exact absurd state unlocked
  | freerun | holdover | acquire => simp [placement, last, state, dueHalf]

theorem placement_reached (c : CondSet) {b : Boundary} (last : s.ct.last = some b) (unlocked : s.ct.state ≠ .locked)
    (reached : b.position + dueHalf s ≤ c.k * 256) :
    Puts s (placement c s) (b.next (b.position + dueHalf s) .synthetic)
      { s.ct with last := some (b.next (b.position + dueHalf s) .synthetic) } false := by
  rw [placement_due s c last unlocked, placeDue, if_pos reached]
  exact puts_place s _ _ _ last

theorem placement_waits (c : CondSet) {b : Boundary} (last : s.ct.last = some b) (unlocked : s.ct.state ≠ .locked)
    (below : c.k * 256 < b.position + dueHalf s) : placement c s = (none, s) := by
  rw [placement_due s c last unlocked, placeDue, if_neg (Nat.not_le.mpr below)]

/-- In LOCKED the crossing of the reference is tested against the loss limit (R41, R42). -/
theorem placement_locked (c : CondSet) {b : Boundary} (last : s.ct.last = some b) (locked : s.ct.state = .locked) :
    placement c s = placeLocked b (lossLimit s.ct.held b) c.k (referenceCrossing s c) s := by
  simp only [placement, last, locked]

/-! ## Acquisition (R46) -/

theorem acquisition_idle (c : CondSet) (h : s.ct.state ≠ .acquire ∨ referenceCrossing s c = none) :
    acquisition c s = (none, s) := by
  unfold acquisition
  rcases h with other | uncrossed
  · rw [if_neg other]
  · simp only [uncrossed, ite_self]

theorem acquisition_runs (c : CondSet) (state : s.ct.state = .acquire) {C : Nat} (crossing : referenceCrossing s c = some C)
    (short : (offer s.ct.run C).length ≠ 4) :
    acquisition c s = (none, s.setCt { s.ct with run := offer s.ct.run C }) := by
  unfold acquisition
  rw [if_pos state, crossing]
  exact if_neg short

theorem acquisition_locks (c : CondSet) (state : s.ct.state = .acquire) {C : Nat} (crossing : referenceCrossing s c = some C)
    (full : (offer s.ct.run C).length = 4) : acquisition c s = lock c C s := by
  simp only [acquisition, state, crossing, full, if_true]

end

end Sys2Proof.Machine
end

section
/-! The lock (R46, R51) and the taking of a set as a whole (R35). -/

namespace Sys2Proof.Machine

/-! ## The lock (R46, R51) -/

/-- What the tracker's values at a boundary and their judgement rest on is left: all of `Judges`, and the sliding values. -/
structure Sees (s t : State) : Prop where
  judges : Judges s t
  values : slidingValues t = slidingValues s

theorem Sees.trans {s t u : State} (h : Sees s t) (g : Sees t u) : Sees s u :=
  ⟨h.judges.trans g.judges, g.values.trans h.values⟩

section
variable (s : State)

theorem sees_readyTest : Sees s (readyTest s) ∧ (readyTest s).ct = s.ct ∧ changeMark (readyTest s) = changeMark s := by
  unfold readyTest
  split <;> exact ⟨⟨⟨fun _ => ⟨rfl, rfl⟩, rfl, rfl⟩, rfl⟩, rfl, rfl⟩

theorem sees_refChanged (changed : Bool) :
    Sees s (refChanged changed s) ∧ (refChanged changed s).ct = s.ct ∧
      changeMark (refChanged changed s) = (changeMark s || changed) := by
  cases changed with
  | false => exact ⟨⟨.refl s, rfl⟩, rfl, (Bool.or_false _).symm⟩
  | true =>
    have reported : Sees (latch .refChange s) (reportRefChange (latch .refChange s)) ∧
        (reportRefChange (latch .refChange s)).ct = s.ct ∧
        changeMark (reportRefChange (latch .refChange s)) = changeMark (latch .refChange s) := by
      unfold reportRefChange
      repeat' split
      all_goals exact ⟨⟨⟨fun _ => ⟨rfl, rfl⟩, rfl, rfl⟩, rfl⟩, rfl, rfl⟩
    obtain ⟨sees, ct, mark⟩ := reported
    exact ⟨⟨⟨sees.judges.names, sees.judges.settings, sees.judges.mods⟩, sees.values⟩, ct,
      by rw [Bool.or_true]; exact mark.trans (changeMark_latch s)⟩

/-- The entry into LOCKED: the tracker of R46, and REF_CHANGE latched at another reference (R51). -/
theorem enterLocked_leaves (order : LockOrder) :
    Sees s (enterLocked order s) ∧ (enterLocked order s).ct = s.ct.lockOn ∧
      changeMark (enterLocked order s) = (changeMark s || s.ct.changes) := by
  obtain ⟨u, eq⟩ : ∃ u, u = s.updCt CT.lockOn := ⟨_, rfl⟩
  have start : Sees s u ∧ u.ct = s.ct.lockOn ∧ changeMark u = changeMark s := by
    rw [eq]
    exact ⟨⟨⟨fun _ => ⟨rfl, rfl⟩, rfl, rfl⟩, rfl⟩, rfl, rfl⟩
  obtain ⟨sees, ct, mark⟩ := start
  obtain ⟨ready, readyCt, readyMark⟩ := sees_readyTest u
  obtain ⟨changed, changedCt, changedMark⟩ := sees_refChanged u s.ct.changes
  unfold enterLocked
  dsimp only
  rw [← eq]
  cases order with
  | readyReportPlace =>
    obtain ⟨after, afterCt, afterMark⟩ := sees_refChanged (readyTest u) s.ct.changes
    exact ⟨(sees.trans ready).trans after, (afterCt.trans readyCt).trans ct, by rw [afterMark, readyMark, mark]⟩
  | reportReadyPlace =>
    obtain ⟨after, afterCt, afterMark⟩ := sees_readyTest (refChanged s.ct.changes u)
    exact ⟨(sees.trans changed).trans after, (afterCt.trans changedCt).trans ct, by rw [afterMark, changedMark, mark]⟩
  | reportPlaceReady => exact ⟨sees.trans changed, changedCt.trans ct, by rw [changedMark, mark]⟩

variable (c : CondSet) {b : Boundary} {C : Nat}

theorem lock_eq (last : s.ct.last = some b) :
    lock c C s = placeLocked b (b.position + 40960) c.k (some C)
      (enterLocked (.ofDraw s.draws) (s.setDraws (s.draws + 1))) := by
  have kept : (enterLocked (.ofDraw s.draws) (s.setDraws (s.draws + 1))).ct.last = some b := by
    rw [(enterLocked_leaves _ _).2.1]
    exact last
  simp only [lock, draw, kept, longHalf]

/-- What the entry into LOCKED leaves before the crossing is tested for placement. -/
theorem lock_enters :
    Sees s (enterLocked (.ofDraw s.draws) (s.setDraws (s.draws + 1))) ∧
      (enterLocked (.ofDraw s.draws) (s.setDraws (s.draws + 1))).ct = s.ct.lockOn ∧
      changeMark (enterLocked (.ofDraw s.draws) (s.setDraws (s.draws + 1))) = (changeMark s || s.ct.changes) := by
  obtain ⟨sees, ct, mark⟩ := enterLocked_leaves (s.setDraws (s.draws + 1)) (.ofDraw s.draws)
  exact ⟨⟨⟨sees.judges.names, sees.judges.settings, sees.judges.mods⟩, sees.values⟩, ct, mark⟩

/-- A lock whose crossing is less than 23,296 after the last boundary places nothing (R46). -/
theorem lock_waits (last : s.ct.last = some b) (short : C < b.position + 23296) (below : c.k * 256 < b.position + 40960) :
    (lock c C s).1 = none ∧ (lock c C s).2.ct = s.ct.lockOn ∧
      changeMark (lock c C s).2 = (changeMark s || s.ct.changes) ∧ Judges s (lock c C s).2 := by
  obtain ⟨sees, ct, mark⟩ := lock_enters s
  have waits : lock c C s = (none, enterLocked (.ofDraw s.draws) (s.setDraws (s.draws + 1))) := by
    rw [lock_eq s c last]
    refine placeLocked_waits _ b (fun D found => ?_) below
    rw [← Option.some.inj found]
    exact .inl short
  rw [waits]
  exact ⟨rfl, ct, mark, sees.judges⟩

/-- A lock whose crossing lies from 23,296 to 40,960 after the last boundary places it (R46). -/
theorem lock_places (last : s.ct.last = some b) (late : b.position + 23296 ≤ C) (early : C ≤ b.position + 40960) :
    Puts s (lock c C s) (b.next C .crossing) { s.ct.lockOn.accept b C with last := some (b.next C .crossing) }
      s.ct.changes := by
  obtain ⟨sees, ct, mark⟩ := lock_enters s
  rw [lock_eq s c last]
  obtain ⟨u, eq⟩ : ∃ u, u = enterLocked (.ofDraw s.draws) (s.setDraws (s.draws + 1)) := ⟨_, rfl⟩
  rw [← eq] at sees ct mark ⊢
  obtain ⟨placed, ct', judges, mark'⟩ := placeLocked_accepts u (b := b) (by rw [ct]; exact last) c.k late early
  refine ⟨?_, ?_, sees.judges.trans judges, ?_⟩
  · rw [placed, sees.values]
  · rw [ct', ct]
  · rw [mark', mark, Bool.or_false]

/-! ## The taking of a set (R35) -/

/-- The tracker at the end of the taking of a set: the previous samples replaced, the timer advanced (R35, R50). -/
def CT.taking (c : CondSet) (limit : Nat) (x : CT) : CT :=
  CT.advance limit { x with previous := PerPhase.of fun p => some (c.values.get p.voltage) }

/-- The boundary placed in the taking of a set, by placement or by acquisition. -/
def placedBy (c : CondSet) (s : State) : Placed :=
  (acquisition c (placement c s).2).1.orElse fun _ => (placement c s).1

theorem trackTake_eq :
    trackTake c s = readyTest (((decideAt (placedBy c s) (acquisition c (placement c s).2).2).updCt fun t =>
      { t with previous := PerPhase.of fun p => some (c.values.get p.voltage) }).updCt
        (CT.advance (decideAt (placedBy c s) (acquisition c (placement c s).2).2).sl.settings.holdoverLimit)) := rfl

theorem ct_trackTake :
    (trackTake c s).ct =
      CT.taking c s.sl.settings.holdoverLimit (decideAt (placedBy c s) (acquisition c (placement c s).2).2).ct := by
  have parts := ((takes_placement s c).trans (takes_acquisition (placement c s).2 c)).trans
    (takes_decideAt (acquisition c (placement c s).2).2 (placedBy c s))
  have limit : (decideAt (placedBy c s) (acquisition c (placement c s).2).2).sl.settings.holdoverLimit =
      s.sl.settings.holdoverLimit := by
    have steady := parts.parts
    simp only [partView, Prod.mk.injEq] at steady
    obtain ⟨-, -, -, settings, -⟩ := steady
    have same := congrArg Settings.holdoverLimit settings
    exact same
  rw [trackTake_eq, (sees_readyTest _).2.1, limit]
  rfl

/-- The decision and the rest of the taking leave the mark of REF_CHANGE. -/
theorem changeMark_trackTake : changeMark (trackTake c s) = changeMark (acquisition c (placement c s).2).2 := by
  have decided : ∀ (p : Placed) (u : State), changeMark (decideAt p u) = changeMark u := fun p u => by
    unfold decideAt
    split
    · obtain ⟨x, eq⟩ := decideReference_setCt u ‹_›
      rw [eq]
      rfl
    · rfl
  rw [trackTake_eq, (sees_readyTest _).2.2]
  exact decided _ _

/-- A set at which no boundary is placed (R35). -/
theorem ct_trackTake_unplaced (none : placedBy c s = .none) :
    (trackTake c s).ct = CT.taking c s.sl.settings.holdoverLimit (acquisition c (placement c s).2).2.ct := by
  rw [ct_trackTake, none]
  rfl

/-- A set at which a boundary is placed: the reference decision follows with the sliding values at it (R35). -/
theorem ct_trackTake_placed {a : Boundary} {x : CT} (placed : placedBy c s = some (a, slidingValues s))
    (ct : (acquisition c (placement c s).2).2.ct = x) (judges : Judges s (acquisition c (placement c s).2).2) :
    (trackTake c s).ct =
      CT.taking c s.sl.settings.holdoverLimit (decideReference (slidingValues s) (s.setCt x)).ct := by
  have decided : (decideAt (some (a, slidingValues s)) (acquisition c (placement c s).2).2).ct =
      (decideReference (slidingValues s) (acquisition c (placement c s).2).2).ct := rfl
  have same : (decideReference (slidingValues s) (acquisition c (placement c s).2).2).ct =
      (decideReference (slidingValues s) (s.setCt x)).ct :=
    ct_decideReference_congr (s := s.setCt x) ⟨judges.names, judges.settings, judges.mods⟩ ct _
  rw [ct_trackTake, placed, decided, same]

/-- A boundary that placement places, at a set that acquisition leaves: the decision follows on the tracker placed. -/
theorem ct_trackTake_puts {a : Boundary} {x : CT} {changed : Bool} (puts : Puts s (placement c s) a x changed)
    (idle : acquisition c (placement c s).2 = (none, (placement c s).2)) :
    (trackTake c s).ct =
      CT.taking c s.sl.settings.holdoverLimit (decideReference (slidingValues s) (s.setCt x)).ct := by
  have placed : placedBy c s = some (a, slidingValues s) := by
    simp only [placedBy, idle, puts.placed, Option.orElse_none]
  refine ct_trackTake_placed s c placed ?_ ?_
  · rw [idle]
    exact puts.ct
  · rw [idle]
    exact puts.judges

end

end Sys2Proof.Machine
end

section
/-! The Cycle Tracker at a strobe issue: its parts but the sample path leave the tracker and what its taking of a set rests
on, so the tracker after the issue is the one that the taking of the set gives (R6, R35). -/

namespace Sys2Proof.Machine

/-! ## What the parts but the sample path leave -/

/-- The tracker, the half-cycle records and the mark of REF_CHANGE. -/
def trackView (s : State) := (s.ct, s.mu.channels, changeMark s)

section
variable (s : State)

theorem trackView_readyTest : trackView (readyTest s) = trackView s := by
  unfold readyTest
  split <;> rfl

theorem trackView_handRecord (body : RecordBody) : trackView (handRecord body s).2 = trackView s := by
  obtain ⟨-, -, -, ct, mu, -⟩ := blocks_of_recordless (recordless_handRecord s body)
  have mark := congrArg Prod.snd (lockView_handRecord s body)
  exact Prod.ext ct (Prod.ext (congrArg MU.channels mu) mark)

theorem trackView_monitorIssue : trackView (monitorIssue s) = trackView s := by
  unfold monitorIssue
  split
  · refine (trackView_readyTest _).trans (foldl_view (view := trackView) _ (fun v m => ?_) _)
    unfold expireModule
    dsimp only
    split <;> rfl
  · rfl

theorem trackView_rolloverReport : trackView (rolloverReport s) = trackView s := by
  have closed : trackView (closeInterval ⟨s.tb.seconds, 0⟩ false false s) = trackView s := by
    unfold closeInterval
    split
    · rfl
    · next x _ =>
      have handed := trackView_handRecord s (.interval (intervalBody s x ⟨s.tb.seconds, 0⟩ false false))
      exact handed
  have applied : ∀ u : State, trackView (applyUnlessHold .interval u) = trackView u := fun u => by
    unfold applyUnlessHold applyPending
    repeat' split
    · rfl
    · rfl
    · exact trackView_handRecord (placePending u) _
  unfold rolloverReport
  split
  · have both := (applied (closeInterval ⟨s.tb.seconds, 0⟩ false false s)).trans closed
    exact both
  · rfl

theorem trackView_issuePart (set : Option (Nat × PerModule (Option LaneFrame))) (rolled : Bool) {p : IssuePart}
    (other : p ≠ .sample) : trackView (issuePart set rolled s p) = trackView s := by
  cases p with
  | sample => exact absurd rfl other
  | monitor => exact trackView_monitorIssue s
  | rollover =>
    cases rolled with
    | true => exact trackView_rolloverReport s
    | false => rfl
  | arm =>
    have arm : trackView (armIssue s) = trackView s := by
      unfold armIssue
      split
      · dsimp only
        split <;> rfl
      · rfl
    exact arm
  | flush =>
    have flush : trackView (flushAge s) = trackView s := by
      unfold flushAge
      split <;> rfl
    exact flush

/-! ## The monitor part comes once -/

/-- Below the end of the monitor window a list of parts that takes the monitor once leaves the modules' states. -/
theorem mods_parts (set : Option (Nat × PerModule (Option LaneFrame))) (rolled : Bool) (l : List IssuePart)
    (once : l.count .monitor ≤ 1) (below : s.mm.count < 127) :
    (l.foldl (issuePart set rolled) s).mm.mods = s.mm.mods := by
  induction l generalizing s with
  | nil => rfl
  | cons p l ih =>
    rw [List.foldl_cons]
    by_cases monitor : p = .monitor
    · subst monitor
      have absent : .monitor ∉ l := by
        rw [List.count_cons_self] at once
        exact List.count_eq_zero.mp (by omega)
      have counted : (issuePart set rolled s .monitor).mm.mods = s.mm.mods := by
        have counts : monitorIssue s = s.setMm { s.mm with count := s.mm.count + 1 } := if_neg (Nat.not_le.mpr below)
        have mods := congrArg (fun u : State => u.mm.mods) counts
        exact mods
      exact foldl_keeps (P := fun u => u.mm.mods = s.mm.mods) (fun q member u kept =>
        (congrArg (fun x : MM × MB => x.1.mods)
          (moduleView_issuePart u set rolled fun same => absent (same ▸ member))).trans kept) counted
    · have mm : (issuePart set rolled s p).mm = s.mm := congrArg Prod.fst (moduleView_issuePart s set rolled monitor)
      rw [List.count_cons_of_ne monitor] at once
      rw [ih _ once (by rw [mm]; exact below), mm]

/-- Each part comes at most once before another. -/
theorem count_before {chosen before after : List IssuePart} {p : IssuePart}
    (split : issueParts chosen = before ++ p :: after) (q : IssuePart) : before.count q ≤ 1 := by
  obtain ⟨early, late, split', absent, absent'⟩ := issueParts_split chosen q
  have whole : (issueParts chosen).count q = 1 := by
    rw [split', List.count_append, List.count_cons_self, List.count_eq_zero.mpr absent, List.count_eq_zero.mpr absent']
  rw [split, List.count_append] at whole
  omega

/-! ## The tracker after a strobe issue -/

/-- A state at a strobe issue that the tracker takes the set from: the tracker, the half-cycle records, the channel table and
the steady settings are those before the issue, and so are the modules when no monitor window ends. -/
structure Tracks (s u : State) : Prop where
  view : trackView u = trackView s
  cc : u.cc = s.cc
  settings : u.sl.settings.steady = s.sl.settings.steady
  mods : s.mm.count < 127 → u.mm.mods = s.mm.mods

theorem ct_takeSet (k : Nat) (frames : PerModule (Option LaneFrame)) :
    (takeSet k frames s).ct = (trackTake (condition s.cc.table k frames) s).ct ∧
      changeMark (takeSet k frames s) = changeMark (trackTake (condition s.cc.table k frames) s) := by
  have pushes : ∀ (u : State) (f : FwdFrame), changeMark (pushFrame u f) = changeMark u := fun u f => by
    unfold pushFrame
    split
    · rfl
    · exact congrArg Prod.snd (lockView_latch u (f := .forwardLoss) (by decide))
  have forwards : ∀ (u : State) (collecting : Bool) (c : CondSet), (forwardHeld collecting c u).ct = u.ct ∧
      changeMark (forwardHeld collecting c u) = changeMark u := fun u collecting c => by
    obtain ⟨-, -, ct, -⟩ := blocks_of_boundaryless (boundaryless_forwardHeld u collecting c)
    refine ⟨ct, ?_⟩
    unfold forwardHeld
    dsimp only
    split
    · unfold forward
      split
      · exact foldl_view (view := changeMark) _ (fun v m => pushes v _) _
      · rfl
    · rfl
  have captures : ∀ (u : State) (c : CondSet), (captureTake c u).ct = u.ct ∧ changeMark (captureTake c u) = changeMark u :=
    fun u c => by
      obtain ⟨-, -, ct, -⟩ := blocks_of_boundaryless (boundaryless_captureTake u c)
      exact ⟨ct, congrArg Prod.snd (lockView_captureTake u c)⟩
  unfold takeSet
  simp only [draw]
  obtain ⟨ct, mark⟩ := forwards _ _ _
  obtain ⟨ct', mark'⟩ := captures (addSet (condition s.cc.table k frames) (trackTake (condition s.cc.table k frames) s))
    (condition s.cc.table k frames)
  exact ⟨ct.trans ct', mark.trans mark'⟩

/-- The tracker and the mark of REF_CHANGE after a strobe issue are those that the taking of its set gives. -/
theorem strobeIssue_tracks {k : Nat} {frames : PerModule (Option LaneFrame)} (set : setOf s = some (k, frames)) :
    ∃ u, Tracks s u ∧ (strobeIssue s).ct = (trackTake (condition s.cc.table k frames) u).ct ∧
      changeMark (strobeIssue s) = changeMark (trackTake (condition s.cc.table k frames) u) := by
  obtain ⟨before, after, split, early, late⟩ := issueParts_split (Config.issueOrder s.draws) .sample
  obtain ⟨u, taken⟩ : ∃ u, u = before.foldl (issuePart (setOf s) s.tb.rollsOver) (issueFirst (s.setDraws (s.draws + 1))) :=
    ⟨_, rfl⟩
  have tracks : Tracks s u := by
    rw [taken]
    refine ⟨?_, ?_, ?_, fun below => ?_⟩
    · exact foldl_keeps (P := fun v => trackView v = trackView s)
        (fun q member v kept => (trackView_issuePart v _ _ fun same => early (same ▸ member)).trans kept) rfl
    · exact foldl_keeps (P := fun v => v.cc = s.cc)
        (fun q member v kept => (cc_issuePart v _ _ fun same => early (same ▸ member)).trans kept) rfl
    · refine foldl_keeps (P := fun v => v.sl.settings.steady = s.sl.settings.steady) (fun q _ v kept => ?_) rfl
      have parts := partView_issuePart v (setOf s) s.tb.rollsOver q
      simp only [partView, Prod.mk.injEq] at parts
      obtain ⟨-, -, -, settings, -⟩ := parts
      exact settings.trans kept
    · exact mods_parts _ _ _ _ (count_before split .monitor) below
  have sampled : strobeIssue s = after.foldl (issuePart (setOf s) s.tb.rollsOver) (takeSet k frames u) := by
    rw [strobeIssue_eq, split, List.foldl_append, List.foldl_cons, ← taken, set]
    rfl
  have kept : trackView (strobeIssue s) = trackView (takeSet k frames u) := by
    rw [sampled]
    exact foldl_keeps (P := fun v => trackView v = trackView (takeSet k frames u))
      (fun q member v kept => (trackView_issuePart v _ _ fun same => late (same ▸ member)).trans kept) rfl
  simp only [trackView, Prod.mk.injEq] at kept
  obtain ⟨ct, -, mark⟩ := kept
  obtain ⟨ct', mark'⟩ := ct_takeSet u k frames
  rw [tracks.cc] at ct' mark'
  exact ⟨u, tracks, ct.trans ct', mark.trans mark'⟩

end

/-! ## What a tracked state has in common -/

section
variable {s u : State}

theorem Tracks.ct (h : Tracks s u) : u.ct = s.ct := congrArg Prod.fst h.view

theorem Tracks.mark (h : Tracks s u) : changeMark u = changeMark s := congrArg (fun x => x.2.2) h.view

theorem Tracks.setting (h : Tracks s u) {α : Type} (f : Settings → α) (steady : ∀ x : Settings, f x.steady = f x) :
    f u.sl.settings = f s.sl.settings := by
  rw [← steady u.sl.settings, h.settings, steady]

theorem Tracks.values (h : Tracks s u) : slidingValues u = slidingValues s := by
  have channels : u.mu.channels = s.mu.channels := congrArg (fun x => x.2.1) h.view
  simp only [slidingValues, channels, h.setting (·.declaredCounts) fun _ => rfl]

theorem Tracks.nominal (h : Tracks s u) : nominalHalf u = nominalHalf s := by
  simp only [nominalHalf, h.setting (·.nominalFreq) fun _ => rfl]

theorem Tracks.crossing (h : Tracks s u) (c : CondSet) : referenceCrossing u c = referenceCrossing s c := by
  have phases : phaseCrossing u c = phaseCrossing s c := by
    funext p
    simp only [phaseCrossing, h.ct]
  simp only [referenceCrossing, h.ct, phases]

theorem Tracks.due (h : Tracks s u) : dueHalf u = dueHalf s := by simp only [dueHalf, h.ct, h.nominal]

/-- Where no monitor window ends, the decision at the taking is the one on the state before the issue. -/
theorem Tracks.decided (h : Tracks s u) (below : s.mm.count < 127) (x : CT) :
    (decideReference (slidingValues u) (u.setCt x)).ct = (decideReference (slidingValues s) (s.setCt x)).ct := by
  have names : SameNames s.cc.table u.cc.table := fun c => by rw [h.cc]; exact ⟨rfl, rfl⟩
  rw [h.values]
  exact ct_decideReference_congr (s := s.setCt x) (t := u.setCt x) ⟨names, h.settings, h.mods below⟩ rfl _

end

end Sys2Proof.Machine
end

section
/-! The timeouts of the tracker and its reference decision (R42 to R50). -/

namespace Sys2Proof.Machine

/-! ## The timer (R50) -/

section
variable (t : CT)

/-- The timer's advance leaves the last boundary, the run, the alignment count and what locked last, and does not leave or
enter LOCKED. -/
theorem CT.advance_keeps (limit : Nat) : (t.advance limit).last = t.last ∧ (t.advance limit).align = t.align ∧
    (t.advance limit).run = t.run ∧ (t.advance limit).lastLocked = t.lastLocked ∧
    ((t.advance limit).state = .locked ↔ t.state = .locked) := by
  have expires : t.expire.last = t.last ∧ t.expire.align = t.align ∧ t.expire.run = t.run ∧
      t.expire.lastLocked = t.lastLocked ∧ (t.expire.state = .locked ↔ t.state = .locked) := by
    unfold CT.expire
    split
    · next state => exact ⟨rfl, rfl, rfl, rfl, by simp [state]⟩
    all_goals exact ⟨rfl, rfl, rfl, rfl, Iff.rfl⟩
  unfold CT.advance
  repeat' split
  · exact ⟨rfl, rfl, rfl, rfl, Iff.rfl⟩
  · exact expires
  · exact ⟨rfl, rfl, rfl, rfl, Iff.rfl⟩

theorem CT.advance_stopped (limit : Nat) (timer : t.timer = none) : t.advance limit = t := by
  simp only [CT.advance, timer]

theorem CT.advance_runs {limit n : Nat} (timer : t.timer = some n) (below : n + 256 < limit * 3276800) :
    t.advance limit = { t with timer := some (n + 256) } := by
  simp only [CT.advance, timer, Nat.not_le.mpr below, if_false]

theorem CT.advance_expires {limit n : Nat} (timer : t.timer = some n) (reached : limit * 3276800 ≤ n + 256) :
    t.advance limit = t.expire := by
  simp only [CT.advance, timer, reached, if_true]

end

/-! ## A decision out of LOCKED -/

theorem Decides.unlocked {t x : CT} (h : Decides t x) (state : t.state ≠ .locked) :
    x.state ≠ .locked ∧ x.align = t.align := by
  rcases h with rfl | ⟨-, p, rfl⟩ | ⟨-, rfl⟩ | ⟨locked, -⟩
  · exact ⟨state, rfl⟩
  · exact ⟨nofun, rfl⟩
  · unfold CT.dropCandidate
    split <;> exact ⟨nofun, rfl⟩
  · exact absurd locked state

/-- A decision that ends in LOCKED kept the alignment count. -/
theorem Decides.locked {t x : CT} (h : Decides t x) (state : x.state = .locked) : x.align = t.align := by
  rcases h with rfl | ⟨-, p, rfl⟩ | ⟨-, rfl⟩ | ⟨-, rfl | ⟨p, rfl⟩ | ⟨p, n, rfl⟩⟩
  · rfl
  · rfl
  · unfold CT.dropCandidate
    split <;> rfl
  · exact absurd state t.leaveLocked_keeps.2.2.2.2.2
  · rfl
  · rfl

/-- The tracker's holdover timer stands still or has just expired, into FREERUN or ACQUIRE (R50). -/
def CT.stopped (t : CT) : Prop :=
  t.timer = none ∧ t.held = none ∧ (t.state = .acquire ∨ (t.state = .freerun ∧ t.reference = none))

theorem CT.expire_stopped {t : CT} (state : t.state = .holdover ∨ t.state = .acquire) : t.expire.stopped := by
  rcases state with state | state
  · simp [CT.expire, state, CT.stopped]
  · simp [CT.expire, state, CT.stopped]

theorem CT.taking_expires (c : CondSet) (t : CT) {limit n : Nat} (timer : t.timer = some n)
    (reached : limit * 3276800 ≤ n + 256) :
    t.taking c limit = CT.expire { t with previous := PerPhase.of fun p => some (c.values.get p.voltage) } :=
  CT.advance_expires { t with previous := PerPhase.of fun p => some (c.values.get p.voltage) } timer reached

theorem CT.taking_stopped (c : CondSet) (t : CT) (limit : Nat) (timer : t.timer = none) :
    t.taking c limit = { t with previous := PerPhase.of fun p => some (c.values.get p.voltage) } :=
  CT.advance_stopped { t with previous := PerPhase.of fun p => some (c.values.get p.voltage) } limit timer

/-- The holdover timer at its limit in HOLDOVER or ACQUIRE, whatever the decision before it was (R50). -/
theorem Decides.expires {t x : CT} (h : Decides t x) (state : t.state = .holdover ∨ t.state = .acquire) {limit n : Nat}
    (timer : t.timer = some n) (reached : limit * 3276800 ≤ n + 256) (c : CondSet) : (x.taking c limit).stopped := by
  have expired : ∀ y : CT, y.timer = some n → y.state = .holdover ∨ y.state = .acquire → (y.taking c limit).stopped := by
    intro y timer state
    rw [y.taking_expires c timer reached]
    exact CT.expire_stopped state
  rcases h with rfl | ⟨-, p, rfl⟩ | ⟨acquire, rfl⟩ | ⟨locked, -⟩
  · exact expired _ timer state
  · exact expired _ timer (.inr rfl)
  · cases held : t.held with
    | some h =>
      rw [t.dropCandidate_held.1 h held]
      exact expired _ timer (.inl rfl)
    | none =>
      rw [t.dropCandidate_held.2 held, CT.taking_stopped _ _ _ rfl]
      exact ⟨rfl, held, .inr ⟨rfl, rfl⟩⟩
  · rcases state with state | state <;> simp [state] at locked

/-! ## The taking of a set, whatever is placed -/

section
variable (s : State) (c : CondSet)

/-- Whatever is placed, the tracker of acquisition is decided upon, or left, and its timer advances (R35). -/
theorem trackTake_decides : ∃ y, Decides (acquisition c (placement c s).2).2.ct y ∧
    (trackTake c s).ct = CT.taking c s.sl.settings.holdoverLimit y := by
  refine ⟨_, ?_, ct_trackTake s c⟩
  unfold decideAt
  split
  · next values _ => exact decides_decideReference (acquisition c (placement c s).2).2 values
  · exact .inl rfl

/-- Out of LOCKED placement moves the last boundary alone (R36, R39, R40). -/
theorem placement_unlocked (unlocked : s.ct.state ≠ .locked) :
    ∃ last, (placement c s).2.ct = { s.ct with last := last } := by
  cases last : s.ct.last with
  | none => exact ⟨_, (placement_first s c last).ct⟩
  | some b =>
    rcases Nat.lt_or_ge (c.k * 256) (b.position + dueHalf s) with below | reached
    · exact ⟨s.ct.last, by rw [placement_waits s c last unlocked below]⟩
    · exact ⟨_, (placement_reached s c last unlocked reached).ct⟩

theorem length_offer (run : List Nat) (C : Nat) : (offer run C).length ≤ max run.length 2 + 1 := by
  unfold offer
  dsimp only
  have joined : (run ++ [C]).length ≤ max run.length 2 + 1 := by
    rw [List.length_append, List.length_singleton]
    omega
  have two : 2 ≤ max run.length 2 + 1 := by omega
  repeat' split
  · exact le_trans (by decide : 1 ≤ 2) two
  · omega
  · exact le_trans (by decide : 1 ≤ 2) two
  · exact joined
  · exact joined
  · exact two

/-- With fewer than three crossings in its run the candidate does not lock at a set (R46). -/
theorem acquisition_short (short : s.ct.state = .acquire → s.ct.run.length < 3) :
    ∃ run, acquisition c s = (none, s.setCt { s.ct with run := run }) := by
  by_cases idle : s.ct.state ≠ .acquire ∨ referenceCrossing s c = none
  · exact ⟨s.ct.run, acquisition_idle s c idle⟩
  · push Not at idle
    obtain ⟨state, crossed⟩ := idle
    obtain ⟨C, crossing⟩ := Option.ne_none_iff_exists'.mp crossed
    have length := length_offer s.ct.run C
    have bound := short state
    exact ⟨_, acquisition_runs s c state crossing (by omega)⟩

end

/-! ## The commands -/

section
variable (s : State)

/-- The set handed on at an issue of the fourth strobe or a later one (R6). -/
theorem setOf_issue (fourth : 4 ≤ nextStrobe s) :
    setOf s = some (nextStrobe s - 4, closingFrames (nextStrobe s) s) := by
  simp only [setOf, setAtIssue, fourth, if_true, Option.map_some]

theorem reaches_issue (fourth : 4 ≤ nextStrobe s) (position : Nat) :
    reaches s position = decide (position ≤ (nextStrobe s - 4) * 256) := by
  simp only [reaches, setAtIssue, fourth, if_true]

theorem exec_crossingTimeout : exec .crossingTimeout s = .next (settle (issueWhen (crossingDue s) s)) := rfl

theorem exec_holdoverTimerExpiry : exec .holdoverTimerExpiry s = .next (settle (issueWhen (holdoverDue s) s)) := rfl

theorem exec_freerunBoundary : exec .freerunBoundary s = .next (settle (issueWhen (freerunDue s) s)) := rfl

theorem exec_heldHalfPeriodBoundary : exec .heldHalfPeriodBoundary s = .next (settle (issueWhen (heldDue s) s)) := rfl

/-- The holdover timer is due at an issue that hands a set on (R50). -/
theorem holdoverDue_of (fourth : 4 ≤ nextStrobe s) {n : Nat} (timer : s.ct.timer = some n)
    (reached : s.sl.settings.holdoverLimit * 3276800 ≤ n + 256) : holdoverDue s = true := by
  simp only [holdoverDue, timer, setAtIssue, fourth, if_true, reached, decide_true]

end

end Sys2Proof.Machine
end

section
/-! The timeouts and the reference decision, settled. -/

namespace Sys2Proof.Machine

section
variable (s : State)

/-- A lost half-cycle out of alignment leaves LOCKED; an aligning one raises the count (R42). -/
theorem CT.lose_cases (b : Boundary) (t : CT) :
    (b.kind = .crossing ∨ 2 ≤ t.align → t.lose b = t.leaveLocked) ∧
    (b.kind = .synthetic → t.align < 2 → t.lose b = { t with align := t.align + 1 }) := by
  refine ⟨fun out => if_neg fun aligning => ?_, fun kind count => if_pos ⟨kind, count⟩⟩
  obtain ⟨kind, count⟩ := aligning
  rcases out with crossing | most
  · rw [crossing] at kind
    cases kind
  · omega

/-- The crossing timeout is due at a loss limit reached without a crossing to accept (R42). -/
theorem crossingDue_of {b : Boundary} (state : s.ct.state = .locked) (last : s.ct.last = some b)
    (fourth : 4 ≤ nextStrobe s) (reached : lossLimit s.ct.held b ≤ (nextStrobe s - 4) * 256)
    (none : ∀ C, referenceCrossing s (condition s.cc.table (nextStrobe s - 4) (closingFrames (nextStrobe s) s)) = some C →
      C < b.position + 23296 ∨ lossLimit s.ct.held b < C) : crossingDue s = true := by
  simp only [crossingDue, state, last, setAtIssue, fourth, if_true, reached, decide_true, Bool.true_and]
  generalize referenceCrossing s _ = crossing at none ⊢
  cases crossing with
  | none => rfl
  | some C =>
    have out : ¬ (b.position + shortHalf ≤ C ∧ C ≤ lossLimit s.ct.held b) := fun ⟨late, early⟩ => by
      rcases none C rfl with short | long
      · exact absurd late (Nat.not_le.mpr short)
      · exact absurd early (Nat.not_le.mpr long)
    simp only [Option.any_some, out, decide_false, Bool.not_false]

theorem trackTake_loses {c : CondSet} {b : Boundary} (state : s.ct.state = .locked) (last : s.ct.last = some b)
    (reached : lossLimit s.ct.held b ≤ c.k * 256)
    (none : ∀ C, referenceCrossing s c = some C → C < b.position + 23296 ∨ lossLimit s.ct.held b < C) :
    ∃ y, Decides (CT.lose b { s.ct with last := some (b.next (lossLimit s.ct.held b) .synthetic) }) y ∧
      (trackTake c s).ct = CT.taking c s.sl.settings.holdoverLimit y := by
  have puts := placeLocked_loses s last none reached
  rw [← placement_locked s c last state] at puts
  have unready : (placement c s).2.ct.state ≠ .acquire := by
    rw [puts.ct]
    unfold CT.lose
    split
    · simp [state]
    · unfold CT.leaveLocked
      dsimp only
      split <;> exact nofun
  have idle := acquisition_idle (placement c s).2 c (.inl unready)
  exact ⟨_, decides_decideReference _ _, ct_trackTake_puts s c puts idle⟩

/-- What the end of the taking of a set leaves (R35, R50). -/
theorem CT.taking_keeps (c : CondSet) (limit : Nat) (x : CT) :
    (x.taking c limit).last = x.last ∧ (x.taking c limit).align = x.align ∧ (x.taking c limit).run = x.run ∧
      (x.taking c limit).lastLocked = x.lastLocked ∧ ((x.taking c limit).state = .locked ↔ x.state = .locked) :=
  CT.advance_keeps { x with previous := PerPhase.of fun p => some (c.values.get p.voltage) } limit

/-- Without a due boundary the next set lies before its position (R40). -/
theorem heldDue_eq {b : Boundary} (last : s.ct.last = some b) (fourth : 4 ≤ nextStrobe s)
    (state : s.ct.state = .holdover ∨ s.ct.state = .acquire) :
    heldDue s = decide (b.position + dueHalf s ≤ (nextStrobe s - 4) * 256) := by
  rcases state with state | state
  · simp [heldDue, state, last, reaches_issue s fourth, dueHalf]
  · simp [heldDue, state, last, reaches_issue s fourth, dueHalf]

/-- The set at which the timer expires with no boundary due and no lock: the tracker keeps all but its run, and expires
(R50). -/
theorem trackTake_expires {c : CondSet} {b : Boundary} (last : s.ct.last = some b)
    (state : s.ct.state = .holdover ∨ s.ct.state = .acquire) (below : c.k * 256 < b.position + dueHalf s)
    (short : s.ct.state = .acquire → s.ct.run.length < 3) :
    ∃ run, (trackTake c s).ct = CT.taking c s.sl.settings.holdoverLimit { s.ct with run := run } := by
  have unlocked : s.ct.state ≠ .locked := fun locked => by simp [locked] at state
  have waits := placement_waits s c last unlocked below
  obtain ⟨run, runs⟩ := acquisition_short s c short
  have none : placedBy c s = .none := by simp only [placedBy, waits, runs, Option.orElse_none]
  refine ⟨run, ?_⟩
  rw [ct_trackTake_unplaced s c none, waits, runs]
  rfl

/-- The set at which the timer expires, whatever is placed in it, without a lock (R50). -/
theorem trackTake_stops {c : CondSet} (state : s.ct.state = .holdover ∨ (s.ct.state = .acquire ∧ s.ct.run.length < 3))
    {n : Nat} (timer : s.ct.timer = some n) (reached : s.sl.settings.holdoverLimit * 3276800 ≤ n + 256) :
    (trackTake c s).ct.stopped := by
  have either : s.ct.state = .holdover ∨ s.ct.state = .acquire := state.imp_right And.left
  have unlocked : s.ct.state ≠ .locked := fun locked => by simp [locked] at either
  obtain ⟨last, placed⟩ := placement_unlocked s c unlocked
  obtain ⟨run, runs⟩ := acquisition_short (placement c s).2 c (by
    rw [placed]
    intro acquire
    rcases state with holdover | ⟨-, short⟩
    · rw [show s.ct.state = .acquire from acquire] at holdover
      cases holdover
    · exact short)
  obtain ⟨y, decides, taken⟩ := trackTake_decides s c
  rw [runs, placed] at decides
  rw [taken]
  exact decides.expires either timer reached c

end

/-! ## The decision in ACQUIRE and in LOCKED, case by case (R47 to R49) -/

section
variable (s : State) (values : PerChannel (Option Nat)) {r : Phase}

theorem decideAcquire_stays (ok : eligible s values r = true)
    (stays : s.sl.settings.refMode = .auto ∨ r = s.sl.settings.refManual) : decideAcquire s values r = s := by
  rcases stays with mode | same
  · simp [decideAcquire, ok, mode]
  · rw [same] at ok ⊢
    simp [decideAcquire, ok]

/-- The candidate gives way when it is not eligible, or to REF_MANUAL (R47). -/
theorem candidate_dropped
    (dropped : ¬ eligible s values r = true ∨ (s.sl.settings.refMode = .manual ∧ r ≠ s.sl.settings.refManual)) :
    (!eligible s values r || (s.sl.settings.refMode == .manual && r != s.sl.settings.refManual)) = true := by
  rcases dropped with lost | ⟨mode, other⟩
  · simp [lost]
  · simp [mode, other]

theorem decideAcquire_manual
    (dropped : ¬ eligible s values r = true ∨ (s.sl.settings.refMode = .manual ∧ r ≠ s.sl.settings.refManual))
    (mode : s.sl.settings.refMode = .manual) (ok : eligible s values s.sl.settings.refManual = true) :
    decideAcquire s values r = s.setCt (s.ct.acquire s.sl.settings.refManual) :=
  (if_pos (candidate_dropped s values dropped)).trans (if_pos ⟨mode, ok⟩)

theorem decideAcquire_drops
    (dropped : ¬ eligible s values r = true ∨ (s.sl.settings.refMode = .manual ∧ r ≠ s.sl.settings.refManual))
    (none : s.sl.settings.refMode = .auto ∨ ¬ eligible s values s.sl.settings.refManual = true) :
    decideAcquire s values r = s.setCt s.ct.dropCandidate := by
  refine (if_pos (candidate_dropped s values dropped)).trans (if_neg fun ⟨mode, ok⟩ => ?_)
  rcases none with auto | lost
  · rw [auto] at mode
    cases mode
  · exact lost ok

theorem decideLocked_leaves (lost : ¬ eligible s values r = true) :
    decideLocked s values r = s.setCt s.ct.leaveLocked := by
  simp [decideLocked, lost, State.updCt]

theorem decideLocked_auto (ok : eligible s values r = true) (mode : s.sl.settings.refMode = .auto) :
    decideLocked s values r = revert s values r := by
  simp [decideLocked, ok, mode]

theorem decideLocked_stays (ok : eligible s values r = true) (mode : s.sl.settings.refMode = .manual)
    (same : r = s.sl.settings.refManual) : decideLocked s values r = s := by
  rw [same] at ok ⊢
  simp [decideLocked, ok, mode]

theorem decideLocked_switches (ok : eligible s values r = true) (mode : s.sl.settings.refMode = .manual)
    (other : r ≠ s.sl.settings.refManual) (manual : eligible s values s.sl.settings.refManual = true) :
    decideLocked s values r = s.setCt (s.ct.switchTo s.sl.settings.refManual) := by
  simp [decideLocked, ok, mode, other, manual, State.updCt]

theorem decideLocked_abandons (ok : eligible s values r = true) (mode : s.sl.settings.refMode = .manual)
    (other : r ≠ s.sl.settings.refManual) (manual : ¬ eligible s values s.sl.settings.refManual = true) :
    decideLocked s values r = s.setCt s.ct.leaveLocked := by
  simp [decideLocked, ok, mode, other, manual, State.updCt]

theorem revert_none (none : s.sl.settings.revertive = false ∨ preferred s values r = .none) :
    revert s values r = s.setCt { s.ct with revertPhase := .none, revertCount := 0 } := by
  unfold revert
  rcases none with fixed | absent
  · cases preferred s values r <;> simp [fixed, State.updCt]
  · simp only [absent]
    rfl

variable {p : Phase}

theorem revert_counts (revertive : s.sl.settings.revertive = true) (found : preferred s values r = some p)
    (few : (if s.ct.revertPhase = some p then s.ct.revertCount + 1 else 1) < 100) :
    revert s values r = s.setCt { s.ct with
      revertPhase := some p, revertCount := if s.ct.revertPhase = some p then s.ct.revertCount + 1 else 1 } := by
  simp only [revert, found, revertive, if_true]
  exact if_neg (Nat.not_le.mpr few)

theorem revert_switches (revertive : s.sl.settings.revertive = true) (found : preferred s values r = some p)
    (most : 100 ≤ if s.ct.revertPhase = some p then s.ct.revertCount + 1 else 1) :
    revert s values r = s.setCt (s.ct.switchTo p) := by
  simp only [revert, found, revertive, if_true]
  exact if_pos most

end

/-- Settles O16: the lost half-cycle, the holdover timer at its limit, and the decision in each state of the tracker. -/
theorem trackerTimeouts : Obligations.TrackerTimeouts := by
  unfold Obligations.TrackerTimeouts
  refine ⟨fun s b state last fourth => ?_, fun s n b last undue timer reached fourth => ?_,
    fun s n state timer reached fourth => ?_, fun x limit => ⟨fun timer => x.advance_stopped limit timer,
      fun n timer below => x.advance_runs timer below⟩, fun s values => ?_⟩
  · intro k c limit reached none
    have set := setOf_issue s fourth
    have unaccepted : ∀ C, referenceCrossing s c = some C → C < b.position + 23296 ∨ lossLimit s.ct.held b < C := by
      intro C found
      obtain ⟨r, reference, crossing⟩ := Option.bind_eq_some_iff.mp found
      exact none r C reference crossing
    have due := crossingDue_of s state last fourth reached unaccepted
    obtain ⟨u, tracks, ct, -⟩ := strobeIssue_tracks s set
    obtain ⟨y, decides, taken⟩ := trackTake_loses u (c := c) (b := b) (by rw [tracks.ct]; exact state)
      (by rw [tracks.ct]; exact last) (by rw [tracks.ct]; exact reached) (by rw [tracks.ct, tracks.crossing]; exact unaccepted)
    rw [tracks.ct] at decides
    have after : (strobeIssue s).ct = CT.taking c u.sl.settings.holdoverLimit y := ct.trans taken
    obtain ⟨keptLast, keptAlign, -, -, keptState⟩ := CT.taking_keeps c u.sl.settings.holdoverLimit y
    obtain ⟨leaves, aligns⟩ := CT.lose_cases b { s.ct with last := some (b.next (lossLimit s.ct.held b) .synthetic) }
    refine ⟨_, exec_crossingTimeout s, ?_⟩
    rw [issueWhen_due s due, after, keptLast, keptAlign, keptState, decides.keeps.1]
    refine ⟨?_, fun out => ?_, fun kind count => ?_⟩
    · unfold CT.lose
      split
      · rfl
      · exact (CT.leaveLocked_keeps _).1
    · rw [leaves out] at decides
      obtain ⟨-, -, -, -, align, left⟩ := CT.leaveLocked_keeps { s.ct with last := some (b.next (lossLimit s.ct.held b) .synthetic) }
      obtain ⟨unlocked, same⟩ := decides.unlocked left
      exact ⟨mt keptState.mp unlocked, same.trans align⟩
    · rw [aligns kind count] at decides
      exact decides.locked
  · have set := setOf_issue s fourth
    obtain ⟨u, tracks, ct, -⟩ := strobeIssue_tracks s set
    have timerU : u.ct.timer = some n := by rw [tracks.ct]; exact timer
    have reachedU : u.sl.settings.holdoverLimit * 3276800 ≤ n + 256 := by
      rw [tracks.setting (·.holdoverLimit) fun _ => rfl]
      exact reached
    have expires : (s.ct.state = .holdover ∨ (s.ct.state = .acquire ∧ s.ct.run.length < 3)) →
        ∃ run, (strobeIssue s).ct = CT.expire { s.ct with
          run := run, previous := PerPhase.of fun p => some
            ((condition s.cc.table (nextStrobe s - 4) (closingFrames (nextStrobe s) s)).values.get p.voltage) } := by
      intro state
      have either := state.imp_right And.left
      have below : (nextStrobe s - 4) * 256 < b.position + dueHalf u := by
        rw [heldDue_eq s last fourth either, decide_eq_false_iff_not, ← tracks.due] at undue
        exact Nat.not_le.mp undue
      obtain ⟨run, taken⟩ := trackTake_expires u (c := condition s.cc.table (nextStrobe s - 4) (closingFrames (nextStrobe s) s))
        (b := b) (by rw [tracks.ct]; exact last) (by rw [tracks.ct]; exact either) below (by
          rw [tracks.ct]
          intro acquire
          rcases state with holdover | ⟨-, short⟩
          · rw [acquire] at holdover
            cases holdover
          · exact short)
      refine ⟨run, (ct.trans taken).trans ?_⟩
      rw [CT.taking_expires _ { u.ct with run := run } timerU reachedU, tracks.ct]
    refine ⟨fun state => ?_, fun p state reference short => ?_⟩
    · obtain ⟨run, after⟩ := expires (.inl state)
      refine ⟨_, exec_holdoverTimerExpiry s, ?_⟩
      rw [issueWhen_due s (holdoverDue_of s fourth timer reached), after]
      simp only [CT.expire, state]
      exact ⟨trivial, trivial, last, trivial, trivial⟩
    · obtain ⟨run, after⟩ := expires (.inr ⟨state, short⟩)
      refine ⟨_, exec_holdoverTimerExpiry s, ?_⟩
      rw [issueWhen_due s (holdoverDue_of s fourth timer reached), after]
      simp only [CT.expire, state]
      exact ⟨trivial, trivial, last, trivial, reference⟩
  · have set := setOf_issue s fourth
    obtain ⟨u, tracks, ct, -⟩ := strobeIssue_tracks s set
    refine ⟨_, exec_holdoverTimerExpiry s, ?_⟩
    rw [issueWhen_due s (holdoverDue_of s fourth timer reached), ct]
    exact trackTake_stops u (by rw [tracks.ct]; exact state) (by rw [tracks.ct]; exact timer)
      (by rw [tracks.setting (·.holdoverLimit) fun _ => rfl]; exact reached)
  · intro x t ok becomes left switched wanted'
    have eligibleIff : ∀ p, eligible s values p = true ↔ ok p := eligible_iff s values
    have leaves : t = s.setCt s.ct.leaveLocked → left := fun eq =>
      ⟨fun h held => by rw [← (CT.leaveLocked_held s.ct).1 h held]; exact eq,
        fun none => by rw [← (CT.leaveLocked_held s.ct).2 none]; exact eq⟩
    refine ⟨fun state => ⟨fun p wants => ?_, fun none => ?_⟩, fun r state reference => ?_, fun r state reference => ?_⟩
    · have free : t = _ := decideReference_free s values state
      have wanted : wanted s values = some p := wanted_some s values (by simpa only [eligibleIff] using wants)
      rw [wanted] at free
      exact free
    · have free : t = _ := decideReference_free s values state
      have wanted : wanted s values = .none := wanted_none s values (by simpa only [eligibleIff] using none)
      rw [wanted] at free
      exact free
    · have acquires : t = _ := decideReference_acquire s values state reference
      refine ⟨fun eligible stays => ?_, fun dropped => ⟨fun manual eligible => ?_, fun none => ?_⟩⟩
      · rw [acquires]
        exact decideAcquire_stays s values ((eligibleIff r).mpr eligible) stays
      · have candidate : ∀ p, s.ct.acquire p = { s.ct with reference := some p, run := [] } := fun p => by
          rw [CT.acquire, ← state]
        rw [← candidate]
        exact acquires.trans
          (decideAcquire_manual s values (by rwa [eligibleIff]) manual ((eligibleIff _).mpr eligible))
      · have drops : t = s.setCt s.ct.dropCandidate :=
          acquires.trans (decideAcquire_drops s values (by rwa [eligibleIff]) (by rwa [eligibleIff]))
        exact ⟨fun h held => by rw [← (CT.dropCandidate_held s.ct).1 h held]; exact drops,
          fun unheld => by rw [← (CT.dropCandidate_held s.ct).2 unheld]; exact drops⟩
    · have locks : t = _ := decideReference_locked s values state reference
      refine ⟨fun lost => ?_, fun eligible manual => ⟨fun same => ?_, fun other => ⟨fun eligible' => ?_, fun lost => ?_⟩⟩,
        fun eligible auto => ?_⟩
      · exact leaves (locks.trans (decideLocked_leaves s values (by rwa [eligibleIff])))
      · exact locks.trans (decideLocked_stays s values ((eligibleIff r).mpr eligible) manual same)
      · exact locks.trans (decideLocked_switches s values ((eligibleIff r).mpr eligible) manual other
          ((eligibleIff _).mpr eligible'))
      · exact leaves (locks.trans (decideLocked_abandons s values ((eligibleIff r).mpr eligible) manual other
          (by rwa [eligibleIff])))
      · have reverts : t = _ := locks.trans (decideLocked_auto s values ((eligibleIff r).mpr eligible) auto)
        intro preferred
        have preferredIff : ∀ p, Machine.preferred s values r = some p ↔ preferred p := by
          intro p
          rw [preferred_iff]
          simp only [eligibleIff]
          exact Iff.rfl
        refine ⟨fun none => ?_, fun p revertive wants => ?_⟩
        · refine reverts.trans (revert_none s values (none.imp_right fun absent => ?_))
          rw [Option.eq_none_iff_forall_ne_some]
          exact fun p found => absent p ((preferredIff p).mp found)
        · have found := (preferredIff p).mpr wants
          exact ⟨fun few => reverts.trans (revert_counts s values revertive found few),
            fun most => reverts.trans (revert_switches s values revertive found most)⟩

end Sys2Proof.Machine
end

section
/-! The boundaries of the tracker (R36 to R46): what the taking of a set comes to where a boundary falls due, where a crossing
is accepted or ignored, and where the run of the candidate goes on or locks. -/

namespace Sys2Proof.Machine

/-! ## The acquisition run (R46) -/

section
variable (C : Nat)

theorem offer_first : offer [] C = [C] := rfl

theorem offer_early {before : List Nat} {e : Nat} (early : C < e + 23296) : offer (before ++ [e]) C = before ++ [e] := by
  have short : C - e < 23296 := by omega
  simp only [offer, List.reverse_append, List.reverse_singleton, List.singleton_append, shortHalf, short, if_true]

theorem offer_late {before : List Nat} {e : Nat} (late : e + 40960 < C) : offer (before ++ [e]) C = [C] := by
  have long : 40960 < C - e := by omega
  have notShort : ¬ C - e < 23296 := by omega
  simp only [offer, List.reverse_append, List.reverse_singleton, List.singleton_append, shortHalf, longHalf, notShort, long,
    if_true, if_false]

theorem offer_second {e : Nat} (late : e + 23296 ≤ C) (early : C ≤ e + 40960) : offer [e] C = [e, C] := by
  have notShort : ¬ C - e < 23296 := by omega
  have notLong : ¬ 40960 < C - e := by omega
  simp only [offer, List.reverse_singleton, shortHalf, longHalf, notShort, notLong, if_false, List.singleton_append]

/-- A crossing in the span of a half-cycle joins the run when it is near the one before, and else begins it again (R46). -/
theorem offer_next {first : List Nat} {d e : Nat} (late : e + 23296 ≤ C) (early : C ≤ e + 40960) :
    offer (first ++ [d] ++ [e]) C =
      if (((C - e : Nat) : Int) - (e - d : Nat)).natAbs * 8 ≤ e - d then first ++ [d] ++ [e] ++ [C] else [e, C] := by
  have last : (first ++ [d] ++ [e]).reverse = e :: d :: first.reverse := by simp
  have notShort : ¬ C - e < 23296 := by omega
  have notLong : ¬ 40960 < C - e := by omega
  simp only [offer, last, shortHalf, longHalf, notShort, notLong, if_false]

end

/-- A crossing lies in the span of its set (R38). -/
theorem crossing_le {s : State} {c : CondSet} {C : Nat} (crossing : referenceCrossing s c = some C) : C ≤ c.k * 256 := by
  obtain ⟨r, -, at'⟩ := Option.bind_eq_some_iff.mp crossing
  unfold phaseCrossing crossingAt at at'
  split at at'
  · cases at'
  · next p _ =>
    split at at'
    · next crossed =>
      obtain ⟨-, cross⟩ := Bool.and_eq_true_iff.mp crossed
      obtain ⟨-, most, -⟩ := crossingFraction_spec ((crosses_iff _ _).mp cross)
      rw [← Option.some.inj at']
      omega
    · cases at'

/-! ## Boundaries at due positions (R36, R39, R40) -/

section
variable (s : State) (c : CondSet)

/-- Soon after the last boundary acquisition places none: it runs on, or locks without placing (R46). -/
theorem acquisition_soon {a : Boundary} (last : s.ct.last = some a) (soon : c.k * 256 < a.position + 23296) :
    (acquisition c s).2.ct.last = some a := by
  by_cases idle : s.ct.state ≠ .acquire ∨ referenceCrossing s c = none
  · rw [acquisition_idle s c idle]
    exact last
  · push Not at idle
    obtain ⟨state, crossed⟩ := idle
    obtain ⟨C, crossing⟩ := Option.ne_none_iff_exists'.mp crossed
    have bound := crossing_le crossing
    by_cases full : (offer s.ct.run C).length = 4
    · obtain ⟨-, ct, -⟩ := lock_waits s c (b := a) (C := C) last (by omega) (by omega)
      rw [acquisition_locks s c state crossing full, ct]
      exact last
    · rw [acquisition_runs s c state crossing full]
      exact last

/-- A boundary at its due position, out of LOCKED, is the last one after the set (R39, R40). -/
theorem last_trackTake_due {b : Boundary} (last : s.ct.last = some b) (unlocked : s.ct.state ≠ .locked)
    (reached : b.position + dueHalf s ≤ c.k * 256) (soon : c.k * 256 < b.position + dueHalf s + 256) :
    (trackTake c s).ct.last = some (b.next (b.position + dueHalf s) .synthetic) := by
  have puts := placement_reached s c last unlocked reached
  have acquired := acquisition_soon (placement c s).2 c (a := b.next (b.position + dueHalf s) .synthetic)
    (by rw [puts.ct]) (by show c.k * 256 < b.position + dueHalf s + 23296; omega)
  obtain ⟨y, decides, taken⟩ := trackTake_decides s c
  rw [taken, (CT.taking_keeps c _ y).1, decides.keeps.1, acquired]

/-- The first set taken places boundary 0 (R36). -/
theorem last_trackTake_first (last : s.ct.last = none) (state : s.ct.state = .freerun) :
    (trackTake c s).ct.last = some ⟨0, c.k * 256, .synthetic⟩ := by
  have puts := placement_first s c last
  have idle := acquisition_idle (placement c s).2 c (.inl (by rw [puts.ct]; simp [state]))
  obtain ⟨y, decides, taken⟩ := trackTake_decides s c
  rw [taken, (CT.taking_keeps c _ y).1, decides.keeps.1, idle, puts.ct]

/-- In FREERUN and HOLDOVER the boundary at a due position is decided upon (R35). -/
theorem trackTake_due {b : Boundary} (last : s.ct.last = some b) (state : s.ct.state = .freerun ∨ s.ct.state = .holdover)
    (reached : b.position + dueHalf s ≤ c.k * 256) :
    (trackTake c s).ct = CT.taking c s.sl.settings.holdoverLimit (decideReference (slidingValues s)
      (s.setCt { s.ct with last := some (b.next (b.position + dueHalf s) .synthetic) })).ct := by
  have unlocked : s.ct.state ≠ .locked := fun locked => by simp [locked] at state
  have puts := placement_reached s c last unlocked reached
  refine ct_trackTake_puts s c puts (acquisition_idle _ c (.inl ?_))
  rw [puts.ct]
  rcases state with state | state <;> simp [state]

/-! ## Crossings in LOCKED (R41, R42) -/

theorem trackTake_ignores {b : Boundary} (last : s.ct.last = some b) (state : s.ct.state = .locked) {C : Nat}
    (crossing : referenceCrossing s c = some C) (short : C < b.position + 23296)
    (below : c.k * 256 < lossLimit s.ct.held b) :
    (trackTake c s).ct = CT.taking c s.sl.settings.holdoverLimit s.ct := by
  have waits : placement c s = (none, s) := by
    rw [placement_locked s c last state]
    refine placeLocked_waits s b (fun D found => ?_) below
    rw [crossing] at found
    rw [← Option.some.inj found]
    exact .inl short
  have idle := acquisition_idle s c (.inl (by simp [state]))
  have unplaced : placedBy c s = none := by simp only [placedBy, waits, idle, Option.orElse_none]
  rw [ct_trackTake_unplaced s c unplaced, waits, idle]

theorem trackTake_accepts {b : Boundary} (last : s.ct.last = some b) (state : s.ct.state = .locked) {C : Nat}
    (crossing : referenceCrossing s c = some C) (late : b.position + 23296 ≤ C) (early : C ≤ lossLimit s.ct.held b) :
    (trackTake c s).ct = CT.taking c s.sl.settings.holdoverLimit (decideReference (slidingValues s)
      (s.setCt { s.ct.accept b C with last := some (b.next C .crossing) })).ct := by
  have puts := placeLocked_accepts s last c.k late early
  rw [← crossing, ← placement_locked s c last state] at puts
  refine ct_trackTake_puts s c puts (acquisition_idle _ c (.inl ?_))
  rw [puts.ct]
  simp [CT.accept, state]

/-! ## The run of the candidate (R46) -/

variable {b : Boundary} (last : s.ct.last = some b) (state : s.ct.state = .acquire)
  (below : c.k * 256 < b.position + dueHalf s) {C : Nat} (crossing : referenceCrossing s c = some C)
include last state below crossing

theorem acquire_waits : placement c s = (none, s) := placement_waits s c last (by simp [state]) below

theorem trackTake_runs (short : (offer s.ct.run C).length ≠ 4) :
    (trackTake c s).ct = CT.taking c s.sl.settings.holdoverLimit { s.ct with run := offer s.ct.run C } := by
  have waits := acquire_waits s c last state below crossing
  have runs := acquisition_runs s c state crossing short
  have unplaced : placedBy c s = none := by simp only [placedBy, waits, runs, Option.orElse_none]
  rw [ct_trackTake_unplaced s c unplaced, waits, runs]
  rfl

theorem trackTake_locks (full : (offer s.ct.run C).length = 4) (short : C < b.position + 23296)
    (reach : c.k * 256 < b.position + 40960) :
    (trackTake c s).ct = CT.taking c s.sl.settings.holdoverLimit s.ct.lockOn ∧
      changeMark (trackTake c s) = (changeMark s || s.ct.changes) := by
  have waits := acquire_waits s c last state below crossing
  have locks := acquisition_locks s c state crossing full
  obtain ⟨none, ct, mark, -⟩ := lock_waits s c last short reach
  have unplaced : placedBy c s = .none := by simp only [placedBy, waits, locks, none, Option.orElse_none]
  rw [ct_trackTake_unplaced s c unplaced, changeMark_trackTake, waits, locks]
  exact ⟨congrArg _ ct, mark⟩

theorem trackTake_locks_placing (full : (offer s.ct.run C).length = 4) (late : b.position + 23296 ≤ C)
    (early : C ≤ b.position + 40960) :
    (trackTake c s).ct = CT.taking c s.sl.settings.holdoverLimit (decideReference (slidingValues s)
        (s.setCt { s.ct.lockOn.accept b C with last := some (b.next C .crossing) })).ct ∧
      changeMark (trackTake c s) = (changeMark s || s.ct.changes) := by
  have waits := acquire_waits s c last state below crossing
  have locks := acquisition_locks s c state crossing full
  obtain ⟨placed, ct, judges, mark⟩ := lock_places s c last late early
  have placedHere : placedBy c s = some (b.next C .crossing, slidingValues s) := by
    simp only [placedBy, waits, locks, placed, Option.orElse_some]
  refine ⟨ct_trackTake_placed s c placedHere ?_ ?_, ?_⟩
  · rw [waits, locks]
    exact ct
  · rw [waits, locks]
    exact judges
  · rw [changeMark_trackTake, waits, locks]
    exact mark

end

/-! ## What a decision in LOCKED leaves -/

section
variable {t x : CT}

theorem Decides.aligned (h : Decides t x) (aligned : t.align = 0) : x.align = 0 := by
  rcases h with rfl | ⟨-, p, rfl⟩ | ⟨-, rfl⟩ | ⟨-, rfl | ⟨p, rfl⟩ | ⟨p, n, rfl⟩⟩
  · exact aligned
  · exact aligned
  · unfold CT.dropCandidate
    split <;> exact aligned
  · exact t.leaveLocked_keeps.2.2.2.2.1
  · exact aligned
  · exact aligned

theorem Decides.runless (h : Decides t x) (empty : t.run = []) : x.run = [] := by
  rcases h with rfl | ⟨-, p, rfl⟩ | ⟨-, rfl⟩ | ⟨-, rfl | ⟨p, rfl⟩ | ⟨p, n, rfl⟩⟩
  · exact empty
  · rfl
  · unfold CT.dropCandidate
    split <;> rfl
  · exact t.leaveLocked_keeps.2.2.1.trans empty
  · rfl
  · exact empty

/-- A set at which a decision in LOCKED is taken keeps the held half-period: a timer started there is far from its limit. -/
theorem Decides.holds (h : Decides t x) (state : t.state = .locked) (c : CondSet) {limit : Nat} (positive : 1 ≤ limit) :
    (x.taking c limit).held = t.held := by
  have locked : ∀ y : CT, y.state = .locked → (y.taking c limit).held = y.held := fun y state => by
    unfold CT.taking CT.advance CT.expire
    repeat' split
    all_goals simp_all
  have started : ∀ y : CT, y.timer = some 0 → (y.taking c limit).held = y.held := fun y timer => by
    have runs := CT.advance_runs { y with previous := PerPhase.of fun p => some (c.values.get p.voltage) } (limit := limit)
      timer (by omega)
    rw [CT.taking, runs]
  rcases h with rfl | ⟨other, -⟩ | ⟨acquire, -⟩ | ⟨-, rfl | ⟨p, rfl⟩ | ⟨p, n, rfl⟩⟩
  · exact locked _ state
  · exact absurd state other
  · simp [state] at acquire
  · cases held : t.held with
    | some h =>
      rw [t.leaveLocked_held.1 h held]
      exact (started _ rfl).trans held
    | none =>
      rw [t.leaveLocked_held.2 held, CT.taking_stopped _ _ _ rfl]
      exact held
  · exact started _ rfl
  · exact locked _ state

end

end Sys2Proof.Machine
end

section
/-! The boundaries of the tracker at a strobe issue, settled. -/

namespace Sys2Proof.Machine

section
variable {s : State} (fourth : 4 ≤ nextStrobe s)

/-- The conditioned set that the next strobe issue hands on. -/
def issuedSet (s : State) : CondSet :=
  condition s.cc.table (nextStrobe s - 4) (closingFrames (nextStrobe s) s)

include fourth

/-- What the taking of the set issued gives on every state tracked, the issue gives. -/
theorem ct_issue {y : CT} (taken : ∀ u, Tracks s u → (trackTake (issuedSet s) u).ct = y) : (strobeIssue s).ct = y := by
  obtain ⟨u, tracks, ct, -⟩ := strobeIssue_tracks s (setOf_issue s fourth)
  exact ct.trans (taken u tracks)

theorem issue_of {P : CT → Bool → Prop}
    (taken : ∀ u, Tracks s u → P (trackTake (issuedSet s) u).ct (changeMark (trackTake (issuedSet s) u))) :
    P (strobeIssue s).ct (changeMark (strobeIssue s)) := by
  obtain ⟨u, tracks, ct, mark⟩ := strobeIssue_tracks s (setOf_issue s fourth)
  rw [ct, mark]
  exact taken u tracks

end

/-- The tracker decided upon at a boundary placed in the set issued, on the state before the issue. -/
def decidedAt (s : State) (x : CT) : CT :=
  CT.taking (issuedSet s) s.sl.settings.holdoverLimit (decideReference (slidingValues s) (s.setCt x)).ct

section
variable {s u : State}

theorem Tracks.taking (h : Tracks s u) (x : CT) :
    CT.taking (issuedSet s) u.sl.settings.holdoverLimit x = CT.taking (issuedSet s) s.sl.settings.holdoverLimit x := by
  rw [h.setting (·.holdoverLimit) fun _ => rfl]

theorem Tracks.decidedAt (h : Tracks s u) (below : s.mm.count < 127) (x : CT) :
    CT.taking (issuedSet s) u.sl.settings.holdoverLimit (decideReference (slidingValues u) (u.setCt x)).ct =
      decidedAt s x := by
  rw [h.taking, h.decided below]
  rfl

/-- What a decision in LOCKED at a boundary placed leaves at the end of the taking, whatever the modules are. -/
theorem decided_leaves (values : PerChannel (Option Nat)) (v : State) (c : CondSet) {x : CT} (state : x.state = .locked)
    (aligned : x.align = 0) {limit : Nat} :
    let t := CT.taking c limit (decideReference values (v.setCt x)).ct
    t.last = x.last ∧ t.align = 0 ∧ t.lastLocked = x.lastLocked ∧ (1 ≤ limit → t.held = x.held) ∧
      (x.run = [] → t.run = []) := by
  intro t
  have decides : Decides x (decideReference values (v.setCt x)).ct := decides_decideReference (v.setCt x) values
  obtain ⟨last, align, run, lastLocked, -⟩ := CT.taking_keeps c limit (decideReference values (v.setCt x)).ct
  obtain ⟨kept, -, same⟩ := decides.keeps
  exact ⟨last.trans kept, align.trans (decides.aligned aligned), lastLocked.trans same,
    fun positive => decides.holds state c positive, fun empty => run.trans (decides.runless empty)⟩

end

/-! ## The clauses -/

section
variable {s : State} {b : Boundary} (last : s.ct.last = some b) (fourth : 4 ≤ nextStrobe s)
include last fourth

theorem issue_due (state : s.ct.state = .freerun ∨ s.ct.state = .holdover) (count : s.mm.count < 127)
    (reached : b.position + dueHalf s ≤ (nextStrobe s - 4) * 256) :
    (strobeIssue s).ct = decidedAt s { s.ct with last := some (b.next (b.position + dueHalf s) .synthetic) } := by
  refine ct_issue fourth fun u tracks => ?_
  rw [trackTake_due u (issuedSet s) (b := b) (by rw [tracks.ct]; exact last) (by rw [tracks.ct]; exact state)
    (by rw [tracks.due]; exact reached), tracks.decidedAt count, tracks.ct, tracks.due]

theorem last_issue_due (unlocked : s.ct.state ≠ .locked) (reached : b.position + dueHalf s ≤ (nextStrobe s - 4) * 256)
    (soon : (nextStrobe s - 4) * 256 < b.position + dueHalf s + 256) :
    (strobeIssue s).ct.last = some (b.next (b.position + dueHalf s) .synthetic) := by
  refine issue_of fourth (P := fun t _ => t.last = _) fun u tracks => ?_
  rw [last_trackTake_due u (issuedSet s) (b := b) (by rw [tracks.ct]; exact last) (by rw [tracks.ct]; exact unlocked)
    (by rw [tracks.due]; exact reached) (by rw [tracks.due]; exact soon), tracks.due]

variable {C : Nat} (crossing : referenceCrossing s (issuedSet s) = some C)
include crossing

theorem issue_ignores (state : s.ct.state = .locked) (short : C < b.position + 23296)
    (below : (nextStrobe s - 4) * 256 < lossLimit s.ct.held b) :
    (strobeIssue s).ct = CT.taking (issuedSet s) s.sl.settings.holdoverLimit s.ct := by
  refine ct_issue fourth fun u tracks => ?_
  rw [trackTake_ignores u (issuedSet s) (b := b) (by rw [tracks.ct]; exact last) (by rw [tracks.ct]; exact state)
    (by rw [tracks.crossing]; exact crossing) short (by rw [tracks.ct]; exact below), tracks.taking, tracks.ct]

theorem issue_accepts (state : s.ct.state = .locked) (late : b.position + 23296 ≤ C) (early : C ≤ lossLimit s.ct.held b) :
    let x := { s.ct.accept b C with last := some (b.next C .crossing) }
    (strobeIssue s).ct.last = some (b.next C .crossing) ∧ (strobeIssue s).ct.align = 0 ∧
      (1 ≤ s.sl.settings.holdoverLimit → (strobeIssue s).ct.held = x.held) ∧
      (s.mm.count < 127 → (strobeIssue s).ct = decidedAt s x) := by
  intro x
  refine issue_of fourth (P := fun t _ => t.last = some (b.next C .crossing) ∧ t.align = 0 ∧
    (1 ≤ s.sl.settings.holdoverLimit → t.held = x.held) ∧ (s.mm.count < 127 → t = decidedAt s x)) fun u tracks => ?_
  have taken := trackTake_accepts u (issuedSet s) (b := b) (by rw [tracks.ct]; exact last) (by rw [tracks.ct]; exact state)
    (by rw [tracks.crossing]; exact crossing) late (by rw [tracks.ct]; exact early)
  rw [tracks.ct] at taken
  obtain ⟨kept, align, -, held, -⟩ := decided_leaves (slidingValues u) u (issuedSet s) (x := x) state rfl
    (limit := u.sl.settings.holdoverLimit)
  rw [taken]
  exact ⟨kept, align, fun positive => held (by rw [tracks.setting (·.holdoverLimit) fun _ => rfl]; exact positive),
    fun count => tracks.decidedAt count x⟩

variable (state : s.ct.state = .acquire) (below : (nextStrobe s - 4) * 256 < b.position + dueHalf s)
include state below

theorem issue_runs {run : List Nat} (offered : offer s.ct.run C = run) (short : run.length ≠ 4) :
    (strobeIssue s).ct = CT.taking (issuedSet s) s.sl.settings.holdoverLimit { s.ct with run := run } := by
  refine ct_issue fourth fun u tracks => ?_
  rw [trackTake_runs u (issuedSet s) (b := b) (by rw [tracks.ct]; exact last) (by rw [tracks.ct]; exact state)
    (by rw [tracks.due]; exact below) (by rw [tracks.crossing]; exact crossing) (by rw [tracks.ct, offered]; exact short),
    tracks.taking, tracks.ct, offered]

theorem issue_locks (full : (offer s.ct.run C).length = 4) (short : C < b.position + 23296)
    (reach : (nextStrobe s - 4) * 256 < b.position + 40960) :
    (strobeIssue s).ct = CT.taking (issuedSet s) s.sl.settings.holdoverLimit s.ct.lockOn ∧
      changeMark (strobeIssue s) = (changeMark s || s.ct.changes) := by
  refine issue_of fourth (P := fun t mark => t = _ ∧ mark = _) fun u tracks => ?_
  obtain ⟨ct, mark⟩ := trackTake_locks u (issuedSet s) (b := b) (by rw [tracks.ct]; exact last)
    (by rw [tracks.ct]; exact state) (by rw [tracks.due]; exact below) (by rw [tracks.crossing]; exact crossing)
    (by rw [tracks.ct]; exact full) short reach
  rw [ct, mark, tracks.taking, tracks.ct, tracks.mark]
  exact ⟨rfl, rfl⟩

theorem issue_locks_placing (full : (offer s.ct.run C).length = 4) (late : b.position + 23296 ≤ C)
    (early : C ≤ b.position + 40960) :
    let x := { s.ct.lockOn.accept b C with last := some (b.next C .crossing) }
    (strobeIssue s).ct.last = some (b.next C .crossing) ∧ (strobeIssue s).ct.align = 0 ∧ (strobeIssue s).ct.run = [] ∧
      (strobeIssue s).ct.lastLocked = s.ct.reference ∧ changeMark (strobeIssue s) = (changeMark s || s.ct.changes) ∧
      (s.mm.count < 127 → (strobeIssue s).ct = decidedAt s x) := by
  intro x
  refine issue_of fourth (P := fun t mark => t.last = some (b.next C .crossing) ∧ t.align = 0 ∧ t.run = [] ∧
    t.lastLocked = s.ct.reference ∧ mark = (changeMark s || s.ct.changes) ∧ (s.mm.count < 127 → t = decidedAt s x))
    fun u tracks => ?_
  obtain ⟨taken, mark⟩ := trackTake_locks_placing u (issuedSet s) (b := b) (by rw [tracks.ct]; exact last)
    (by rw [tracks.ct]; exact state) (by rw [tracks.due]; exact below) (by rw [tracks.crossing]; exact crossing)
    (by rw [tracks.ct]; exact full) late early
  rw [tracks.ct] at taken mark
  obtain ⟨kept, align, lastLocked, -, run⟩ := decided_leaves (slidingValues u) u (issuedSet s) (x := x) rfl rfl
    (limit := u.sl.settings.holdoverLimit)
  rw [taken, mark, tracks.mark]
  exact ⟨kept, align, run rfl, lastLocked, rfl, fun count => tracks.decidedAt count x⟩

end

/-- Settles O15: the due boundaries, the crossings in LOCKED, and the run of the candidate up to its lock. -/
theorem dueBoundariesPlaced : Obligations.DueBoundariesPlaced := by
  unfold Obligations.DueBoundariesPlaced
  refine ⟨fun s b state last fourth => ?_, fun s b state last fourth => ?_, fun s state last first => ?_,
    fun s b last fourth => ?_⟩
  · intro due reached soon
    have half : dueHalf s = if s.sl.settings.nominalFreq = 60 then 27307 else 32768 := if_pos state
    have met : freerunDue s = true := by
      simp only [freerunDue, state, last, reaches_issue s fourth, decide_eq_true_eq]
      exact reached
    have placed := last_issue_due last fourth (by simp [state]) (by rw [half]; exact reached) (by rw [half]; exact soon)
    rw [half] at placed
    refine ⟨_, exec_freerunBoundary s, ?_⟩
    rw [issueWhen_due s met]
    exact placed
  · intro due reached soon
    have half : dueHalf s = s.ct.held.getD (if s.sl.settings.nominalFreq = 60 then 27307 else 32768) :=
      if_neg (by rcases state with state | state <;> simp [state])
    have met : heldDue s = true := by
      rw [heldDue_eq s last fourth state, half, decide_eq_true_eq]
      exact reached
    have placed := last_issue_due last fourth (by rcases state with state | state <;> simp [state])
      (by rw [half]; exact reached) (by rw [half]; exact soon)
    rw [half] at placed
    refine ⟨_, exec_heldHalfPeriodBoundary s, ?_⟩
    rw [issueWhen_due s met]
    exact placed
  · have fourth : 4 ≤ nextStrobe s := first.ge
    have position : (issuedSet s).k = 0 := by
      show nextStrobe s - 4 = 0
      omega
    refine ⟨_, exec_strobeIssue s, ?_⟩
    refine issue_of fourth (P := fun t _ => t.last = _) fun u tracks => ?_
    rw [last_trackTake_first u (issuedSet s) (by rw [tracks.ct]; exact last) (by rw [tracks.ct]; exact state), position]
  · intro k c nominal half taken placed decided heldAfter
    refine ⟨fun state count => ?_, fun r C reference crossing => ⟨fun state => ?_, fun state below few => ?_⟩⟩
    · intro due reached
      have dueEq : dueHalf s = if s.ct.state = .freerun then nominal else half := rfl
      refine ⟨_, exec_strobeIssue s, ?_⟩
      exact issue_due last fourth state count reached
    · intro limit
      have found : referenceCrossing s (issuedSet s) = some C := Option.bind_eq_some_iff.mpr ⟨r, reference, crossing⟩
      have limitEq : limit = lossLimit s.ct.held b := rfl
      refine ⟨fun short reach => ⟨_, exec_strobeIssue s, issue_ignores last fourth found state short (limitEq ▸ reach)⟩,
        fun late early => ⟨_, exec_strobeIssue s, ?_⟩⟩
      exact issue_accepts last fourth found state late (limitEq ▸ early)
    · have found : referenceCrossing s (issuedSet s) = some C := Option.bind_eq_some_iff.mpr ⟨r, reference, crossing⟩
      have undue : (nextStrobe s - 4) * 256 < b.position + dueHalf s := by
        rw [dueHalf, if_neg (by simp [state])]
        exact below
      intro runs
      have goes : ∀ {run : List Nat}, offer s.ct.run C = run → run.length < 4 → runs run := fun offered short =>
        ⟨_, exec_strobeIssue s, issue_runs last fourth found state undue offered (by omega)⟩
      refine ⟨fun empty => goes (by rw [empty]; rfl) (by simp), fun before e split => ?_⟩
      rw [split] at few
      refine ⟨fun early => ?_, fun late => ?_, fun late early => ⟨fun none => ?_, fun first d split' => ?_⟩⟩
      · exact goes (by rw [split]; exact offer_early C early) (by rw [split]; exact few)
      · exact goes (by rw [split]; exact offer_late C late) (by simp)
      · exact goes (by rw [split, none]; exact offer_second C late early) (by simp)
      · intro g near
        have offered : offer s.ct.run C = if near then first ++ [d] ++ [e] ++ [C] else [e, C] := by
          rw [split, split']
          exact offer_next C late early
        refine ⟨fun far => goes (by rw [offered, if_neg far]) (by simp), fun close none => ?_, fun close more => ?_⟩
        · exact goes (by rw [offered, if_pos close, none]; rfl) (by simp)
        · have full : (offer s.ct.run C).length = 4 := by
            rw [offered, if_pos close]
            have one := List.length_pos_iff.mpr more
            simp only [split', List.length_append, List.length_singleton] at few ⊢
            omega
          intro locked another
          have locks : s.ct.lockOn = locked := by simp only [CT.lockOn, reference, locked]
          have changes : s.ct.changes = another := by simp only [CT.changes, reference, another]
          refine ⟨fun short reach => ?_, fun late' early' => ?_⟩
          · obtain ⟨ct, mark⟩ := issue_locks last fourth found state undue full short reach
            rw [locks] at ct
            rw [changes] at mark
            exact ⟨_, exec_strobeIssue s, ct, mark⟩
          · obtain ⟨kept, align, run, lastLocked, mark, placed⟩ :=
              issue_locks_placing last fourth found state undue full late' early'
            rw [changes] at mark
            rw [locks] at placed
            rw [reference] at lastLocked
            exact ⟨_, exec_strobeIssue s, kept, align, run, lastLocked, mark, placed⟩

end Sys2Proof.Machine
end

section
/-! The ends of the writer's header reads (R148, R149) and of map entry reads (R141 to R143). -/

namespace Sys2Proof.Machine

/-! ## The header reads of the writer (R148, R149) -/

/-- With the port free, a tail that moves reaches the current readback alone (R167). -/
theorem restartLocating_idle {s : State} (idle : s.sr.flight = none) :
    ∃ current, restartLocating s = s.setSr { s.sr with current := current } := by
  unfold restartLocating
  split
  · exact ⟨s.sr.current, rfl⟩
  · split
    · exact ⟨s.sr.current, rfl⟩
    · exact ⟨s.sr.current, rfl⟩
    · next r _ _ _ _ =>
      refine ⟨some { r with phase := .settle }, ?_⟩
      unfold orphanRead
      split
      · next f flight => exact absurd ((show s.sr.flight = some f from flight).symm.trans idle) nofun
      · rfl

/-- With the port free, the OVERWRITE case moves the tail and the current readback (R148). -/
theorem overwriteTail_idle {s : State} (idle : s.sr.flight = none) {h : PagePos} (head : s.sw.head = some h) :
    ∃ current, overwriteTail s = (s.setSw { s.sw with
      tail := some (nextSector s h.sector), tasks := [.seekTail, .readTail, .erase] }).setSr
        { s.sr with current := current } := by
  obtain ⟨current, moved⟩ := restartLocating_idle (s := (s.setSw { s.sw with tasks := [.seekTail, .readTail, .erase] }).setSw
    { s.sw with tail := some (nextSector s h.sector), tasks := [.seekTail, .readTail, .erase] }) idle
  refine ⟨current, Eq.trans ?_ moved⟩
  unfold overwriteTail
  split
  · next none => exact absurd (none.symm.trans head) (Option.some_ne_none _).symm
  · next k here =>
    obtain rfl := Option.some.inj (here.symm.trans head)
    rfl

/-- The end of a header read touches the writer and the current readback, the port being free. -/
def HeaderEnds (s e : State) (w : SW) : Prop := ∃ current, e = (s.setSw w).setSr { s.sr with current := current }

theorem HeaderEnds.leaves {s e : State} {w : SW} (h : HeaderEnds s e w) :
    e.sr.flight = s.sr.flight ∧ e.rq = s.rq ∧ e.sl = s.sl ∧ e.sw = w := by
  obtain ⟨current, rfl⟩ := h
  exact ⟨rfl, rfl, rfl, rfl⟩

section
variable {s : State} (idle : s.sr.flight = none)
include idle

/-- Page 0 of the tail read: its seq_ref is the tail sequence, when it is valid (R148). -/
theorem tailHeaderRead_ends {rest : List WriterTask} (tasks : s.sw.tasks = .readTail :: rest) (read : Option PageHeader) :
    HeaderEnds s (tailHeaderRead read s)
      { s.sw with tasks := rest, tailSeq := (read.map PageHeader.seqRef).getD s.sw.tailSeq } := by
  have drop : s.sw.tasks.drop 1 = rest := by rw [tasks]; rfl
  unfold tailHeaderRead
  simp only [drop]
  cases read with
  | none => exact ⟨s.sr.current, rfl⟩
  | some x =>
    obtain ⟨current, moved⟩ := restartLocating_idle (s := s.setSw { s.sw with tasks := rest, tailSeq := x.seqRef }) idle
    exact ⟨current, moved⟩

theorem judgeLast_moves {h : PagePos} (head : s.sw.head = some h) {last : Nat} (low : last ≤ s.sw.watermark) :
    HeaderEnds s (judgeLast last s)
      { s.sw with tail := some (nextSector s h.sector), tasks := [.seekTail, .readTail, .erase] } := by
  obtain ⟨current, moved⟩ := overwriteTail_idle idle head
  rw [judgeLast, if_pos low, moved]
  exact ⟨current, rfl⟩

omit idle in
theorem judgeLast_stops {last : Nat} (high : s.sw.watermark < last) :
    HeaderEnds s (judgeLast last s) { s.sw with stopMark := some last, tasks := [] } := by
  rw [judgeLast, if_neg (Nat.not_le.mpr high)]
  exact ⟨s.sr.current, rfl⟩

/-- A header read of the writer ends without a trace but in the writer and the current readback. -/
theorem writerHeaderRead_ends {h : PagePos} (head : s.sw.head = some h) (bytes : List Byte) :
    ∃ w, HeaderEnds s (writerHeaderRead bytes s) w := by
  unfold writerHeaderRead
  dsimp only
  split
  · next tasks => exact ⟨_, tailHeaderRead_ends idle tasks _⟩
  · rcases Nat.lt_or_ge s.sw.watermark (((readHeader bytes).map PageHeader.lastSequence).getD 4294967295) with high | low
    · exact ⟨_, judgeLast_stops high⟩
    · exact ⟨_, judgeLast_moves idle head low⟩
  · exact ⟨_, s.sr.current, rfl⟩

end

theorem endHeaderRead_writer {s : State} {a b n : Nat}
    (flight : s.sr.flight = some ⟨.readHeader a b, some .writer, n, false⟩) (header : BitVec 128) :
    endHeaderRead header s = writerHeaderRead (bytesOf 16 header) (landed s) := by
  simp only [endHeaderRead, flight, awaited, Bool.false_eq_true, if_false]
  rfl

theorem exec_headerReadDone (header : BitVec 128) (s : State) :
    exec (.headerReadDone header) s = .next (settle (endHeaderRead header s)) := rfl

/-! ## Map entries (R142) -/

section
variable (lo hi mark check : Byte)

/-- The table of R142 on the four bytes of an entry. -/
theorem judgeEntry_bytes (sectors : Nat) :
    let physical := lo.toNat + 256 * hi.toNat
    let checked := check = 0x5A ^^^ lo ^^^ hi ∧ 0 < physical ∧ physical < sectors
    judgeEntry sectors (check ++ mark ++ hi ++ lo) =
      (decide (checked ∧ mark = 0xFF), physical, decide (¬ checked ∨ (mark ≠ 0 ∧ mark ≠ 0xFF))) := by
  intro physical checked
  have loIs : (check ++ mark ++ hi ++ lo).extractLsb' 0 8 = lo := BitVec.extractLsb'_append_eq_right
  have hiIs : (check ++ mark ++ hi ++ lo).extractLsb' 8 8 = hi :=
    (BitVec.extractLsb'_append_eq_of_le (by decide)).trans BitVec.extractLsb'_append_eq_right
  have markIs : (check ++ mark ++ hi ++ lo).extractLsb' 16 8 = mark :=
    (BitVec.extractLsb'_append_eq_of_le (by decide)).trans
      ((BitVec.extractLsb'_append_eq_of_le (by decide)).trans BitVec.extractLsb'_append_eq_right)
  have checkIs : (check ++ mark ++ hi ++ lo).extractLsb' 24 8 = check :=
    (BitVec.extractLsb'_append_eq_of_le (by decide)).trans
      ((BitVec.extractLsb'_append_eq_of_le (by decide)).trans BitVec.extractLsb'_append_eq_left)
  unfold judgeEntry mapCheck
  simp only [loIs, hiIs, markIs, checkIs]
  have inside : checked ↔ ¬ check ≠ 0x5A ^^^ lo ^^^ hi ∧ ¬ (physical = 0 ∨ sectors ≤ physical) := by
    rw [not_not]
    exact and_congr_right fun _ => by omega
  split
  · next wrong =>
    have bad : ¬ checked := fun ok => (inside.mp ok).1 wrong
    simp only [bad, false_and, not_false_eq_true, true_or, decide_true, decide_false, physical]
  · next sound =>
    split
    · next outside =>
      have bad : ¬ checked := fun ok => (inside.mp ok).2 outside
      simp only [bad, false_and, not_false_eq_true, true_or, decide_true, decide_false, physical]
    · next ranged =>
      have ok : checked := inside.mpr ⟨sound, ranged⟩
      simp only [ok, true_and, not_true_eq_false, false_or]
      repeat' split
      · next retired => simp [retired, physical]
      · next free => simp [free, physical]
      · next written free =>
        exact Prod.ext (decide_eq_false free).symm (Prod.ext rfl (decide_eq_true ⟨written, free⟩).symm)

end

/-! ## The cache (R143) -/

section
variable (t : Translation) (cache : List Translation)

theorem mem_cachePlace : t ∈ cachePlace t cache := by
  unfold cachePlace
  split
  · next found =>
    obtain ⟨x, member, same⟩ := List.any_eq_true.mp found
    exact List.mem_map.mpr ⟨x, member, if_pos (by simpa using same)⟩
  · simp

theorem cachePlace_absent (absent : ∀ x ∈ cache, x.logical ≠ t.logical) :
    cachePlace t cache = (if 8 ≤ cache.length then cache.drop 1 else cache) ++ [t] := by
  have none : (cache.any fun x => x.logical == t.logical) = false := by
    simpa using absent
  simp [cachePlace, none]

theorem length_cachePlace_present (present : ∃ x ∈ cache, x.logical = t.logical) :
    (cachePlace t cache).length = cache.length := by
  obtain ⟨x, member, same⟩ := present
  have found : (cache.any fun x => x.logical == t.logical) = true := List.any_eq_true.mpr ⟨x, member, by simpa using same⟩
  simp [cachePlace, found]

end

/-! ## A map entry read ends (R142, R143) -/

section
variable (s : State) (logical : Nat) (entry : BitVec 32)

/-- What the judgement of an entry makes of the link's flags (R142). -/
def notedLink : SL :=
  if (judgeEntry s.sw.sectors entry).2.2 then { s.sl with latched := s.sl.latched ||| 0x40000 } else s.sl

theorem noteEntry_eq : noteEntry entry s = s.setSl (notedLink s entry) := by
  unfold noteEntry notedLink
  split <;> rfl

/-- What the translation of an entry makes of the cache (R143). -/
def placedCache : List Translation :=
  if s.sw.mode = .mapped ∧ s.sl.settings.mapCache = true then cachePlace (entryTranslation s logical entry) s.cache
  else s.cache

/-- An entry read is judged and placed, and nothing else changes. -/
theorem mapEntryRead_eq :
    mapEntryRead logical entry s = (s.setSl (notedLink s entry)).setCache (placedCache s logical entry) := by
  have settings : (notedLink s entry).settings = s.sl.settings := by
    unfold notedLink
    split <;> rfl
  unfold mapEntryRead placeEntry placedCache
  rw [noteEntry_eq]
  simp only [State.setSl_sw, State.setSl_sl, settings]
  split <;> rfl

end

end Sys2Proof.Machine
end

section
/-! The ends of the writer's header reads and of map entry reads, settled. -/

namespace Sys2Proof.Machine

section
variable {s : State} {l n : Nat} {who : Option Requester} {stale : Bool} {lo hi mark check : Byte}

/-- The four bytes of a map entry as one word, as the flash delivers it (R142). -/
def entryWord (lo hi mark check : Byte) : BitVec 32 := check ++ mark ++ hi ++ lo

/-- The translation that the bytes of an entry give (R142). -/
theorem entryTranslation_bytes (u : State) :
    entryTranslation u l (entryWord lo hi mark check) =
      { logical := l, physical := lo.toNat + 256 * hi.toNat
        usable := decide ((check = 0x5A ^^^ lo ^^^ hi ∧ 0 < lo.toNat + 256 * hi.toNat ∧
          lo.toNat + 256 * hi.toNat < u.sw.sectors) ∧ mark = 0xFF) } := by
  have judged := judgeEntry_bytes lo hi mark check u.sw.sectors
  unfold entryTranslation entryWord
  simp only [judged]

/-- MAP_DAMAGED is latched for an entry that is damaged, and for no other (R142). -/
theorem notedLink_bytes (u : State) :
    let checked := check = 0x5A ^^^ lo ^^^ hi ∧ 0 < lo.toNat + 256 * hi.toNat ∧ lo.toNat + 256 * hi.toNat < u.sw.sectors
    let damaged := ¬ checked ∨ (mark ≠ 0 ∧ mark ≠ 0xFF)
    (damaged → notedLink u (entryWord lo hi mark check) = { u.sl with latched := u.sl.latched ||| 0x40000 }) ∧
      (¬ damaged → notedLink u (entryWord lo hi mark check) = u.sl) := by
  intro checked damaged
  have judged := judgeEntry_bytes lo hi mark check u.sw.sectors
  unfold notedLink entryWord
  simp only [judged]
  exact ⟨fun bad => if_pos (decide_eq_true bad), fun good => if_neg (by rw [decide_eq_false good]; exact Bool.false_ne_true)⟩

/-- What a map entry read's end makes of the cache in MAPPED mode with the cache on, and otherwise (R143). -/
theorem placedCache_cases (u : State) (l : Nat) (entry : BitVec 32) :
    (u.sl.settings.mapCache = false ∨ u.sw.mode = .direct → placedCache u l entry = u.cache) ∧
    (u.sl.settings.mapCache = true → u.sw.mode = .mapped →
      entryTranslation u l entry ∈ placedCache u l entry ∧
      ((∀ x ∈ u.cache, x.logical ≠ l) → u.cache.length < 8 →
        placedCache u l entry = u.cache ++ [entryTranslation u l entry]) ∧
      ((∀ x ∈ u.cache, x.logical ≠ l) → 8 ≤ u.cache.length →
        placedCache u l entry = u.cache.drop 1 ++ [entryTranslation u l entry]) ∧
      ((∃ x ∈ u.cache, x.logical = l) → (placedCache u l entry).length = u.cache.length)) := by
  refine ⟨fun off => if_neg ?_, fun on mapped => ?_⟩
  · rintro ⟨mapped, on⟩
    rcases off with off | direct
    · rw [on] at off
      cases off
    · rw [mapped] at direct
      cases direct
  · have placed : placedCache u l entry = cachePlace (entryTranslation u l entry) u.cache := if_pos ⟨mapped, on⟩
    rw [placed]
    refine ⟨mem_cachePlace _ _, fun absent short => ?_, fun absent full => ?_, fun present =>
      length_cachePlace_present _ _ present⟩
    · rw [cachePlace_absent _ _ absent, if_neg (Nat.not_le.mpr short)]
    · rw [cachePlace_absent _ _ absent, if_pos full]

/-- A map entry read ends with the entry judged, the cache as given, and the writer and the reader as given. -/
def EntryEnds (s e : State) (entry : BitVec 32) (cache : List Translation) (w : SW) (x : SR) : Prop :=
  e = (((s.setSl (notedLink s entry)).setCache cache).setSw w).setSr x

/-- Whether a read was outlived by an UNMOUNT, by the state of the store (notes/assumptions/76.md). -/
theorem outlivedUnmount_iff (s : State) :
    outlivedUnmount s = true ↔ s.sr.state = .unmounted ∨ s.sr.state = .formatting ∨ s.sr.state = .mounting := by
  unfold outlivedUnmount
  cases s.sr.state <;> simp

section
variable (flight : s.sr.flight = some ⟨.readMap l, who, n, stale⟩) (entry : BitVec 32)
include flight

theorem endMapRead_stale (isStale : stale = true) :
    EntryEnds s (endMapRead entry s) entry
      (if outlivedUnmount s = true then s.cache else placedCache s l entry) s.sw { s.sr with flight := none } := by
  have ended : endMapRead entry s = strayMapRead l entry (landed s) := by
    simp only [endMapRead, flight, isStale, if_true]
    rfl
  have same : outlivedUnmount (landed s) = outlivedUnmount s := rfl
  rw [ended, strayMapRead, same]
  split
  · rw [noteEntry_eq]
    rfl
  · rw [mapEntryRead_eq]
    rfl

theorem endMapRead_writer (isFresh : stale = false) (writer : who = some .writer) :
    EntryEnds s (endMapRead entry s) entry (placedCache s l entry)
      { s.sw with translation := some (entryTranslation s l entry) } { s.sr with flight := none } := by
  have ended : endMapRead entry s = writerMapRead l entry (landed s) := by
    simp only [endMapRead, flight, isFresh, writer, Bool.false_eq_true, if_false]
    rfl
  rw [ended, writerMapRead, mapEntryRead_eq]
  rfl

theorem endMapRead_reader (isFresh : stale = false) (reader : who = some .reader) :
    EntryEnds s (endMapRead entry s) entry (placedCache s l entry) s.sw
      { s.sr with
        flight := none
        current := s.sr.current.map fun r => { r with translation := some (entryTranslation s l entry) } } := by
  have ended : endMapRead entry s = readerMapRead l entry (landed s) := by
    simp only [endMapRead, flight, isFresh, reader, Bool.false_eq_true, if_false]
    rfl
  rw [ended, readerMapRead, mapEntryRead_eq]
  rfl

/-- Whether a job counts the USABLE sectors that it meets: the walk of a mount scan does not (R141, R162). -/
def jobCounts (job : StoreJob) : Bool :=
  match job with
  | .mount j => !j.walking
  | _ => true

omit flight in
theorem jobCounts_iff (job : StoreJob) : jobCounts job = true ↔ ¬ ∃ j, job = .mount j ∧ j.walking = true := by
  cases job <;> simp [jobCounts]

theorem endMapRead_job (isFresh : stale = false) (job : who = none) :
    EntryEnds s (endMapRead entry s) entry (placedCache s l entry)
      (if (jobCounts s.sr.job && (entryTranslation s l entry).usable) = true then { s.sw with usable := s.sw.usable + 1 }
        else s.sw)
      { s.sr with flight := none, jobTranslation := some (entryTranslation s l entry) } := by
  have ended : endMapRead entry s = jobMapRead l entry (landed s) := by
    simp only [endMapRead, flight, isFresh, job, Bool.false_eq_true, if_false]
    rfl
  have counts : jobMapRead l entry (landed s) =
      (let t := entryTranslation (mapEntryRead l entry (landed s)) l entry
      let u := (mapEntryRead l entry (landed s)).setSr
        { (mapEntryRead l entry (landed s)).sr with jobTranslation := some t }
      if (jobCounts u.sr.job && t.usable) = true then u.setSw { u.sw with usable := u.sw.usable + 1 } else u) := rfl
  rw [ended, counts, mapEntryRead_eq]
  dsimp only
  split
  · next yes => rw [EntryEnds, if_pos (by exact yes)]; rfl
  · next no => rw [EntryEnds, if_neg (by exact no)]; rfl

end

end

theorem exec_mapEntryReadDone (entry : BitVec 32) (s : State) :
    exec (.mapEntryReadDone entry) s = .next (settle (endMapRead entry s)) := rfl

/-- What every end of a map entry read gives: the port free, the flags, and the rest of the link, the queue and the frame as
they were. -/
theorem EntryEnds.leaves {s e : State} {entry : BitVec 32} {cache : List Translation} {w : SW} {x : SR}
    (h : EntryEnds s e entry cache w x) :
    e.sl = notedLink s entry ∧ e.cache = cache ∧ e.sw = w ∧ e.sr = x ∧ e.rq = s.rq := by
  rw [h]
  exact ⟨rfl, rfl, rfl, rfl, rfl⟩

/-- The end of a map entry read, by who asked for it (R141 to R143). -/
theorem endMapRead_cases {s : State} {l n : Nat} {who : Option Requester} {stale : Bool}
    (flight : s.sr.flight = some ⟨.readMap l, who, n, stale⟩) (entry : BitVec 32) :
    let t := entryTranslation s l entry
    let e := endMapRead entry s
    e.sr.flight = none ∧ e.rq = s.rq ∧ e.sl = notedLink s entry ∧
      e.cache = (if stale = true ∧ outlivedUnmount s = true then s.cache else placedCache s l entry) ∧
      (stale = true → e.sw = s.sw ∧ e.sr = { s.sr with flight := none }) ∧
      (stale = false → who = some .writer → e.sw = { s.sw with translation := some t } ∧ e.sr = { s.sr with flight := none }) ∧
      (stale = false → who = some .reader → e.sw = s.sw ∧ e.sr = { s.sr with
        flight := none, current := s.sr.current.map fun r => { r with translation := some t } }) ∧
      (stale = false → who = none → e.sr = { s.sr with flight := none, jobTranslation := some t } ∧
        e.sw = if (jobCounts s.sr.job && t.usable) = true then { s.sw with usable := s.sw.usable + 1 } else s.sw) := by
  intro t e
  cases isStale : stale with
  | true =>
    obtain ⟨sl, cache, sw, sr, rq⟩ := (endMapRead_stale flight entry isStale).leaves
    refine ⟨congrArg SR.flight sr, rq, sl, ?_, fun _ => ⟨sw, sr⟩, nofun, nofun, nofun⟩
    simp only [true_and]
    exact cache
  | false =>
    have placed : ∀ {cache : List Translation} {w : SW} {x : SR}, EntryEnds s e entry cache w x →
        cache = placedCache s l entry → x.flight = none →
        e.sr.flight = none ∧ e.rq = s.rq ∧ e.sl = notedLink s entry ∧ e.cache = placedCache s l entry ∧ e.sw = w ∧ e.sr = x := by
      intro cache w x ends same idle
      obtain ⟨sl, placed, sw, sr, rq⟩ := ends.leaves
      exact ⟨by rw [sr]; exact idle, rq, sl, placed.trans same, sw, sr⟩
    simp only [Bool.false_eq_true, false_and, if_false]
    cases asks : who with
    | none =>
      obtain ⟨idle, rq, sl, cache, sw, sr⟩ := placed (endMapRead_job flight entry isStale asks) rfl rfl
      exact ⟨idle, rq, sl, cache, nofun, fun _ => nofun, fun _ => nofun, fun _ _ => ⟨sr, sw⟩⟩
    | some r =>
      cases r with
      | writer =>
        obtain ⟨idle, rq, sl, cache, sw, sr⟩ := placed (endMapRead_writer flight entry isStale asks) rfl rfl
        exact ⟨idle, rq, sl, cache, nofun, fun _ _ => ⟨sw, sr⟩, fun _ => nofun, fun _ => nofun⟩
      | reader =>
        obtain ⟨idle, rq, sl, cache, sw, sr⟩ := placed (endMapRead_reader flight entry isStale asks) rfl rfl
        exact ⟨idle, rq, sl, cache, nofun, fun _ => nofun, fun _ _ => ⟨sw, sr⟩, fun _ => nofun⟩

/-- Settles O54: a header read ends in the writer and the current readback, a map entry read with whoever asked for it. -/
theorem writerReadsEnd : Obligations.WriterReadsEnd := by
  unfold Obligations.WriterReadsEnd
  refine ⟨fun s a b n header h rest flight head => ?_, fun s l n lo hi mark check who stale flight => ?_⟩
  · intro read last
    have landedHead : (landed s).sw.head = some h := head
    have lastIs : last = (read.map PageHeader.lastSequence).getD 4294967295 := by
      simp only [last]
      cases read <;> rfl
    obtain ⟨w, ends⟩ := writerHeaderRead_ends (s := landed s) rfl landedHead (bytesOf 16 header)
    obtain ⟨idle, rq, sl, -⟩ := ends.leaves
    have frame := (keeps_endHeaderRead header (.refl s)).storeFrame
    have done := endHeaderRead_writer flight header
    refine ⟨_, exec_headerReadDone header s, ?_⟩
    rw [done] at frame ⊢
    refine ⟨idle, rq, sl, frame, fun tasks => ?_, fun tasks low => ?_, fun tasks high => ?_⟩
    · have judged : writerHeaderRead (bytesOf 16 header) (landed s) = tailHeaderRead read (landed s) := by
        have here : (landed s).sw.tasks = .readTail :: rest := tasks
        simp only [writerHeaderRead, here]
        rfl
      obtain ⟨-, -, -, sw⟩ := (tailHeaderRead_ends (s := landed s) rfl tasks read).leaves
      rw [judged]
      exact sw
    · have judged : writerHeaderRead (bytesOf 16 header) (landed s) = judgeLast last (landed s) := by
        have here : (landed s).sw.tasks = .readLast :: rest := tasks
        simp only [writerHeaderRead, here, lastIs]
        rfl
      obtain ⟨-, -, -, sw⟩ := (judgeLast_moves (s := landed s) rfl landedHead low).leaves
      rw [judged]
      exact sw
    · have judged : writerHeaderRead (bytesOf 16 header) (landed s) = judgeLast last (landed s) := by
        have here : (landed s).sw.tasks = .readLast :: rest := tasks
        simp only [writerHeaderRead, here, lastIs]
        rfl
      obtain ⟨-, -, -, sw⟩ := (judgeLast_stops (s := landed s) high).leaves
      rw [judged]
      exact sw
  · intro physical checked usable damaged t walking outlived
    have translation : entryTranslation s l (entryWord lo hi mark check) = t := entryTranslation_bytes s
    obtain ⟨bad, good⟩ := notedLink_bytes (lo := lo) (hi := hi) (mark := mark) (check := check) s
    obtain ⟨kept, placed⟩ := placedCache_cases s l (entryWord lo hi mark check)
    obtain ⟨idle, rq, sl, cache, stray, writer, reader, job⟩ := endMapRead_cases flight (entryWord lo hi mark check)
    have late : (stale = true ∧ outlivedUnmount s = true) ↔ outlived := and_congr_right fun _ => outlivedUnmount_iff s
    have counts : jobCounts s.sr.job = true ↔ ¬ walking := jobCounts_iff s.sr.job
    have word : check ++ mark ++ hi ++ lo = entryWord lo hi mark check := rfl
    rw [word]
    rw [translation] at writer reader job placed
    refine ⟨_, exec_mapEntryReadDone _ s, idle, fun d => sl.trans (bad d), fun d => sl.trans (good d), stray, writer, reader,
      fun fresh asks => ?_, fun off => ?_, fun on mapped current => ?_, rq, (keeps_endMapRead _ (.refl s)).storeFrame⟩
    · obtain ⟨sr, sw⟩ := job fresh asks
      refine ⟨sr, fun ⟨yes, still⟩ => ?_, fun no => ?_⟩
      · rw [sw, if_pos]
        rw [Bool.and_eq_true, counts]
        exact ⟨still, yes⟩
      · rw [sw, if_neg]
        rw [Bool.and_eq_true, counts]
        rintro ⟨still, yes⟩
        rcases no with no | walks
        · rw [show usable = true from yes] at no
          cases no
        · exact still walks
    · rw [cache]
      split
      · rfl
      · next unlate =>
        rcases off with off | direct | gone
        · exact kept (.inl off)
        · exact kept (.inr direct)
        · exact absurd (late.mpr gone) unlate
    · rw [cache, if_neg (mt late.mp current)]
      exact placed on mapped

end Sys2Proof.Machine
end

section
/-! The end of a page program (R146, R151). -/

namespace Sys2Proof.Machine

/-! ## The steps of R146 -/

/-- The entries after a page program, with those gone that then have both marks (step 2 of R146). -/
def programmedQueue (h : PagePos) (s : State) : State :=
  sweep ((s.setSw { s.sw with serial := s.sw.serial.next }).setRq
    { s.rq with entries := s.rq.entries.map (Entry.programmedIn (capturePoints s) h.sector) })

/-- Whether the end record's last byte was in the page (R131). -/
def endsWithPage (s : State) : Bool :=
  s.rq.entries.any fun e =>
    s.ia.endSeq == some e.record.sequence && e.inBuffer && e.appended == e.size (capturePoints s)

/-- The state after the first steps of R146: serial, entries and the campaign's end. -/
def pageSettled (h : PagePos) (s : State) : State :=
  if endsWithPage s then endRecordSettled 0 (programmedQueue h s) else programmedQueue h s

/-- The tail set when there is none, at the head sector (R146). -/
def pageTailed (h : PagePos) (seqRef : Nat) (s : State) : State :=
  if s.sw.tail = none then
    setTail (some h.sector) (s.setSw { s.sw with tailSeq := if h.page = 0 then seqRef else s.sw.tailSeq })
  else s

/-- The head after a page (R146). -/
def pagePast (h : PagePos) (s : State) : State :=
  if h.page < 15 then s.setSw { s.sw with head := some { h with page := h.page + 1 } } else headOn s

/-- The last steps of R146: streak, tail, buffer and head. -/
def pageCounted (h : PagePos) (seqRef : Nat) (s : State) : State :=
  let s := pageTailed h seqRef (s.setSw { s.sw with streak := 0 })
  pagePast h (s.setSw s.sw.clearBuffer)

theorem pageProgrammed_eq {s : State} {h : PagePos} (head : s.sw.head = some h) :
    pageProgrammed s = pageCounted h s.sw.seqRef (pageSettled h s) := by
  unfold pageProgrammed
  rw [head]
  rfl

section
variable (s : State) (h : PagePos)

/-- Serial, entries and the campaign's end leave the writer but for the serial and the count of departures, and the reader. -/
theorem storeSide_pageSettled :
    storeSide (pageSettled h s) = storeSide (s.setSw { s.sw with serial := s.sw.serial.next }) := by
  have queue : storeSide (programmedQueue h s) = storeSide (s.setSw { s.sw with serial := s.sw.serial.next }) :=
    (storeSide_of_recordless (recordless_sweep _)).trans rfl
  unfold pageSettled
  split
  · exact (storeSide_endRecordSettled _ _).trans queue
  · exact queue

/-- Without an end record that waits, the campaign and the link stay, and the entries are those of step 2 of R146. -/
theorem pageSettled_unended (none : s.ia.endSeq = none) :
    (pageSettled h s).ia = s.ia ∧ (pageSettled h s).sl = s.sl ∧
      (pageSettled h s).rq.entries =
        (s.rq.entries.map (Entry.programmedIn (capturePoints s) h.sector)).filter fun e => !e.leaves := by
  have not : endsWithPage s = false := by
    simp [endsWithPage, none]
  have ia := ia_of_recordless (recordless_sweep ((s.setSw { s.sw with serial := s.sw.serial.next }).setRq
    { s.rq with entries := s.rq.entries.map (Entry.programmedIn (capturePoints s) h.sector) }))
  have rq := congrArg RQ.entries (rq_sweep ((s.setSw { s.sw with serial := s.sw.serial.next }).setRq
    { s.rq with entries := s.rq.entries.map (Entry.programmedIn (capturePoints s) h.sector) }))
  rw [pageSettled, not, if_neg Bool.false_ne_true]
  exact ⟨ia, sl_sweep _, rq⟩

/-- The end record's last byte in the page ends a STOPPING campaign (R131). -/
theorem pageSettled_ended (ends : endsWithPage s = true) (stopping : s.ia.state = .stopping) :
    (pageSettled h s).ia.state = .stopped := by
  have ia := congrArg IA.state (ia_of_recordless (recordless_sweep ((s.setSw { s.sw with serial := s.sw.serial.next }).setRq
    { s.rq with entries := s.rq.entries.map (Entry.programmedIn (capturePoints s) h.sector) })))
  have waits : (programmedQueue h s).ia.state = .stopping := ia.trans stopping
  rw [pageSettled, if_pos ends, campaign_endRecordSettled, if_pos waits]

/-! ## Streak, tail, buffer and head -/

/-- The head on the page after another, or on page 0 of the next sector with its erased mark clear (R146). -/
def SW.pastPage (h : PagePos) (next : Nat) (w : SW) : SW :=
  if h.page < 15 then { w with head := some { h with page := h.page + 1 } }
  else { w with head := some { sector := next, page := 0 }, headErased := false, tasks := [.seekHead] }

/-- The writer with the tail set when there was none, at the head sector (R146). -/
def SW.tailed (h : PagePos) (seqRef : Nat) (w : SW) : SW :=
  if w.tail = none then { w with tail := some h.sector, tailSeq := if h.page = 0 then seqRef else w.tailSeq } else w

theorem pageTailed_ends {u : State} (idle : u.sr.flight = none) (seqRef : Nat) :
    HeaderEnds u (pageTailed h seqRef u) (u.sw.tailed h seqRef) := by
  unfold pageTailed SW.tailed
  split
  · exact restartLocating_idle (s := u.setSw { u.sw with
      tail := some h.sector, tailSeq := if h.page = 0 then seqRef else u.sw.tailSeq }) idle
  · exact ⟨u.sr.current, rfl⟩

theorem pagePast_eq {u : State} (head : u.sw.head = some h) :
    pagePast h u = u.setSw (u.sw.pastPage h (nextSector u h.sector)) := by
  unfold pagePast SW.pastPage
  split
  · rfl
  · unfold headOn
    split
    · next absent => exact absurd (absent.symm.trans head) (Option.some_ne_none _).symm
    · next k found =>
      obtain rfl := Option.some.inj (found.symm.trans head)
      rfl

/-- The last steps of R146 touch the writer and the current readback, the port being free. -/
theorem pageCounted_ends {u : State} (idle : u.sr.flight = none) (head : u.sw.head = some h) (seqRef : Nat) :
    HeaderEnds u (pageCounted h seqRef u)
      (SW.pastPage h (nextSector u h.sector) (SW.tailed h seqRef { u.sw with streak := 0 }).clearBuffer) := by
  obtain ⟨current, tailed⟩ := pageTailed_ends h (u := u.setSw { u.sw with streak := 0 }) idle seqRef
  obtain ⟨w, writer⟩ : ∃ w, w = SW.tailed h seqRef { u.sw with streak := 0 } := ⟨_, rfl⟩
  have kept : w.head = some h ∧ w.logical = u.sw.logical := by
    rw [writer]
    unfold SW.tailed
    split <;> exact ⟨head, rfl⟩
  obtain ⟨here, ring⟩ := kept
  rw [← writer]
  have tailed' : pageTailed h seqRef (u.setSw { u.sw with streak := 0 }) =
      (u.setSw w).setSr { u.sr with current := current } := by
    rw [tailed, writer]
    rfl
  have past := pagePast_eq h (u := ((u.setSw w).setSr { u.sr with current := current }).setSw w.clearBuffer) here
  have next : nextSector (((u.setSw w).setSr { u.sr with current := current }).setSw w.clearBuffer) h.sector =
      nextSector u h.sector := by
    have same : (((u.setSw w).setSr { u.sr with current := current }).setSw w.clearBuffer).sw.logical = u.sw.logical := ring
    simp only [nextSector, same]
  refine ⟨current, ?_⟩
  unfold pageCounted
  dsimp only
  rw [tailed']
  refine past.trans ?_
  rw [next]
  rfl

end

end Sys2Proof.Machine
end

section
/-! The end of a page program, settled. -/

namespace Sys2Proof.Machine

/-- The writer at the end of a page program (steps 3 to 6 of R146). -/
def SW.counted (h : PagePos) (next seqRef : Nat) (w : SW) : SW :=
  SW.pastPage h next (SW.tailed h seqRef { w with streak := 0 }).clearBuffer

theorem SW.tailed_fields (h : PagePos) (seqRef : Nat) (w : SW) :
    (w.tailed h seqRef).tail = some (w.tail.getD h.sector) ∧
      (w.tailed h seqRef).tailSeq = (if w.tail = none ∧ h.page = 0 then seqRef else w.tailSeq) ∧
      { w.tailed h seqRef with tail := none, tailSeq := 0 } = { w with tail := none, tailSeq := 0 } := by
  unfold SW.tailed
  cases tail : w.tail with
  | none => simp
  | some x => simp [tail]

theorem SW.pastPage_fields (h : PagePos) (next : Nat) (w : SW) :
    { w.pastPage h next with head := none, headErased := false, tasks := [] } =
        { w with head := none, headErased := false, tasks := [] } ∧
      (h.page < 15 → w.pastPage h next = { w with head := some { h with page := h.page + 1 } }) ∧
      (15 ≤ h.page → w.pastPage h next =
        { w with head := some { sector := next, page := 0 }, headErased := false, tasks := [.seekHead] }) := by
  unfold SW.pastPage
  refine ⟨?_, fun few => if_pos few, fun last => if_neg (Nat.not_lt.mpr last)⟩
  split <;> rfl

theorem SW.counted_fields (h : PagePos) (next seqRef : Nat) (w : SW) :
    let e := w.counted h next seqRef
    e.serial = w.serial ∧ e.streak = 0 ∧ e.buffer = [] ∧ e.starts = 0 ∧ e.firstOffset = 240 ∧ e.flushDue = false ∧
      e.tail = some (w.tail.getD h.sector) ∧
      e.tailSeq = (if w.tail = none ∧ h.page = 0 then seqRef else w.tailSeq) ∧
      (h.page < 15 →
        e.head = some { h with page := h.page + 1 } ∧ e.headErased = w.headErased ∧ e.tasks = w.tasks) ∧
      (15 ≤ h.page →
        e.head = some { sector := next, page := 0 } ∧ e.headErased = false ∧ e.tasks = [.seekHead]) := by
  intro e
  obtain ⟨tail, tailSeq, rest⟩ := SW.tailed_fields h seqRef { w with streak := 0 }
  obtain ⟨v, eq⟩ : ∃ v, v = SW.tailed h seqRef { w with streak := 0 } := ⟨_, rfl⟩
  have counted : e = v.clearBuffer.pastPage h next := by rw [eq]; rfl
  rw [← eq] at tail tailSeq rest
  have serial := congrArg SW.serial rest
  have streak := congrArg SW.streak rest
  have erased := congrArg SW.headErased rest
  have tasks := congrArg SW.tasks rest
  obtain ⟨past, few, last⟩ := SW.pastPage_fields h next v.clearBuffer
  rw [← counted] at past few last
  have serial' := congrArg SW.serial past
  have streak' := congrArg SW.streak past
  have buffer := congrArg SW.buffer past
  have starts := congrArg SW.starts past
  have offset := congrArg SW.firstOffset past
  have flush := congrArg SW.flushDue past
  have tail' := congrArg SW.tail past
  have tailSeq' := congrArg SW.tailSeq past
  refine ⟨serial'.trans serial, streak'.trans streak, buffer, starts, offset, flush, tail'.trans tail,
    tailSeq'.trans tailSeq, fun page => ?_, fun page => ?_⟩
  · have head := congrArg SW.head (few page)
    have erased' := congrArg SW.headErased (few page)
    have tasks' := congrArg SW.tasks (few page)
    exact ⟨head, erased'.trans erased, tasks'.trans tasks⟩
  · have head := congrArg SW.head (last page)
    have erased' := congrArg SW.headErased (last page)
    have tasks' := congrArg SW.tasks (last page)
    exact ⟨head, erased', tasks'⟩

section
variable {s : State} {a b n : Nat} {d : List Byte} {h : PagePos}
  (flight : s.sr.flight = some ⟨.program a b d, some .writer, n, false⟩) (head : s.sw.head = some h)
include flight head

theorem endProgramDone_eq : endProgramDone s = pageCounted h s.sw.seqRef (pageSettled h (landed s)) := by
  have ended : endProgramDone s = pageProgrammed (landed s) := by
    simp only [endProgramDone, flight, awaited, Bool.false_eq_true, if_false]
    rfl
  rw [ended]
  exact pageProgrammed_eq (s := landed s) head

omit head in
theorem endProgramFailed_eq : endProgramFailed s = pageFailed (landed s) := by
  simp only [endProgramFailed, flight, awaited, Bool.false_eq_true, if_false]
  rfl

/-- The page programmed: the writer of R146, the reader with the port free, and the rest as serial, entries and the end of the
campaign leave it. -/
theorem endProgramDone_leaves :
    let e := endProgramDone s
    let u := pageSettled h (landed s)
    e.sr.flight = none ∧ e.sr.state = s.sr.state ∧ e.rq = u.rq ∧ e.ia = u.ia ∧ e.sl = u.sl ∧
      ∃ w : SW, e.sw = w.counted h (nextSector s h.sector) s.sw.seqRef ∧ w.serial = s.sw.serial.next ∧ w.tail = s.sw.tail ∧
        w.tailSeq = s.sw.tailSeq ∧ w.headErased = s.sw.headErased ∧ w.tasks = s.sw.tasks := by
  intro e u
  have side := storeSide_pageSettled (landed s) h
  obtain ⟨v, eq⟩ : ∃ v, v = pageSettled h (landed s) := ⟨_, rfl⟩
  rw [← eq] at side
  simp only [storeSide, Prod.mk.injEq] at side
  obtain ⟨writer, -, reader, -⟩ := side
  have serial := congrArg SW.serial writer
  have tail := congrArg SW.tail writer
  have tailSeq := congrArg SW.tailSeq writer
  have erased := congrArg SW.headErased writer
  have tasks := congrArg SW.tasks writer
  have here := congrArg SW.head writer
  have ring := congrArg SW.logical writer
  have idle : v.sr.flight = none := congrArg SR.flight reader
  have state := congrArg SR.state reader
  have next : nextSector v h.sector = nextSector s h.sector := by
    have ring' : v.sw.logical = s.sw.logical := ring
    simp only [nextSector, ring']
  obtain ⟨current, counted⟩ := pageCounted_ends h (u := v) idle (here.trans head) s.sw.seqRef
  have ended : e = pageCounted h s.sw.seqRef v := by
    rw [eq]
    exact endProgramDone_eq flight head
  rw [counted] at ended
  have uIs : u = v := eq.symm
  rw [uIs, ended]
  refine ⟨idle, state, rfl, rfl, rfl, v.sw, ?_, serial, tail, tailSeq, erased, tasks⟩
  rw [← next]
  rfl

end

theorem exec_pageProgramDone (s : State) : exec .pageProgramDone s = .next (settle (endProgramDone s)) := rfl

theorem exec_pageProgramFailed (s : State) : exec .pageProgramFailed s = .next (settle (endProgramFailed s)) := rfl

/-- The entries of step 2 of R146, as the spec says them. -/
theorem Entry.programmedIn_eq (points : List Point) (sector : Nat) (e : Entry) :
    e.programmedIn points sector =
      if e.stored = false ∧ e.programmed < e.appended then
        { e with
          programmed := e.appended, firstSector := some (e.firstSector.getD sector), lastSector := some sector,
          stored := e.appended == e.record.length points }
      else e := by
  have held : e.inBuffer = true ↔ e.stored = false ∧ e.programmed < e.appended := by
    simp [Entry.inBuffer]
  unfold Entry.programmedIn
  exact if_congr held rfl rfl

/-- Settles O51: the steps of R146 one after another, and a failure that retires the sector or faults the store. -/
theorem pageProgramEnds : Obligations.PageProgramEnds := by
  unfold Obligations.PageProgramEnds
  refine ⟨fun s a b n d h flight head => ?_, fun s a b n d h flight head notYet => ?_⟩
  · obtain ⟨idle, state, rq, ia, sl, w, writer, serial, tail, tailSeq, erased, tasks⟩ := endProgramDone_leaves flight head
    obtain ⟨serial', streak, buffer, starts, offset, flush, tail', tailSeq', few, last⟩ :=
      SW.counted_fields h (nextSector s h.sector) s.sw.seqRef w
    rw [tail] at tail' tailSeq'
    rw [tailSeq] at tailSeq'
    rw [erased, tasks] at few
    refine ⟨_, exec_pageProgramDone s, idle, state, ?_⟩
    rw [writer]
    refine ⟨fun k number => ?_, streak, buffer, starts, offset, flush, tail', tailSeq', few, last,
      (keeps_endProgramDone (.refl s)).storeFrame, fun unended => ?_, fun x member stopping ends unstored held whole => ?_⟩
    · rw [serial', serial, number]
      rfl
    · obtain ⟨ia', sl', entries⟩ := pageSettled_unended (landed s) h unended
      refine ⟨ia.trans ia', sl.trans sl', ?_⟩
      rw [rq, entries]
      refine congrArg (List.filter _) (List.map_congr_left fun x _ => ?_)
      exact x.programmedIn_eq _ _
    · have finished : endsWithPage (landed s) = true := by
        refine List.any_eq_true.mpr ⟨x, member, ?_⟩
        have here : (landed s).ia.endSeq = some x.record.sequence := ends
        have size : x.appended = x.size (capturePoints (landed s)) := whole
        simp only [here, Entry.inBuffer, unstored, Bool.not_false, held, decide_true, Bool.and_self, beq_self_eq_true]
        rw [Bool.true_and]
        exact beq_iff_eq.mpr size
      rw [ia]
      exact pageSettled_ended (landed s) h finished stopping
  · simp only [exec_pageProgramFailed, endProgramFailed_eq flight]
    refine ⟨fun mapped => ?_, fun direct => ⟨_, rfl, ?_⟩⟩
    · have failed : pageFailed (landed s) = (landed s).setSw { s.sw with tasks := [.retire h.sector true] } := by
        simp only [pageFailed, landed, State.setSr_sw, mapped, head]
      exact congrArg (fun t => Host.Outcome.next (settle t)) failed
    · have failed : pageFailed (landed s) = storeFault .program (landed s) := by
        simp only [pageFailed, landed, State.setSr_sw, direct]
      have leaves := (storeFaulted_storeFault (s := landed s) notYet .program).2
      obtain ⟨-, -, serial, -⟩ := leaves.writerFields
      rw [failed]
      exact ⟨storeFaulted_landed notYet .program, serial⟩

end Sys2Proof.Machine
end

section
/-! The end of a map program (R151 to R153, R155, R156). -/

namespace Sys2Proof.Machine

/-! ## Latched flags through a fault -/

section
variable (s : State)

theorem latched_finalReply (r : Reply) : (finalReply r s).sl.latched = s.sl.latched := by
  unfold finalReply formReply
  split <;> rfl

theorem latched_replyDone (tag : Byte) (kind : Nat) (cancelled : Bool) (body : List Byte) :
    (replyDone tag kind cancelled body s).sl.latched = s.sl.latched := latched_finalReply s _

theorem latched_replyFailed (tag : Byte) (kind : Nat) (reason : Reason) (body : List Byte) :
    (replyFailed tag kind reason body s).sl.latched = s.sl.latched := latched_finalReply s _

theorem latched_answerStop (outcome : Nat) : (answerStop outcome s).sl.latched = s.sl.latched := by
  unfold answerStop
  split
  · rfl
  · rw [latched_replyDone]
    rfl

theorem keepsFlags_endRecordSettled (outcome : Nat) : KeepsFlags s (endRecordSettled outcome s) := by
  have applied : ∀ u : State, KeepsFlags u (applyPending .stopped u) := fun u => by
    unfold applyPending
    split
    · exact .of_sl rfl
    · exact keepsFlags_handRecord (placePending u) _
  unfold endRecordSettled enterStopped
  split
  · refine .trans (.of_sl ?_) (applied _)
    rw [latched_answerStop]
    rfl
  · exact .of_sl rfl

/-- A fault of the store clears no latched flag (R154). -/
theorem keepsFlags_storeFault (cause : FaultCause) : KeepsFlags s (storeFault cause s) := by
  by_cases faulted : s.sr.state = .faulted
  · rw [storeFault, if_pos faulted]
    exact .of_sl rfl
  · have failed : (storeOrderFailed s).sl.latched = s.sl.latched := by
      unfold storeOrderFailed
      split
      · rfl
      · rw [latched_replyFailed]
        rfl
    have ended := congrArg (fun u : State => u.sl.latched) (readerless_faultStands s cause)
    have swept := congrArg SL.latched (sl_sweep ((faultMarked cause (storeOrderFailed s)).setRq
      { (faultMarked cause (storeOrderFailed s)).rq with
        entries := (faultMarked cause (storeOrderFailed s)).rq.entries.map fun e => { e with stored := true } }))
    have stands : KeepsFlags s (faultStands cause s) := .of_sl ((ended.trans swept).trans failed)
    rw [storeFault_eq faulted]
    exact stands.trans (keepsFlags_endRecordSettled _ 1)

end

end Sys2Proof.Machine
end

section
/-! The retirement of a sector (R151 to R153), by its steps. -/

namespace Sys2Proof.Machine

/-! ## The steps of a retirement (R151) -/

/-- A translation with the sector RETIRED (R143). -/
def Translation.retired (sector : Nat) (t : Translation) : Translation :=
  if t.logical = sector then { t with usable := false } else t

/-- Steps 1 to 5 of R151: the flag, the translations, the counts and the tail. -/
def retirementCounted (sector : Nat) (s : State) : State :=
  let s := retireTranslation sector (latch .sectorRetired s)
  let s := s.setSw { s.sw with usable := s.sw.usable - 1, streak := s.sw.streak + 1, tasks := s.sw.tasks.drop 1 }
  if s.sw.tail = some sector then setTail none s else s

/-- The writer after these steps. -/
def SW.afterRetirement (sector : Nat) (w : SW) : SW :=
  { w with
    translation := w.translation.map (Translation.retired sector), usable := w.usable - 1, streak := w.streak + 1,
    tasks := w.tasks.drop 1, tail := if w.tail = some sector then none else w.tail }

/-- The head after a retirement, which an UNMOUNTING store leaves where it is after a failed program (R152, R157). -/
def retirementHead (programFailed : Bool) (s : State) : State :=
  if programFailed ∧ s.sr.state ≠ .mounted then s.setSw { s.sw with headErased := false } else headOn s

theorem sectorRetired_eq (sector : Nat) (programFailed : Bool) (s : State) :
    sectorRetired sector programFailed s =
      if 3 ≤ (retirementCounted sector s).sw.streak ∨ (retirementCounted sector s).sw.usable < 2 then
        storeFault .retirement (retirementCounted sector s)
      else retirementHead programFailed
        (if programFailed then rewriteEntries sector (retirementCounted sector s) else retirementCounted sector s) := rfl

section
variable (sector : Nat) (s : State)

/-- With the port free the counted steps touch the flags, the cache, the writer and the current readback. -/
theorem retirementCounted_eq (idle : s.sr.flight = none) :
    ∃ current, retirementCounted sector s =
      (((s.setSl { s.sl with latched := s.sl.latched ||| 0x20000 }).setCache
        (s.cache.map (Translation.retired sector))).setSw (s.sw.afterRetirement sector)).setSr
          { s.sr with current := current } := by
  obtain ⟨current, eq⟩ : ∃ current, current = s.sr.current.map fun r =>
    { r with translation := r.translation.map (Translation.retired sector) } := ⟨_, rfl⟩
  obtain ⟨u, same⟩ : ∃ u, u = (((s.setSl { s.sl with latched := s.sl.latched ||| 0x20000 }).setCache
      (s.cache.map (Translation.retired sector))).setSw { s.sw with
        translation := s.sw.translation.map (Translation.retired sector), usable := s.sw.usable - 1,
        streak := s.sw.streak + 1, tasks := s.sw.tasks.drop 1 }).setSr { s.sr with current := current } := ⟨_, rfl⟩
  have steps : retirementCounted sector s = if u.sw.tail = some sector then setTail none u else u := by
    rw [same, eq]
    rfl
  rw [steps]
  by_cases here : s.sw.tail = some sector
  · have yes : u.sw.tail = some sector := by rw [same]; exact here
    have free : (u.setSw { u.sw with tail := none }).sr.flight = none := by rw [same]; exact idle
    obtain ⟨moved, restarted⟩ := restartLocating_idle free
    refine ⟨moved, ?_⟩
    rw [if_pos yes, setTail, restarted, same, SW.afterRetirement, if_pos here]
    rfl
  · have no : ¬ u.sw.tail = some sector := by rw [same]; exact here
    refine ⟨current, ?_⟩
    rw [if_neg no, same, SW.afterRetirement, if_neg here]

/-! ## The rewrite after a failed program (R152) -/

/-- A number of records counted lost touches the loss counts and the flags (R137, R138). -/
theorem countLost_leaves (n : Nat) :
    (countLost n s).sr = s.sr ∧ (countLost n s).sw = s.sw ∧ (countLost n s).cache = s.cache ∧
      (countLost n s).rq.entries = s.rq.entries ∧ KeepsFlags s (countLost n s) ∧
      (n = 0 ∧ (countLost n s).rq.totalLoss = s.rq.totalLoss ∨
        (countLost n s).rq.totalLoss = min 4294967295 (s.rq.totalLoss + n)) := by
  unfold countLost
  split
  · next zero => exact ⟨rfl, rfl, rfl, rfl, .of_sl rfl, .inl ⟨zero, rfl⟩⟩
  · refine ⟨rfl, rfl, rfl, rfl, fun i set => ?_, .inr rfl⟩
    have joined := BitVec.getLsbD_or (i := i) (x := s.sl.latched) (y := Flag.mask .recordLoss)
    rw [set, Bool.true_or] at joined
    exact joined

/-- The losses, the discarded buffer and the entries set back (R152). -/
theorem rewriteEntries_leaves :
    let e := rewriteEntries sector s
    e.sr = s.sr ∧ e.sw = s.sw.clearBuffer ∧ e.cache = s.cache ∧ KeepsFlags s e ∧
      e.rq.entries = s.rq.entries.map (fun x => if x.heldBy sector then x.setBack else x) ∧
      (s.sw.headDepartures = 0 ∧ e.rq.totalLoss = s.rq.totalLoss ∨
        e.rq.totalLoss = min 4294967295 (s.rq.totalLoss + s.sw.headDepartures)) := by
  intro e
  obtain ⟨sr, sw, cache, entries, flags, loss⟩ := countLost_leaves s s.sw.headDepartures
  refine ⟨sr, ?_, cache, flags, ?_, loss⟩
  · exact congrArg SW.clearBuffer sw
  · exact congrArg (List.map fun x => if x.heldBy sector then x.setBack else x) entries

end

/-! ## The head after a retirement -/

theorem retirementHead_leaves {s : State} {h : PagePos} (head : s.sw.head = some h) (programFailed : Bool) :
    let e := retirementHead programFailed s
    e.sr = s.sr ∧ e.cache = s.cache ∧ e.rq = s.rq ∧ e.sl = s.sl ∧ e.sw.headErased = false ∧
      { e.sw with head := none, headErased := false, tasks := [] } =
        { s.sw with head := none, headErased := false, tasks := [] } ∧
      (if programFailed = true ∧ s.sr.state ≠ .mounted then e.sw.head = some h ∧ e.sw.tasks = s.sw.tasks
      else e.sw.head = some { sector := nextSector s h.sector, page := 0 } ∧ e.sw.tasks = [.seekHead]) := by
  intro e
  have moves : headOn s = s.setSw { s.sw with
      head := some { sector := nextSector s h.sector, page := 0 }, headErased := false, tasks := [.seekHead] } := by
    unfold headOn
    rw [head]
  have decided : e = if programFailed = true ∧ s.sr.state ≠ .mounted then s.setSw { s.sw with headErased := false }
      else s.setSw { s.sw with
        head := some { sector := nextSector s h.sector, page := 0 }, headErased := false, tasks := [.seekHead] } := by
    rw [← moves]
    rfl
  rw [decided]
  split
  · exact ⟨rfl, rfl, rfl, rfl, rfl, rfl, head, rfl⟩
  · exact ⟨rfl, rfl, rfl, rfl, rfl, rfl, rfl, rfl⟩

end Sys2Proof.Machine
end

section
/-! The end of a map program, settled. -/

namespace Sys2Proof.Machine

/-- A fault of a later state is a fault of this one, when no readback was left between and the campaign is the same. -/
theorem StoreFaulted.of_later {cause : FaultCause} {s u e : State} (h : StoreFaulted cause u e) (keeps : StoreKeeps s u)
    (campaign : u.ia.state = s.ia.state) : StoreFaulted cause s e := by
  have before := keeps.storeFrame
  obtain ⟨⟨lr, mm, cc, ct, mu, tb⟩, mb, waiting⟩ := before
  obtain ⟨⟨lr', mm', cc', ct', mu', tb'⟩, mb', waiting'⟩ := h.frame
  exact ⟨h.state, h.cause, h.buffer, h.tasks, h.order, fun wf => h.readbacks (keeps.readback wf), h.entries,
    fun stopping => h.campaign (campaign.trans stopping),
    ⟨lr'.trans lr, mm'.trans mm, cc'.trans cc, ct'.trans ct, mu'.trans mu, tb'.trans tb⟩, mb'.trans mb,
    waiting'.trans waiting⟩

theorem keeps_retirementCounted (sector : Nat) (s : State) : StoreKeeps s (retirementCounted sector s) := by
  have translated := keeps_samePage (w := { (retireTranslation sector (latch .sectorRetired s)).sw with
      usable := (retireTranslation sector (latch .sectorRetired s)).sw.usable - 1
      streak := (retireTranslation sector (latch .sectorRetired s)).sw.streak + 1
      tasks := (retireTranslation sector (latch .sectorRetired s)).sw.tasks.drop 1 })
    (keeps_retireTranslation sector (keeps_latch .sectorRetired (.refl s))) rfl rfl
  unfold retirementCounted
  dsimp only
  split
  · exact keeps_setTail none translated
  · exact translated

section
variable {s : State} {l n sector : Nat} {programFailed : Bool} {rest : List WriterTask}
  (flight : s.sr.flight = some ⟨.retireMap l, some .writer, n, false⟩)
  (tasks : s.sw.tasks = .retire sector programFailed :: rest)
include flight tasks

theorem endMapProgram_writer (ok : Bool) :
    endMapProgram ok s =
      if ok then sectorRetired sector programFailed (landed s) else storeFault .map (landed s) := by
  have here : (landed s).sw.tasks = .retire sector programFailed :: rest := tasks
  have ended : endMapProgram ok s = retireEnded ok (landed s) := by
    simp only [endMapProgram, flight, awaited, Bool.false_eq_true, if_false]
    rfl
  rw [ended, retireEnded, here]

end

section
variable {s : State} {n : Nat}

theorem endMapProgram_format {l sector : Nat} {retiring : Bool} {first : Option Nat}
    (flight : s.sr.flight = some ⟨.retireMap l, none, n, false⟩) (job : s.sr.job = .format sector retiring first) (ok : Bool) :
    endMapProgram ok s = formatRetired sector first ok (landed s) := by
  simp only [endMapProgram, flight, job, awaited, Bool.false_eq_true, if_false]
  rfl

theorem endMapProgram_load {i start done : Nat} {entry : List Byte} {erase : Bool} {left : List Nat}
    (flight : s.sr.flight = some ⟨.loadMap i entry, none, n, false⟩) (job : s.sr.job = .mapLoad start erase left done)
    (ok : Bool) : endMapProgram ok s = mapLoaded start left done ok (landed s) := by
  simp only [endMapProgram, flight, job, awaited, Bool.false_eq_true, if_false]
  rfl

end

/-- The retirement of FORMAT (R155). -/
theorem formatRetired_eq (sector : Nat) (first : Option Nat) (s : State) :
    formatRetired sector first true s =
      (((s.setSl { s.sl with latched := s.sl.latched ||| 0x20000 }).setCache
        (s.cache.map (Translation.retired sector))).setSw { s.sw with
          translation := s.sw.translation.map (Translation.retired sector), usable := s.sw.usable - 1 }).setSr { s.sr with
            current := s.sr.current.map fun r => { r with translation := r.translation.map (Translation.retired sector) }
            job := .format (sector + 1) false first } := rfl

theorem formatRetired_leaves (sector : Nat) (first : Option Nat) (s : State) :
    let e := formatRetired sector first true s
    (∃ current, e.sr = { s.sr with current := current, job := .format (sector + 1) false first }) ∧
      e.sl = { s.sl with latched := s.sl.latched ||| 0x20000 } ∧ e.cache = s.cache.map (Translation.retired sector) ∧
      e.sw.usable = s.sw.usable - 1 ∧ e.sw.streak = s.sw.streak ∧ e.rq = s.rq ∧ e.cu = s.cu := by
  intro e
  have eq : e = _ := formatRetired_eq sector first s
  have sr := congrArg State.sr eq
  have sl := congrArg State.sl eq
  have cache := congrArg State.cache eq
  have usable := congrArg (fun u => u.sw.usable) eq
  have streak := congrArg (fun u => u.sw.streak) eq
  have rq := congrArg State.rq eq
  have cu := congrArg State.cu eq
  exact ⟨⟨_, sr⟩, sl, cache, usable, streak, rq, cu⟩

theorem exec_mapByteProgramEnd (ok : Bool) (s : State) :
    exec (.mapByteProgramEnd ok) s = .next (settle (endMapProgram ok s)) := rfl

/-- A translation of a RETIRED sector in the cache is not USABLE (R143). -/
theorem retired_of_mem {sector : Nat} {cache : List Translation} {t : Translation}
    (member : t ∈ cache.map (Translation.retired sector)) (same : t.logical = sector) : t.usable = false := by
  obtain ⟨x, -, rfl⟩ := List.mem_map.mp member
  unfold Translation.retired at same ⊢
  split
  · rfl
  · next other =>
    rw [if_neg other] at same
    exact absurd same other

/-- The entries that a retirement sets back, as the spec says them (R152). -/
theorem setBack_heldBy (sector : Nat) (x : Entry) :
    (if x.heldBy sector then x.setBack else x) =
      if x.firstSector = some sector ∨ x.lastSector = some sector ∨ x.programmed < x.appended then
        { x with appended := 0, programmed := 0, firstSector := none, lastSector := none, stored := false }
      else x := by
  have held : x.heldBy sector = true ↔
      x.firstSector = some sector ∨ x.lastSector = some sector ∨ x.programmed < x.appended := by
    simp [Entry.heldBy, or_assoc]
  exact if_congr held rfl rfl

/-- What the retirement of a sector of the writer leaves when the store goes on, by whether its program failed (R151 to
R153, R157). -/
theorem sectorRetired_goesOn {s : State} {sector : Nat} {programFailed : Bool} {rest : List WriterTask} {h : PagePos}
    (tasks : s.sw.tasks = .retire sector programFailed :: rest) (head : s.sw.head = some h)
    (few : s.sw.streak + 1 < 3) (most : 3 ≤ s.sw.usable) :
    let e := sectorRetired sector programFailed (landed s)
    e.sr.state = s.sr.state ∧ e.sr.flight = none ∧ e.sl.latched.getLsbD 17 = true ∧
      e.sw.usable = s.sw.usable - 1 ∧ e.sw.streak = s.sw.streak + 1 ∧ e.sw.serial = s.sw.serial ∧
      e.sw.tail = (if s.sw.tail = some sector then none else s.sw.tail) ∧ e.sw.headErased = false ∧
      (if programFailed = true ∧ s.sr.state ≠ .mounted then e.sw.head = some h ∧ e.sw.tasks = rest
      else e.sw.head = some { sector := nextSector s h.sector, page := 0 } ∧ e.sw.tasks = [.seekHead]) ∧
      (∀ t ∈ e.cache, t.logical = sector → t.usable = false) ∧
      (if programFailed = true then
        e.sw.buffer = [] ∧ e.rq.entries = s.rq.entries.map (fun x => if x.heldBy sector then x.setBack else x) ∧
          (s.sw.headDepartures = 0 ∧ e.rq.totalLoss = s.rq.totalLoss ∨
            e.rq.totalLoss = min 4294967295 (s.rq.totalLoss + s.sw.headDepartures))
      else e.sw.buffer = s.sw.buffer ∧ e.rq = s.rq) := by
  intro e
  obtain ⟨current, counted⟩ := retirementCounted_eq sector (landed s) rfl
  obtain ⟨r, rIs⟩ : ∃ r, r = retirementCounted sector (landed s) := ⟨_, rfl⟩
  rw [← rIs] at counted
  have rSw : r.sw = s.sw.afterRetirement sector := by rw [counted]; rfl
  have rSr : r.sr = { s.sr with flight := none, current := current } := by rw [counted]; rfl
  have rCache : r.cache = s.cache.map (Translation.retired sector) := by rw [counted]; rfl
  have rRq : r.rq = s.rq := by rw [counted]; rfl
  have rFlag : r.sl.latched.getLsbD 17 = true := by
    have joined : r.sl.latched = s.sl.latched ||| 0x20000 := by rw [counted]; rfl
    rw [joined, BitVec.getLsbD_or]
    simp
  obtain ⟨v, vIs⟩ : ∃ v, v = if programFailed = true then rewriteEntries sector r else r := ⟨_, rfl⟩
  have facts : v.sr = r.sr ∧ v.cache = r.cache ∧ KeepsFlags r v ∧
      { v.sw with buffer := [], seqRef := 0, starts := 0, firstOffset := 0, flushDue := false } =
        { r.sw with buffer := [], seqRef := 0, starts := 0, firstOffset := 0, flushDue := false } ∧
      (if programFailed = true then
        v.sw.buffer = [] ∧ v.rq.entries = r.rq.entries.map (fun x => if x.heldBy sector then x.setBack else x) ∧
          (r.sw.headDepartures = 0 ∧ v.rq.totalLoss = r.rq.totalLoss ∨
            v.rq.totalLoss = min 4294967295 (r.rq.totalLoss + r.sw.headDepartures))
      else v.sw.buffer = r.sw.buffer ∧ v.rq = r.rq) := by
    rw [vIs]
    split
    · obtain ⟨sr, sw, cache, flags, entries, loss⟩ := rewriteEntries_leaves sector r
      exact ⟨sr, cache, flags, by rw [sw]; rfl, by rw [sw]; rfl, entries, loss⟩
    · exact ⟨rfl, rfl, .of_sl rfl, rfl, rfl, rfl⟩
  obtain ⟨vSr, vCache, vFlags, vSw, queue⟩ := facts
  have writer : ∀ {α : Type} (f : SW → α),
      (∀ w : SW, f { w with buffer := [], seqRef := 0, starts := 0, firstOffset := 0, flushDue := false } = f w) →
        f v.sw = f (s.sw.afterRetirement sector) := fun f blind => by
    rw [← blind v.sw, vSw, blind, rSw]
  have vHead : v.sw.head = some h := (writer SW.head fun _ => rfl).trans head
  have vTasks : v.sw.tasks = rest := (writer SW.tasks fun _ => rfl).trans (by rw [SW.afterRetirement, tasks]; rfl)
  have next : nextSector v h.sector = nextSector s h.sector := by
    have ring : v.sw.logical = s.sw.logical := writer SW.logical fun _ => rfl
    simp only [nextSector, ring]
  have vState : v.sr.state = s.sr.state := by rw [vSr, rSr]
  obtain ⟨sr, cache, rq, sl, erased, moved, stands⟩ := retirementHead_leaves vHead programFailed
  have steps : e = retirementHead programFailed v := by
    have goesOn : ¬ (3 ≤ r.sw.streak ∨ r.sw.usable < 2) := by
      rw [rSw]
      show ¬ (3 ≤ s.sw.streak + 1 ∨ s.sw.usable - 1 < 2)
      omega
    have split := sectorRetired_eq sector programFailed (landed s)
    rw [← rIs, if_neg goesOn, ← vIs] at split
    exact split
  rw [← steps] at sr cache rq sl erased moved stands
  have kept : ∀ {α : Type} (f : SW → α), (∀ w : SW, f { w with head := none, headErased := false, tasks := [] } = f w) →
      f e.sw = f v.sw := fun f blind => by
    rw [← blind e.sw, moved, blind]
  have buffer : e.sw.buffer = v.sw.buffer := kept SW.buffer fun _ => rfl
  rw [vState, next, vTasks] at stands
  refine ⟨by rw [sr, vState], by rw [sr, vSr, rSr], by rw [sl]; exact vFlags 17 rFlag,
    (kept SW.usable fun _ => rfl).trans (writer SW.usable fun _ => rfl),
    (kept SW.streak fun _ => rfl).trans (writer SW.streak fun _ => rfl),
    (kept SW.serial fun _ => rfl).trans (writer SW.serial fun _ => rfl),
    (kept SW.tail fun _ => rfl).trans (writer SW.tail fun _ => rfl), erased, stands, fun t member same => ?_, ?_⟩
  · rw [cache, vCache, rCache] at member
    exact retired_of_mem member same
  · have departures : r.sw.headDepartures = s.sw.headDepartures := by rw [rSw]; rfl
    have page : r.sw.buffer = s.sw.buffer := by rw [rSw]; rfl
    rw [buffer, rq]
    rw [departures, page, rRq] at queue
    exact queue

/-- Settles O52: the retirement of the writer step by step, that of FORMAT, and an entry of a MAP LOAD. -/
theorem mapProgramEnds : Obligations.MapProgramEnds := by
  unfold Obligations.MapProgramEnds
  refine ⟨fun s l n sector programFailed rest h flight tasks head same state => ?_,
    fun s l n sector first flight job state => ?_, fun s i p n start done k rest members entry flight job notYet fill => ?_,
    fun s start p done rest job fits => ?_⟩
  · simp only [exec_mapByteProgramEnd, endMapProgram_writer flight tasks, if_true, if_neg Bool.false_ne_true]
    have notYet : s.sr.state ≠ .faulted := by
      rcases state with state | state <;> rw [state] <;> exact nofun
    have frame := (keeps_endMapProgram true (.refl s)).storeFrame
    rw [endMapProgram_writer flight tasks, if_pos rfl] at frame
    refine ⟨⟨_, rfl, storeFaulted_landed notYet .map⟩, fun out => ⟨_, rfl, ?_⟩, fun few most => ⟨_, rfl, ?_⟩⟩
    · obtain ⟨current, counted⟩ := retirementCounted_eq sector (landed s) rfl
      have worn : 3 ≤ (retirementCounted sector (landed s)).sw.streak ∨ (retirementCounted sector (landed s)).sw.usable < 2 := by
        rw [counted]
        show 3 ≤ s.sw.streak + 1 ∨ s.sw.usable - 1 < 2
        omega
      rw [sectorRetired_eq, if_pos worn]
      obtain ⟨r, rIs⟩ : ∃ r, r = retirementCounted sector (landed s) := ⟨_, rfl⟩
      have keeps := keeps_retirementCounted sector (landed s)
      rw [← rIs] at counted keeps ⊢
      have rState : r.sr.state ≠ .faulted := by rw [counted]; exact notYet
      have rIa : r.ia.state = s.ia.state := by rw [counted]; rfl
      refine ⟨StoreFaulted.of_landed ((storeFaulted_storeFault rState .retirement).1.of_later keeps rIa), ?_⟩
      refine keepsFlags_storeFault r .retirement 17 ?_
      have joined : r.sl.latched = s.sl.latched ||| 0x20000 := by rw [counted]; rfl
      rw [joined, BitVec.getLsbD_or]
      simp
    · obtain ⟨kept, idle, flag, usable, streak, serial, tail, erased, stands, cache, queue⟩ :=
        sectorRetired_goesOn tasks head few most
      refine ⟨kept, idle, flag, usable, streak, serial, tail, erased, ?_, frame, cache, ?_, fun failed => ?_⟩
      · have unmounting : s.sr.state ≠ .mounted ↔ s.sr.state = .unmounting := by
          rcases state with state | state <;> simp [state]
        exact Eq.mp (if_congr (and_congr_right fun _ => unmounting) rfl rfl) stands
      · cases programFailed with
        | true =>
          obtain ⟨buffer, -, loss⟩ := queue
          rcases loss with ⟨zero, loss⟩ | loss
          · exact .inr ⟨zero, buffer, loss⟩
          · exact .inl ⟨buffer, loss⟩
        | false => exact queue
      · rw [failed] at queue ⊢
        obtain ⟨-, entries, -⟩ := queue
        rw [entries]
        exact List.map_congr_left fun x _ => setBack_heldBy sector x
  · simp only [exec_mapByteProgramEnd, endMapProgram_format flight job]
    have notYet : s.sr.state ≠ .faulted := by rw [state]; exact nofun
    have frame := (keeps_endMapProgram true (.refl s)).storeFrame
    rw [endMapProgram_format flight job] at frame
    refine ⟨⟨_, rfl, ?_⟩, _, rfl, storeFaulted_landed notYet .map⟩
    obtain ⟨⟨current, sr⟩, sl, cache, usable, streak, rq, cu⟩ := formatRetired_leaves sector first (landed s)
    refine ⟨?_, ?_, ?_, ?_, usable, streak, fun t member => ?_, rq, cu, frame⟩
    · rw [sr]
      exact state
    · rw [sr]
      rfl
    · rw [sr]
    · rw [sl]
      exact (BitVec.getLsbD_or ..).trans (by simp)
    · rw [cache] at member
      exact retired_of_mem member
  · simp only [exec_mapByteProgramEnd, endMapProgram_load flight job]
    refine ⟨?_, _, rfl, storeFaulted_landed notYet .map⟩
    have loaded : mapLoaded start (p :: rest) done true (landed s) = ((landed s).setSw { s.sw with
        mapFill := some (k + 1, members ++ [p]) }).setSr { s.sr with
          flight := none, job := .mapLoad start false rest (done + 1) } := by
      have here : (landed s).sw.mapFill = some (k, members) := fill
      simp only [mapLoaded, here]
      rfl
    rw [loaded]
  · intro lo hi
    simp only [jobRequest, job]
    rfl

end Sys2Proof.Machine
end

section
/-! The mount scan: its page reads, its ends and the queue at the mount (R140, R161 to R164). -/

namespace Sys2Proof.Machine

/-! ## The queue at the mount (R140) -/

/-- What the queue is after it took the sequence that a mount found (R140). -/
def QueueTakes (s e : State) (found : NextSeq) : Prop :=
  match s.rq.entries with
  | [] => e.rq = { s.rq with next := found }
  | x :: _ =>
    if found.toNat ≤ x.record.sequence + 1 then
      e.rq = { s.rq with entries := s.rq.entries.map fun x => if x.stored then x else x.setBack }
    else
      let lost := (s.rq.entries.filter fun x => !x.stored).length
      e.rq.entries = [] ∧ e.rq.next = found ∧ e.rq.notCreated = s.rq.notCreated ∧
        (lost = 0 → e.rq.totalLoss = s.rq.totalLoss) ∧
        (0 < lost → e.rq.totalLoss = min 4294967295 (s.rq.totalLoss + lost) ∧ e.sl.latched.getLsbD 15 = true)

/-- What the queue holds and which flags stand decide it. -/
theorem QueueTakes.of_same {s e t : State} {found : NextSeq} (h : QueueTakes s e found) (rq : t.rq = e.rq)
    (latched : t.sl.latched = e.sl.latched) : QueueTakes s t found := by
  unfold QueueTakes at h ⊢
  rw [rq, latched]
  exact h

/-- A number of records counted lost: nothing for none, else the total and RECORD_LOSS (R137, R138). -/
theorem countLost_counts (n : Nat) (s : State) :
    (countLost n s).rq.next = s.rq.next ∧ (countLost n s).rq.notCreated = s.rq.notCreated ∧
      (n = 0 → (countLost n s).rq.totalLoss = s.rq.totalLoss) ∧
      (0 < n → (countLost n s).rq.totalLoss = min 4294967295 (s.rq.totalLoss + n) ∧
        (countLost n s).sl.latched.getLsbD 15 = true) := by
  unfold countLost
  split
  · next none => exact ⟨rfl, rfl, fun _ => rfl, fun some => absurd none (Nat.pos_iff_ne_zero.mp some)⟩
  · next some =>
    refine ⟨rfl, rfl, fun none => absurd none some, fun _ => ⟨rfl, ?_⟩⟩
    have joined := BitVec.getLsbD_or (i := 15) (x := s.sl.latched) (y := Flag.mask .recordLoss)
    exact joined.trans (Bool.or_true _)

/-- The queue discarded: the entries not stored are counted lost (R140). -/
theorem discardEntries_discards (s : State) :
    let lost := (s.rq.entries.filter fun x => !x.stored).length
    (discardEntries s).rq.entries = [] ∧ (discardEntries s).rq.notCreated = s.rq.notCreated ∧
      (lost = 0 → (discardEntries s).rq.totalLoss = s.rq.totalLoss) ∧
      (0 < lost → (discardEntries s).rq.totalLoss = min 4294967295 (s.rq.totalLoss + lost) ∧
        (discardEntries s).sl.latched.getLsbD 15 = true) := by
  intro lost
  obtain ⟨-, -, -, entries, -, -⟩ := countLost_leaves (s.setRq { s.rq with entries := [] }) lost
  obtain ⟨-, notCreated, none, some⟩ := countLost_counts lost (s.setRq { s.rq with entries := [] })
  unfold discardEntries
  dsimp only
  split
  · rw [rq_releaseCapture, sl_releaseCapture]
    exact ⟨entries, notCreated, none, some⟩
  · exact ⟨entries, notCreated, none, some⟩

/-- The queue takes the sequence found, and reader and writer stay (R140). -/
theorem takeSequence_takes (found : NextSeq) (s : State) :
    QueueTakes s (takeSequence found s) found := by
  unfold QueueTakes
  split
  · next held =>
    have taken : takeSequence found s = s.setRq { s.rq with next := found } := by rw [takeSequence, held]
    rw [taken]
    rfl
  · next x rest held =>
    by_cases low : found.toNat ≤ x.record.sequence + 1
    · have taken : takeSequence found s =
          s.setRq { s.rq with entries := s.rq.entries.map fun x => if x.stored then x else x.setBack } := by
        rw [takeSequence, held]
        exact if_pos low
      rw [if_pos low, taken]
      rfl
    · have taken : takeSequence found s = (discardEntries s).setRq { (discardEntries s).rq with next := found } := by
        rw [takeSequence, held]
        exact if_neg low
      rw [if_neg low, taken]
      obtain ⟨entries, notCreated, none, some⟩ := discardEntries_discards s
      exact ⟨entries, rfl, notCreated, none, some⟩

/-- The blocks beside the queue that a mount reads. -/
def mountSide (s : State) : SW × SR × Option (LongOrder × Byte) × Settings := (s.sw, s.sr, s.sl.storeOrder, s.sl.settings)

theorem mountSide_discardEntries (s : State) : mountSide (discardEntries s) = mountSide s := by
  have counted (n : Nat) (s : State) : mountSide (countLost n s) = mountSide s := by
    unfold countLost
    split <;> rfl
  have released (s : State) : mountSide (releaseCapture s) = mountSide s := by
    unfold releaseCapture
    split <;> rfl
  unfold discardEntries
  dsimp only
  split
  · exact (released _).trans (counted _ _)
  · exact counted _ _

theorem mountSide_takeSequence (found : NextSeq) (s : State) : mountSide (takeSequence found s) = mountSide s := by
  unfold takeSequence
  split
  · rfl
  · split
    · rfl
    · exact mountSide_discardEntries s

/-! ## The completing event (R163, R164) -/

/-- The writer as the scan's result places it (R163). -/
def SW.mountedAt (w : SW) (r : MountResult) : SW :=
  { w.clearBuffer with
    head := some r.head, headErased := r.erased, tail := r.tail, tailSeq := r.tailSeq, serial := r.serial,
    watermark := r.watermark, streak := 0, headDepartures := 0, stopMark := none, tasks := [] }

/-- The tail and the tasks a mount leaves: those of an entry into the head sector unless the head stands on an EMPTY page
(R148, R149). -/
def mountTail (s : State) (r : MountResult) : Option Nat × List WriterTask :=
  if r.erased then (r.tail, [])
  else if r.tail = some r.head.sector then
    match s.sl.settings.storeWrap with
    | .overwrite => (some (nextSector s r.head.sector), [.seekTail, .readTail, .erase])
    | .halt => (r.tail, [.readLast])
  else (r.tail, [.erase])

/-- The final reply of the long store order stands apart from reader, writer, queue and flags. -/
theorem storeOrderDone_leaves (body : List Byte) (s : State) :
    (storeOrderDone body s).sr = s.sr ∧ (storeOrderDone body s).sw = s.sw ∧ (storeOrderDone body s).rq = s.rq ∧
      (storeOrderDone body s).sl.latched = s.sl.latched ∧ (storeOrderDone body s).sl.storeOrder = none ∧
      (storeOrderDone body s).sl.settings = s.sl.settings := by
  unfold storeOrderDone
  split
  · next none => exact ⟨rfl, rfl, rfl, rfl, none, rfl⟩
  · unfold replyDone finalReply formReply
    split <;> exact ⟨rfl, rfl, rfl, rfl, rfl, rfl⟩

/-- The head in its sector: the erased mark, the tail and the tasks of R148 and R149 change, and the current readback. -/
theorem enterHead_leaves {s : State} (idle : s.sr.flight = none) {r : MountResult} {w : SW} (erased : r.erased = false)
    (writer : s.sw = w.mountedAt r) :
    ∃ current, enterHead s =
      (s.setSw { s.sw with tail := (mountTail s r).1, tasks := (mountTail s r).2 }).setSr
        { s.sr with current := current } := by
  have head : s.sw.head = some r.head := congrArg SW.head writer
  have tail : s.sw.tail = r.tail := congrArg SW.tail writer
  have off : s.sw.headErased = false := (congrArg SW.headErased writer).trans erased
  have same : s.setSw { s.sw with headErased := false } = s := by
    rw [← off]
    rfl
  have entered : mountTail s r = if r.tail = some r.head.sector then
      match s.sl.settings.storeWrap with
      | .overwrite => (some (nextSector s r.head.sector), [.seekTail, .readTail, .erase])
      | .halt => (r.tail, [.readLast])
      else (r.tail, [.erase]) := if_neg (by rw [erased]; exact Bool.false_ne_true)
  rw [entered]
  unfold enterHead
  split
  · next none => exact absurd (none.symm.trans head) (Option.some_ne_none _).symm
  · next h here =>
    obtain rfl := Option.some.inj (here.symm.trans head)
    dsimp only
    rw [same, tail]
    by_cases full : r.tail = some r.head.sector
    · rw [if_pos full, if_pos full]
      cases s.sl.settings.storeWrap with
      | overwrite => exact overwriteTail_idle idle head
      | halt => exact ⟨s.sr.current, by rw [← tail]; rfl⟩
    · rw [if_neg full, if_neg full]
      exact ⟨s.sr.current, by rw [← tail]; rfl⟩

/-- What the completing event of a mount leaves (R163, R164). -/
structure Mounts (s e : State) (r : MountResult) : Prop where
  state : e.sr.state = .mounted
  job : e.sr.job = .none
  flight : e.sr.flight = none
  order : e.sl.storeOrder = none
  writer : e.sw = { s.sw.mountedAt r with tail := (mountTail s r).1, tasks := (mountTail s r).2 }
  queue : QueueTakes s e r.found
  frame : StoreFrame s e

theorem mountComplete_mounts {s : State} (idle : s.sr.flight = none) (j : MountJob) (r : MountResult) :
    Mounts s (mountComplete j r s) r := by
  have frame : StoreFrame s (mountComplete j r s) := (keeps_mountComplete j r (.refl s)).storeFrame
  have taken := takeSequence_takes r.found s
  have side := mountSide_takeSequence r.found s
  obtain ⟨t, placed⟩ : ∃ t, t = takeSequence r.found s := ⟨_, rfl⟩
  rw [← placed] at taken side
  simp only [mountSide, Prod.mk.injEq] at side
  obtain ⟨sw, sr, -, settings⟩ := side
  obtain ⟨u, mounted⟩ : ∃ u, u = (t.setSw (t.sw.mountedAt r)).setSr
      { t.sr with state := .mounted, job := .none, jobTranslation := none } := ⟨_, rfl⟩
  have complete : mountComplete j r s =
      if r.erased then storeOrderDone (mountBody u j r) u else enterHead (storeOrderDone (mountBody u j r) u) := by
    rw [mounted, placed]
    rfl
  obtain ⟨v, answered⟩ : ∃ v, v = storeOrderDone (mountBody u j r) u := ⟨_, rfl⟩
  obtain ⟨vsr, vsw, vrq, vlatched, vorder, vsettings⟩ := storeOrderDone_leaves (mountBody u j r) u
  rw [← answered] at vsr vsw vrq vlatched vorder vsettings
  rw [← answered] at complete
  rw [complete] at frame ⊢
  have writer : v.sw = s.sw.mountedAt r := by
    have placedAt := congrArg State.sw mounted
    exact vsw.trans (placedAt.trans (congrArg (fun w => SW.mountedAt w r) sw))
  have reader : v.sr = { s.sr with state := .mounted, job := .none, jobTranslation := none } := by
    have placedAt := congrArg State.sr mounted
    exact vsr.trans (placedAt.trans (by rw [← sr]; rfl))
  have queue : QueueTakes s v r.found := by
    have held := congrArg State.rq mounted
    have flags := congrArg (fun x : State => x.sl.latched) mounted
    exact taken.of_same (vrq.trans held) (vlatched.trans flags)
  have kept : v.sl.settings = s.sl.settings := by
    have placedAt := congrArg (fun x : State => x.sl.settings) mounted
    exact vsettings.trans (placedAt.trans settings)
  have idle' : v.sr.flight = none := (congrArg SR.flight reader).trans idle
  by_cases erased : r.erased = true
  · have tail : mountTail s r = (r.tail, []) := if_pos erased
    rw [if_pos erased] at frame ⊢
    refine ⟨congrArg SR.state reader, congrArg SR.job reader, idle', vorder, ?_, queue, frame⟩
    rw [tail]
    exact writer
  · have tail : mountTail v r = mountTail s r := by
      unfold mountTail nextSector
      rw [kept, writer]
      rfl
    obtain ⟨current, entered⟩ := enterHead_leaves idle' (Bool.not_eq_true _ ▸ erased) writer
    rw [tail] at entered
    rw [if_neg erased] at frame ⊢
    obtain ⟨e, eq⟩ : ∃ e, e = enterHead v := ⟨_, rfl⟩
    rw [← eq] at frame entered ⊢
    have esr := congrArg State.sr entered
    have esw := congrArg State.sw entered
    have erq := congrArg State.rq entered
    have esl := congrArg State.sl entered
    refine ⟨?_, ?_, ?_, ?_, ?_, ?_, frame⟩
    · exact (congrArg SR.state esr).trans (congrArg SR.state reader)
    · exact (congrArg SR.job esr).trans (congrArg SR.job reader)
    · exact (congrArg SR.flight esr).trans idle'
    · exact (congrArg SL.storeOrder esl).trans vorder
    · exact esw.trans (by rw [← writer]; rfl)
    · exact queue.of_same erq (congrArg SL.latched esl)

end Sys2Proof.Machine
end

section
/-! The mount scan: the classification of the sectors, the walk of the head sector and the ends (R161 to R164). -/

namespace Sys2Proof.Machine

/-! ## The classification (R161) -/

/-- A page is empty when all its bytes read 0xFF (R144). -/
theorem pageEmpty_iff {bytes : List Byte} : pageEmpty bytes = true ↔ ∀ x ∈ bytes, x = 0xFF := by
  simp [pageEmpty]

theorem pageEmpty_eq_false {bytes : List Byte} (other : ∃ x ∈ bytes, x ≠ 0xFF) : pageEmpty bytes = false := by
  obtain ⟨x, member, differs⟩ := other
  exact Bool.eq_false_iff.mpr fun empty => differs (pageEmpty_iff.mp empty x member)

section
variable (j : MountJob) (bytes : List Byte)

/-- The scan goes on with the next sector. -/
theorem MountJob.classify_goesOn :
    (j.classify bytes).next = j.next + 1 ∧ (j.classify bytes).retired = j.retired ∧
      (j.classify bytes).walking = j.walking := by
  unfold MountJob.classify
  dsimp only
  repeat' split
  all_goals exact ⟨rfl, rfl, rfl⟩

variable {bytes}

theorem MountJob.classify_empty (empty : ∀ x ∈ bytes, x = 0xFF) :
    (j.classify bytes).empty = j.empty + 1 ∧ (j.classify bytes).valid = j.valid ∧
      (j.classify bytes).damaged = j.damaged := by
  simp only [MountJob.classify, pageEmpty_iff.mpr empty, if_true, and_self]

theorem MountJob.classify_damaged (other : ∃ x ∈ bytes, x ≠ 0xFF) (read : readHeader bytes = none) :
    (j.classify bytes).empty = j.empty ∧ (j.classify bytes).valid = j.valid ∧
      (j.classify bytes).damaged = j.damaged + 1 := by
  simp only [MountJob.classify, pageEmpty_eq_false other, Bool.false_eq_true, if_false, read, and_self]

/-- The VALID sector with the lowest serial, an equal one leaving the first (R161). -/
def lowest (j : MountJob) (h : PageHeader) : Option (Nat × PageHeader) :=
  match j.low with
  | some (m, l) => if h.serial < l.serial then some (j.next, h) else some (m, l)
  | none => some (j.next, h)

/-- The VALID sector with the highest serial, the last of equal ones (R161). -/
def highest (j : MountJob) (h : PageHeader) : Option (Nat × PageHeader) :=
  match j.high with
  | some (m, x) => if x.serial ≤ h.serial then some (j.next, h) else some (m, x)
  | none => some (j.next, h)

theorem MountJob.classify_valid (other : ∃ x ∈ bytes, x ≠ 0xFF) {h : PageHeader} (read : readHeader bytes = some h) :
    let k := j.classify bytes
    k.empty = j.empty ∧ k.valid = j.valid + 1 ∧ k.damaged = j.damaged ∧ k.low = lowest j h ∧ k.high = highest j h := by
  simp only [MountJob.classify, pageEmpty_eq_false other, Bool.false_eq_true, if_false, read, true_and]
  refine ⟨?_, ?_⟩
  · unfold lowest
    cases j.low with
    | none => rfl
    | some x => by_cases less : h.serial < x.2.serial <;> simp [less]
  · unfold highest
    cases j.high with
    | none => rfl
    | some x => by_cases less : x.2.serial ≤ h.serial <;> simp [less]

end

/-! ## The results (R163) -/

/-- The sequence after the last one that a header names (R149, R163). -/
theorem nextAfter_lastSequence (h : PageHeader) :
    nextAfter h.lastSequence =
      (let seq := if 0 < h.starts then h.seqRef + h.starts - 1 else h.seqRef
       if seq < 4294967295 then .number (seq + 1) else .exhausted) := by
  have same : h.lastSequence = if 0 < h.starts then h.seqRef + h.starts - 1 else h.seqRef := by
    unfold PageHeader.lastSequence
    by_cases none : h.starts = 0
    · rw [if_pos none, if_neg (by omega)]
    · rw [if_neg none, if_pos (by omega)]
  rw [same]
  rfl

/-- The next USABLE sector after the head sector in ring order, from what the scan met. -/
theorem MountJob.sectorAfterHead_eq (j : MountJob) :
    j.sectorAfterHead = (match j.afterHead, j.firstUsable with
      | some sector, _ => sector
      | none, some sector => sector
      | none, none => 0) := by
  unfold MountJob.sectorAfterHead
  cases j.afterHead with
  | some => rfl
  | none => cases j.firstUsable <;> rfl

section
variable {j : MountJob} {low high : Nat} {first top : PageHeader}

theorem MountJob.result_found (lowest : j.low = some (low, first)) (highest : j.high = some (high, top)) (emptyStop : Bool) :
    j.result emptyStop =
      { head :=
          if emptyStop then { sector := high, page := j.headPage + 1 } else { sector := j.sectorAfterHead, page := 0 }
        erased := emptyStop
        tail := some low
        tailSeq := first.seqRef
        found := nextAfter j.headHeader.lastSequence
        serial := Serial.next (.number j.headHeader.serial)
        watermark := first.seqRef - 1
        torn := if j.headHeader.tailOpen then some j.headHeader.lastSequence else none } := by
  simp only [MountJob.result, lowest, highest]

theorem MountJob.result_none (empty : j.high = none) (emptyStop : Bool) :
    j.result emptyStop =
      { head := { sector := j.firstUsable.getD 0, page := 0 }, erased := false, tail := none, tailSeq := 0,
        found := .number 0, serial := .number 0, watermark := 0, torn := none } := by
  unfold MountJob.result
  rw [empty]
  cases j.low <;> rfl

end

end Sys2Proof.Machine
end

section
/-! The mount scan settled (R161 to R164). -/

namespace Sys2Proof.Machine

/-! ## A page read of the scan -/

section
variable {s : State} {a b n : Nat} {page : BitVec 2048} {j : MountJob}

theorem exec_mountPageReadDone (flight : s.sr.flight = some ⟨.readPage a b, none, n, false⟩) :
    exec (.mountPageReadDone page) s = .next (settle (mountPageRead (bytesOf 256 page) (landed s))) := by
  have read : endMountRead page s = mountPageRead (bytesOf 256 page) (landed s) := by
    rw [endMountRead, flight]
    rfl
  exact congrArg (fun t => Host.Outcome.next (settle t)) read

theorem exec_mountClassify (flight : s.sr.flight = some ⟨.readPage a b, none, n, false⟩) (job : s.sr.job = .mount j)
    (first : j.walking = false) :
    exec (.mountPageReadDone page) s =
      .next (settle ((landed s).setSr { s.sr with flight := none, job := .mount (j.classify (bytesOf 256 page)) })) := by
  have read : mountPageRead (bytesOf 256 page) (landed s) = setMount (j.classify (bytesOf 256 page)) (landed s) := by
    unfold mountPageRead
    split
    · next k here =>
      obtain rfl := StoreJob.mount.inj (here.symm.trans job)
      rw [if_neg (by rw [first]; exact Bool.false_ne_true)]
    · next other => exact absurd job (other j)
  rw [exec_mountPageReadDone flight, read]
  rfl

theorem exec_mountWalk (flight : s.sr.flight = some ⟨.readPage a b, none, n, false⟩) (job : s.sr.job = .mount j)
    (walking : j.walking = true) :
    exec (.mountPageReadDone page) s = .next (settle (mountWalkRead j (bytesOf 256 page) (landed s))) := by
  have read : mountPageRead (bytesOf 256 page) (landed s) = mountWalkRead j (bytesOf 256 page) (landed s) := by
    unfold mountPageRead
    split
    · next k here =>
      obtain rfl := StoreJob.mount.inj (here.symm.trans job)
      rw [if_pos walking]
    · next other => exact absurd job (other j)
  rw [exec_mountPageReadDone flight, read]

end

/-! ## The walk of the head sector (R162) -/

section
variable {s : State} {j : MountJob} {bytes : List Byte}

theorem mountWalkRead_higher {h : PageHeader} (read : readHeader bytes = some h)
    (higher : j.headHeader.serial < h.serial) :
    mountWalkRead j bytes s =
      if j.page = 15 then mountEnd { j with headPage := j.page, headHeader := h, page := j.page + 1 } false s
      else setMount { j with headPage := j.page, headHeader := h, page := j.page + 1 } s := by
  rw [mountWalkRead, read]
  exact if_neg (Nat.not_le.mpr higher)

theorem mountWalkRead_notHigher {h : PageHeader} (read : readHeader bytes = some h)
    (low : h.serial ≤ j.headHeader.serial) : mountWalkRead j bytes s = mountEnd j false s := by
  rw [mountWalkRead, read]
  exact if_pos low

theorem mountWalkRead_invalid (read : readHeader bytes = none) :
    mountWalkRead j bytes s = mountEnd j (pageEmpty bytes) s := by
  rw [mountWalkRead, read]

end

/-! ## The ends -/

section
variable {s e : State} {r : MountResult}

theorem Mounts.of_landed (h : Mounts (landed s) e r) : Mounts s e r :=
  ⟨h.state, h.job, h.flight, h.order, h.writer, h.queue, h.frame⟩

/-- With 2 USABLE sectors the scan's end is its completing event (R161, R164). -/
theorem mountEnd_mounts {u : State} (idle : u.sr.flight = none) (j : MountJob) (usable : 2 ≤ u.sw.usable)
    (emptyStop : Bool) : Mounts u (mountEnd j emptyStop u) (j.result emptyStop) := by
  rw [mountEnd, if_neg (Nat.not_lt.mpr usable)]
  exact mountComplete_mounts idle j _

/-- The scan's end names the store MOUNTED and its writer afresh. -/
theorem Mounts.mounted (h : Mounts s e r) :
    e.sr.state = .mounted ∧ e.sr.job = .none ∧ e.sr.flight = none ∧ e.sw.buffer = [] ∧ e.sw.streak = 0 ∧
      e.sw.headDepartures = 0 ∧ e.sw.stopMark = none ∧ e.sl.storeOrder = none ∧ StoreFrame s e :=
  ⟨h.state, h.job, h.flight, congrArg SW.buffer h.writer, congrArg SW.streak h.writer, congrArg SW.headDepartures h.writer,
    congrArg SW.stopMark h.writer, h.order, h.frame⟩

/-- Where the scan's end places the writer (R163). -/
theorem Mounts.placed (h : Mounts s e r) :
    e.sw.tailSeq = r.tailSeq ∧ e.sw.watermark = r.watermark ∧ e.sw.serial = r.serial ∧ e.sw.head = some r.head ∧
      e.sw.headErased = r.erased ∧ e.sw.tail = (mountTail s r).1 ∧ e.sw.tasks = (mountTail s r).2 :=
  ⟨congrArg SW.tailSeq h.writer, congrArg SW.watermark h.writer, congrArg SW.serial h.writer, congrArg SW.head h.writer,
    congrArg SW.headErased h.writer, congrArg SW.tail h.writer, congrArg SW.tasks h.writer⟩

end

/-- The tail of a mount on an EMPTY page, in a sector before the tail's, and in the tail's (R148, R149). -/
theorem mountTail_erased {s : State} {r : MountResult} (erased : r.erased = true) : mountTail s r = (r.tail, []) :=
  if_pos erased

section
variable {s : State} {r : MountResult} (entered : r.erased = false)
include entered

theorem mountTail_apart (apart : r.tail ≠ some r.head.sector) : mountTail s r = (r.tail, [.erase]) := by
  rw [mountTail, if_neg (by rw [entered]; exact Bool.false_ne_true), if_neg apart]

theorem mountTail_halt (full : r.tail = some r.head.sector) (halt : s.sl.settings.storeWrap = .halt) :
    mountTail s r = (r.tail, [.readLast]) := by
  rw [mountTail, if_neg (by rw [entered]; exact Bool.false_ne_true), if_pos full, halt]

theorem mountTail_overwrite (full : r.tail = some r.head.sector) (wrap : s.sl.settings.storeWrap = .overwrite) :
    mountTail s r = (some (nextSector s r.head.sector), [.seekTail, .readTail, .erase]) := by
  rw [mountTail, if_neg (by rw [entered]; exact Bool.false_ne_true), if_pos full, wrap]

end

section
variable {s e : State} {k : MountJob} {low high : Nat} {first top : PageHeader}
  (lows : k.low = some (low, first)) (highs : k.high = some (high, top))
include lows highs

/-- The tail with its sequence, the next serial, the watermark and the queue as the scan found them (R163). -/
theorem Mounts.found {emptyStop : Bool} (h : Mounts s e (k.result emptyStop)) :
    e.sw.tailSeq = first.seqRef ∧ e.sw.watermark = first.seqRef - 1 ∧
      e.sw.serial = (if k.headHeader.serial < 4294967295 then .number (k.headHeader.serial + 1) else .exhausted) ∧
      QueueTakes s e (nextAfter k.headHeader.lastSequence) := by
  rw [MountJob.result_found lows highs] at h
  obtain ⟨tailSeq, watermark, serial, -⟩ := h.placed
  exact ⟨tailSeq, watermark, serial, h.queue⟩

/-- The scan stopped at an EMPTY page: the head stands there, erased (R162, R163). -/
theorem Mounts.onEmpty (h : Mounts s e (k.result true)) :
    e.sw.head = some { sector := high, page := k.headPage + 1 } ∧ e.sw.headErased = true ∧ e.sw.tail = some low ∧
      e.sw.tasks = [] := by
  rw [MountJob.result_found lows highs] at h
  obtain ⟨-, -, -, head, erased, tail, tasks⟩ := h.placed
  rw [mountTail_erased rfl] at tail tasks
  exact ⟨head, erased, tail, tasks⟩

/-- The scan stopped elsewhere: the head on page 0 of the next USABLE sector, with its erase-ahead and its ring-full test
(R148, R149, R163). -/
theorem Mounts.onNext (h : Mounts s e (k.result false)) {next : Nat} (after : k.sectorAfterHead = next) :
    e.sw.head = some { sector := next, page := 0 } ∧ e.sw.headErased = false ∧
      (next ≠ low → e.sw.tail = some low ∧ e.sw.tasks = [.erase]) ∧
      (next = low → s.sl.settings.storeWrap = .halt → e.sw.tail = some low ∧ e.sw.tasks = [.readLast]) ∧
      (next = low → s.sl.settings.storeWrap = .overwrite →
        e.sw.tail = some (nextSector s low) ∧ e.sw.tasks = [.seekTail, .readTail, .erase]) := by
  rw [MountJob.result_found lows highs, after] at h
  obtain ⟨-, -, -, head, erased, tail, tasks⟩ := h.placed
  refine ⟨head, erased, fun apart => ?_, fun full halt => ?_, fun full wrap => ?_⟩
  · rw [mountTail_apart rfl fun same => apart (Option.some.inj same).symm] at tail tasks
    exact ⟨tail, tasks⟩
  · rw [mountTail_halt rfl (congrArg some full.symm) halt] at tail tasks
    exact ⟨tail, tasks⟩
  · rw [mountTail_overwrite rfl (congrArg some full.symm) wrap] at tail tasks
    exact ⟨tail.trans (by rw [← full]; rfl), tasks⟩

end

/-! ## Every sector classified (R161 to R163) -/

section
variable {s : State} {j : MountJob}

theorem jobStep_classified (job : s.sr.job = .mount j) (first : j.walking = false) (all : s.sw.logical ≤ j.next) :
    jobStep s = mountClassified j s := by
  unfold jobStep
  rw [job]
  dsimp only
  rw [if_neg (by rw [first]; exact Bool.false_ne_true), if_pos all]

end

/-- Settles O55, by the reads of the classification and of the walk, and the completing event of each end. -/
theorem mountScanReads : Obligations.MountScanReads := by
  unfold Obligations.MountScanReads
  intro sameQueue mountedWith
  have same {s e : State} {found : NextSeq} (h : QueueTakes s e found) : sameQueue s e found := by
    cases found <;> exact h
  refine ⟨fun s a b n page j flight job => ?_, fun s j idle job mounting first all => ?_⟩
  · intro bytes
    refine ⟨fun first => ?_, fun h walking read higher more => ?_, fun low high first top walking usable lows highs => ?_⟩
    · obtain ⟨next, retired, still⟩ := j.classify_goesOn bytes
      exact ⟨j.classify bytes, exec_mountClassify flight job first, next, retired, still.trans first,
        fun empty => j.classify_empty empty, fun other read => j.classify_damaged other read,
        fun h other read => j.classify_valid other read⟩
    · rw [exec_mountWalk flight job walking, mountWalkRead_higher read higher, if_neg (Nat.ne_of_lt more)]
      rfl
    · intro found
      have walked := exec_mountWalk (page := page) flight job walking
      have ends {k : MountJob} {emptyStop : Bool} (stops : mountWalkRead j bytes (landed s) = mountEnd k emptyStop (landed s)) :
          ∃ e, exec (.mountPageReadDone page) s = .next (settle e) ∧ Mounts s e (k.result emptyStop) :=
        ⟨mountWalkRead j bytes (landed s), walked, by
          rw [stops]
          exact (mountEnd_mounts (u := landed s) rfl k usable emptyStop).of_landed⟩
      have asFound {e : State} {k : MountJob} {emptyStop : Bool} (h : Mounts s e (k.result emptyStop))
          (lows : k.low = some (low, first)) (highs : k.high = some (high, top)) : found e k.headHeader := by
        obtain ⟨tailSeq, watermark, serial, queue⟩ := h.found lows highs
        rw [nextAfter_lastSequence] at queue
        exact ⟨h.mounted, tailSeq, watermark, serial, same queue⟩
      refine ⟨fun empty read => ?_, fun last stopped => ?_⟩
      · obtain ⟨e, runs, h⟩ := ends ((mountWalkRead_invalid read).trans (by rw [pageEmpty_iff.mpr empty]))
        exact ⟨e, runs, asFound h lows highs, h.onEmpty lows highs⟩
      · intro next
        have after : j.sectorAfterHead = next := j.sectorAfterHead_eq
        rcases stopped with ⟨read, other, rfl⟩ | ⟨h, read, low', rfl⟩ | ⟨page15, read, higher⟩
        · obtain ⟨e, runs, h⟩ := ends ((mountWalkRead_invalid read).trans (by rw [pageEmpty_eq_false other]))
          exact ⟨e, runs, asFound h lows highs, h.onNext lows highs after⟩
        · obtain ⟨e, runs, h⟩ := ends (mountWalkRead_notHigher read low')
          exact ⟨e, runs, asFound h lows highs, h.onNext lows highs after⟩
        · obtain ⟨e, runs, h⟩ := ends ((mountWalkRead_higher read higher).trans (if_pos page15))
          have next' := Mounts.onNext (k := { j with headPage := j.page, headHeader := last, page := j.page + 1 }) lows highs h
            after
          exact ⟨e, runs, asFound h lows highs, next'⟩
  · rw [jobStep_classified job first all]
    unfold mountClassified
    refine ⟨fun few => ?_, fun high top enough highs => ?_, fun enough none => ?_⟩
    · rw [if_pos few]
      exact (storeFaulted_storeFault (by rw [mounting]; exact nofun) .retirement).1
    · rw [if_neg (Nat.not_lt.mpr enough), highs]
      rfl
    · rw [if_neg (Nat.not_lt.mpr enough), none]
      have h := mountEnd_mounts idle j enough false
      rw [MountJob.result_none none] at h
      obtain ⟨-, watermark, serial, head, erased, tail, tasks⟩ := h.placed
      rw [mountTail_apart rfl (Option.some_ne_none _).symm] at tail tasks
      exact ⟨h.mounted, head, erased, tail, watermark, serial, tasks, same h.queue⟩

end Sys2Proof.Machine
end

section
/-! The reader's walk and the records it meets (R167 to R170). -/

namespace Sys2Proof.Machine

section
variable {s : State} {r : Readback}

/-! ## The current readback changed -/

theorem withReadback_eq (current : s.sr.current = some r) (f : Readback → Readback) :
    withReadback f s = s.setSr { s.sr with current := some (f r) } := by
  rw [withReadback, current]
  rfl

theorem setPhase_eq (current : s.sr.current = some r) (p : ReadPhase) :
    setPhase p s = s.setSr { s.sr with current := some { r with phase := p } } :=
  withReadback_eq current _

/-- The walk moves on within the written span (R168). -/
theorem moveOn_goes {p : PagePos} (within : s.sw.head ≠ some (nextPage s p)) :
    moveOn p s = setPhase (.walk (nextPage s p)) s :=
  if_neg within

/-- The walk reaches the end of the written span (R169). -/
theorem moveOn_ends {p : PagePos} (head : s.sw.head = some (nextPage s p)) (span : inSpan s p = true) :
    moveOn p s = endServing (cutAtEnd s) :=
  (if_pos head).trans (if_pos span)

/-! ## The end of the record in progress -/

section
variable {o : ReadOrder} {rest : List ReadOrder} {p : RecordProgress} {sequence total : Nat}
  (queue : s.sr.queue = o :: rest) (current : s.sr.current = some r) (record : r.record = some p)
include queue current record

/-- A record being served ends with its last piece (R168 to R170). -/
theorem closeRecord_served (known : p.known = some (sequence, total, true)) (mark : PieceMark) (counted : Bool) :
    closeRecord mark counted s = s.setSr { s.sr with
      piece := some (handPiece o sequence p true mark)
      current := some { r with
        record := none
        outcomes := if counted then r.outcomes.count mark else r.outcomes
        wanted := if counted then sequence + 1 else r.wanted } } := by
  simp only [closeRecord, queue, current, record, known]

/-- A record passed over is dropped (R168). -/
theorem closeRecord_passed (known : p.known = some (sequence, total, false)) (mark : PieceMark) (counted : Bool) :
    closeRecord mark counted s = s.setSr { s.sr with current := some { r with record := none } } := by
  simp only [closeRecord, queue, current, record, known]

/-- A record whose header is whole is cut as it stands (R169). -/
theorem cutRecord_known {x : Nat × Nat × Bool} (known : p.known = some x) (mark : PieceMark) (counted : Bool) :
    cutRecord mark counted s = closeRecord mark counted s := by
  have same : withReadback (Readback.cut o) s = s := by
    have cut : Readback.cut o r = r := by simp only [Readback.cut, record, known]
    rw [withReadback_eq current, cut, ← current]
    rfl
  unfold cutRecord
  split
  · next k _ here =>
    obtain ⟨rfl, -⟩ := List.cons.inj (here.symm.trans queue)
    rw [same]
  · next none => exact absurd (none.symm.trans queue) (List.cons_ne_nil _ _).symm

end

/-! ## The page reads (R167, R168) -/

/-- The payload of a whole page. -/
theorem pagePayload_bytesOf (page : BitVec 2048) : pagePayload (bytesOf 256 page) = (bytesOf 256 page).drop 16 := by
  unfold pagePayload field
  refine List.take_of_length_le ?_
  simp [bytesOf]

section
variable {bytes : List Byte} {at_ : PagePos}

theorem walkPageRead_fresh {h : PageHeader} (read : readHeader bytes = some h) (record : r.record = none) :
    walkPageRead at_ bytes r s =
      setPhase (.parse at_ h.lastSequence ((pagePayload bytes).drop h.firstOffset)) s := by
  simp only [walkPageRead, read, record]

theorem walkPageRead_continued {h : PageHeader} {p : RecordProgress} (read : readHeader bytes = some h)
    (record : r.record = some p) (continued : 0 < h.firstOffset) :
    walkPageRead at_ bytes r s = setPhase (.parse at_ h.lastSequence (pagePayload bytes)) s := by
  simp only [walkPageRead, read, record, if_pos continued]

theorem walkPageRead_cut {h : PageHeader} {p : RecordProgress} (read : readHeader bytes = some h)
    (record : r.record = some p) (fresh : h.firstOffset = 0) :
    walkPageRead at_ bytes r s = setPhase (.parse at_ h.lastSequence (pagePayload bytes))
      (cutRecord .torn (h.seqRef != p.sequence) s) := by
  simp only [walkPageRead, read, record, fresh, Nat.lt_irrefl, if_false]

theorem walkPageRead_invalid (read : readHeader bytes = none) (record : r.record = none) :
    walkPageRead at_ bytes r s = moveOn at_ s := by
  simp only [walkPageRead, read, record]

theorem walkPageRead_torn {p : RecordProgress} (read : readHeader bytes = none) (record : r.record = some p) :
    walkPageRead at_ bytes r s = moveOn at_ (cutRecord .torn true s) := by
  simp only [walkPageRead, read, record]

end

end

/-! ## A read of the current readback ends -/

section
variable {s : State} {a b n : Nat} {page : BitVec 2048}

theorem exec_headerRead (flight : s.sr.flight = some ⟨.readHeader a b, some .reader, n, false⟩) :
    exec (.readbackPageReadDone page) s = .next (settle (readerPageRead (bytesOf 16 page) (landed s))) := by
  have read : endPageRead page s = readerPageRead (bytesOf 16 page) (landed s) := by
    rw [endPageRead, flight]
    rfl
  exact congrArg (fun t => Host.Outcome.next (settle t)) read

theorem exec_pageRead (flight : s.sr.flight = some ⟨.readPage a b, some .reader, n, false⟩) :
    exec (.readbackPageReadDone page) s = .next (settle (readerPageRead (bytesOf 256 page) (landed s))) := by
  have read : endPageRead page s = readerPageRead (bytesOf 256 page) (landed s) := by
    rw [endPageRead, flight]
    rfl
  exact congrArg (fun t => Host.Outcome.next (settle t)) read

end

section
variable {s : State} {r : Readback} {bytes : List Byte} (current : s.sr.current = some r)
include current

/-- A probe of the sector stage moves a bound (R167). -/
theorem readerPageRead_sectors {lo hi d m : Nat} {starts : Option Nat} (phase : r.phase = .sectors lo hi starts (some (d, m))) :
    readerPageRead bytes s = setPhase (match readHeader bytes with
      | some h => if h.seqRef ≤ r.wanted then .sectors d hi (some h.starts) none else .sectors lo d starts none
      | none => .sectors lo d starts none) s := by
  simp only [readerPageRead, current, phase]
  cases readHeader bytes with
  | none => rfl
  | some h => by_cases below : h.seqRef ≤ r.wanted <;> simp [below]

/-- A probe of the page stage moves a bound (R167). -/
theorem readerPageRead_pages {sector lo hi : Nat} {starts : Option Nat} (phase : r.phase = .pages sector lo hi starts) :
    readerPageRead bytes s = setPhase (match readHeader bytes with
      | some h =>
        if h.seqRef ≤ r.wanted then .pages sector ((lo + hi) / 2) hi (some h.starts)
        else .pages sector lo ((lo + hi) / 2) starts
      | none => .pages sector lo ((lo + hi) / 2) starts) s := by
  simp only [readerPageRead, current, phase]
  cases readHeader bytes with
  | none => rfl
  | some h => by_cases below : h.seqRef ≤ r.wanted <;> simp [below]

/-- A page stepped back to with a record start begins the walk, one without it steps further (R167). -/
theorem readerPageRead_stepBack {distance : Nat} (phase : r.phase = .stepBack distance) (record : r.record = none) :
    readerPageRead bytes s = setPhase (match readHeader bytes with
      | some h =>
        if 0 < h.starts then .parse (pageAt s distance) h.lastSequence ((pagePayload bytes).drop h.firstOffset)
        else .stepBack (distance - 1)
      | none => .stepBack (distance - 1)) s := by
  simp only [readerPageRead, current, phase]
  cases read : readHeader bytes with
  | none => rfl
  | some h =>
    by_cases starts : 0 < h.starts
    · simp only [Option.map_some, Option.getD_some, if_pos starts]
      exact walkPageRead_fresh read record
    · simp only [Option.map_some, Option.getD_some, if_neg starts]

theorem readerPageRead_walk {at_ : PagePos} (phase : r.phase = .walk at_) :
    readerPageRead bytes s = walkPageRead at_ bytes r s := by
  simp only [readerPageRead, current, phase]

end

end Sys2Proof.Machine
end

section
/-! The parse of a page by the reader's own work (R168 to R170). -/

namespace Sys2Proof.Machine

section
variable {s : State} {o : ReadOrder} {rest : List ReadOrder} {r : Readback} {at_ : PagePos} {last : Nat} {bytes : List Byte}

/-! ## The steps of the parse -/

section
variable (queue : s.sr.queue = o :: rest) (current : s.sr.current = some r) (free : s.sr.piece = none)
  (phase : r.phase = .parse at_ last bytes)
include queue current free phase

/-- While no piece is held the reader goes on in its page (R170). -/
theorem readerStep_parses (goesOn : r.record = none → r.cancel = false ∧ r.wanted ≤ o.last) :
    readerStep s = parseStep at_ last bytes o r s := by
  have uncancelled : ¬ (r.record = none ∧ r.cancel = true) := fun ⟨record, cancel⟩ =>
    absurd ((goesOn record).1.symm.trans cancel) Bool.false_ne_true
  have within : ¬ (r.record = none ∧ o.last < r.wanted) := fun ⟨record, beyond⟩ =>
    absurd (goesOn record).2 (Nat.not_le.mpr beyond)
  simp only [readerStep, queue, current, if_neg uncancelled, if_neg within, phase, free, Option.isSome_none,
    Bool.false_eq_true, if_false]

theorem readerStep_inRecord {p : RecordProgress} (record : r.record = some p) :
    readerStep s = parseStep at_ last bytes o r s :=
  readerStep_parses queue current free phase fun none => absurd (none.symm.trans record) (Option.some_ne_none _).symm

end

/-- A byte of one of the six kinds begins a record (R168). -/
theorem parseStep_begins {c : Byte} {left : List Byte} (record : r.record = none) (low : 1 ≤ c.toNat) (high : c.toNat ≤ 6) :
    parseStep at_ last (c :: left) o r s =
      s.setSr { s.sr with current := some { r with record := some ⟨last, [], 0, none, 0⟩ } } := by
  simp only [parseStep, record, low, high, and_self, if_true]

/-- Any other byte ends the page (R168). -/
theorem parseStep_ends {c : Byte} {left : List Byte} (record : r.record = none) (other : ¬ (1 ≤ c.toNat ∧ c.toNat ≤ 6)) :
    parseStep at_ last (c :: left) o r s = moveOn at_ s := by
  simp only [parseStep, record, if_neg other]

theorem parseStep_done (done : bytes = []) : parseStep at_ last bytes o r s = moveOn at_ s := by
  rw [done]
  rfl

/-- The header's first 12 bytes are whole (notes/assumptions/24.md). -/
theorem parseStep_header {p : RecordProgress} (record : r.record = some p) (unknown : p.known = none) (few : p.got < 12)
    (whole : 12 ≤ p.got + bytes.length) :
    parseStep at_ last bytes o r s =
      classify at_ last (bytes.drop (12 - p.got)) { p with bytes := p.bytes ++ bytes.take (12 - p.got), got := 12 } o r s := by
  cases bytes with
  | nil => exact absurd whole (Nat.not_le.mpr few)
  | cons c left =>
    have needed : min (c :: left).length (12 - p.got) = 12 - p.got := Nat.min_eq_right (by omega)
    have got : p.got + (12 - p.got) = 12 := by omega
    simp only [parseStep, record, unknown, needed, got, Nat.lt_irrefl, if_false]

/-- The bytes of a record passed over (R168). -/
theorem parseStep_passes {p : RecordProgress} {sequence total : Nat} (record : r.record = some p)
    (known : p.known = some (sequence, total, false)) (more : bytes ≠ []) :
    let n := min bytes.length (total - p.got)
    parseStep at_ last bytes o r s = s.setSr { s.sr with current := some { r with
      phase := .parse at_ last (bytes.drop n)
      record := if p.got + n < total then some { p with bytes := [], got := p.got + n } else none } } := by
  cases bytes with
  | nil => exact absurd rfl more
  | cons c left => simp only [parseStep, record, known]

/-- The progress of a record served, with the bytes that the page and the piece allow (R170). -/
def RecordProgress.served (p : RecordProgress) (total : Nat) (bytes : List Byte) : RecordProgress :=
  let n := min bytes.length (min (total - p.got) (1000 - (p.got - p.handed)))
  { p with bytes := p.bytes ++ bytes.take n, got := p.got + n }

/-- The readback with the bytes served taken. -/
def Readback.serves (r : Readback) (at_ : PagePos) (last : Nat) (p : RecordProgress) (total : Nat) (bytes : List Byte) :
    Readback :=
  { r with phase := .parse at_ last (bytes.drop (min bytes.length (min (total - p.got) (1000 - (p.got - p.handed))))) }

section
variable {p : RecordProgress} {sequence total : Nat} (record : r.record = some p)
  (known : p.known = some (sequence, total, true)) (more : bytes ≠ [])
include record known more

theorem parseStep_serves :
    let q := p.served total bytes
    let on := { r.serves at_ last p total bytes with record := some q }
    let t := s.setSr { s.sr with current := some on }
    parseStep at_ last bytes o r s =
      if total ≤ q.got then closeRecord (if recordChecks q.bytes then .good else .damaged) true t
      else if q.got - q.handed = 1000 then
        s.setSr { s.sr with
          piece := some (handPiece o sequence q false .good)
          current := some { on with record := some { q with handed := q.handed + 1000 } } }
      else t := by
  cases bytes with
  | nil => exact absurd rfl more
  | cons c left =>
    obtain ⟨guess, held, got, k, handed⟩ := p
    obtain rfl : k = some (sequence, total, true) := known
    simp only [parseStep, record]
    rfl

end

end

end Sys2Proof.Machine
end

section
/-! The judgement of a record met and the end of the order (R168, R169). -/

namespace Sys2Proof.Machine

/-! ## The end of the order -/

/-- The final reply DONE of a readback without waiting orders behind it, and a reader without readbacks (R169). -/
def readbackEnded (o : ReadOrder) (n : Outcomes) (piece : Option Piece) (s : State) : State :=
  formReply { plainReply o.tag 16 .done .none with body := readbackBody o n }
    ((s.setSl { s.sl with reserved := s.sl.reserved - 1 }).setSr { s.sr with queue := [], current := none, piece := piece })

theorem endReadback_alone {s : State} {o : ReadOrder} {r : Readback} (queue : s.sr.queue = [o])
    (current : s.sr.current = some r) (idle : s.sr.flight = none) (waiters : r.waiters = []) :
    endReadback false false s = readbackEnded o r.outcomes s.sr.piece s := by
  have still : orphanRead s = s := by
    unfold orphanRead
    split
    · next f flight => exact absurd (flight.symm.trans idle) (Option.some_ne_none _)
    · rfl
  have ended : replyDone o.tag 16 false (readbackBody o r.outcomes) (queueLeft [] s) =
      readbackEnded o r.outcomes s.sr.piece s := rfl
  have left : (readbackEnded o r.outcomes s.sr.piece s).sr.queue = [] := by
    unfold readbackEnded formReply
    split <;> rfl
  rw [endReadback_eq s queue current, waiters, still]
  dsimp only
  rw [if_neg Bool.false_ne_true, ended]
  unfold answerWaiters startReadback
  split
  · next o rest _ waits => exact absurd (waits.symm.trans left) (List.cons_ne_nil _ _)
  · rfl

/-- The part with its current readback changed. -/
def reads (q : Readback) (s : State) : State := s.setSr { s.sr with current := some q }

section
variable {s : State} {o : ReadOrder} {rest : List ReadOrder} {r : Readback} (queue : s.sr.queue = o :: rest)
  (current : s.sr.current = some r)
include queue current

theorem endBeyond_eq :
    endBeyond s = endReadback r.cancel false (reads { r with
      outcomes := { r.outcomes with absent := r.outcomes.absent + (remaining o r).length }, record := none } s) := by
  unfold endBeyond
  split
  · next k _ q ahead here =>
    obtain ⟨rfl, -⟩ := List.cons.inj (ahead.symm.trans queue)
    obtain rfl := Option.some.inj (here.symm.trans current)
    rfl
  · next none => exact (none o rest r queue current).elim

theorem endServing_eq :
    endServing s = endReadback r.cancel false (reads { r with
      outcomes := { r.outcomes with
        pending := r.outcomes.pending + ((remaining o r).filter (isPending s)).length
        absent := r.outcomes.absent + ((remaining o r).filter fun k => !isPending s k).length }
      record := none } s) := by
  unfold endServing
  split
  · next k _ q ahead here =>
    obtain ⟨rfl, -⟩ := List.cons.inj (ahead.symm.trans queue)
    obtain rfl := Option.some.inj (here.symm.trans current)
    rw [List.partition_eq_filter_filter]
    rfl
  · next none => exact (none o rest r queue current).elim

end

section
variable {s : State} {o : ReadOrder} {r : Readback} (queue : s.sr.queue = [o]) (current : s.sr.current = some r)
  (idle : s.sr.flight = none) (waiters : r.waiters = []) (going : r.cancel = false)
include queue current idle waiters going

/-- The range left of an order that is not cancelled (R169). -/
theorem endBeyond_alone :
    endBeyond s = readbackEnded o { r.outcomes with absent := r.outcomes.absent + (o.last + 1 - r.wanted) } s.sr.piece s := by
  have left : (remaining o r).length = o.last + 1 - r.wanted := by
    simp only [remaining, going, Bool.false_eq_true, if_false, List.length_map, List.length_range]
  obtain ⟨q, eq⟩ : ∃ q : Readback, q = { r with
    outcomes := { r.outcomes with absent := r.outcomes.absent + (o.last + 1 - r.wanted) }, record := none } := ⟨_, rfl⟩
  have ended : endBeyond s = endReadback false false (reads q s) := by
    rw [endBeyond_eq queue current, left, eq, going]
  have counted := congrArg Readback.outcomes eq
  have alone : q.waiters = [] := (congrArg Readback.waiters eq).trans waiters
  rw [ended, endReadback_alone (s := reads q s) queue rfl idle alone, counted]
  rfl

/-- The range left is counted PENDING or ABSENT at the end of the written span (R169). -/
theorem endServing_alone :
    let left := (List.range (o.last + 1 - r.wanted)).map (r.wanted + ·)
    endServing s = readbackEnded o { r.outcomes with
      pending := r.outcomes.pending + (left.filter (isPending s)).length
      absent := r.outcomes.absent + (left.filter fun k => !isPending s k).length } s.sr.piece s := by
  intro left
  have range : remaining o r = left := by
    rw [remaining, if_neg (by rw [going]; exact Bool.false_ne_true)]
  obtain ⟨q, eq⟩ : ∃ q : Readback, q = { r with
    outcomes := { r.outcomes with
      pending := r.outcomes.pending + (left.filter (isPending s)).length
      absent := r.outcomes.absent + (left.filter fun k => !isPending s k).length }
    record := none } := ⟨_, rfl⟩
  have ended : endServing s = endReadback false false (reads q s) := by
    rw [endServing_eq queue current, range, eq, going]
  have counted := congrArg Readback.outcomes eq
  have alone : q.waiters = [] := (congrArg Readback.waiters eq).trans waiters
  rw [ended, endReadback_alone (s := reads q s) queue rfl idle alone, counted]
  rfl

end

/-! ## The judgement of a record met (R168) -/

section
variable {s : State} {o : ReadOrder} {rest : List ReadOrder} {r : Readback} {at_ : PagePos} {last : Nat} {bytes : List Byte}
  {p : RecordProgress}

/-- A record of a length out of range ends the page in hand (notes/assumptions/56.md). -/
theorem classify_badLength (bad : fieldNat p.bytes 4 4 < 24 ∨ 100000 < fieldNat p.bytes 4 4)
    (within : s.sw.head ≠ some (nextPage s at_)) :
    classify at_ last bytes p o r s =
      s.setSr { s.sr with current := some { r with phase := .walk (nextPage s at_), record := none } } := by
  have moved : classify at_ last bytes p o r s =
      moveOn at_ (reads { r with phase := .parse at_ last bytes, record := none } s) := if_pos bad
  rw [moved, moveOn_goes (s := reads _ s) within, setPhase_eq (s := reads _ s) rfl]
  rfl

section
variable (low : 24 ≤ fieldNat p.bytes 4 4) (high : fieldNat p.bytes 4 4 ≤ 100000)
include low high

theorem classify_judged :
    let total := fieldNat p.bytes 4 4
    let sequence := fieldNat p.bytes 8 4
    let put (r : Readback) := s.setSr { s.sr with current := some { r with phase := .parse at_ last bytes } }
    classify at_ last bytes p o r s =
      if sequence < r.wanted then put { r with record := some { p with known := some (sequence, total, false) } }
      else if sequence ≤ o.last then
        put { r with
          record := some { p with known := some (sequence, total, true) }
          wanted := sequence
          outcomes := { r.outcomes with absent := r.outcomes.absent + (sequence - r.wanted) } }
      else endBeyond (put { r with record := none }) :=
  if_neg fun bad => bad.elim (Nat.not_lt.mpr low) (Nat.not_lt.mpr high)

end

end

end Sys2Proof.Machine
end

section
/-! The end of the written span, and the reads of a readback settled (R167 to R170). -/

namespace Sys2Proof.Machine

/-! ## The end of the written span (R169) -/

/-- A sequence is PENDING when the queue holds an entry of it or has not come to it yet (R169). -/
theorem isPending_eq (s : State) :
    isPending s = fun k => (s.rq.entries.any fun x => x.record.sequence == k) || match s.rq.next with
      | .number n => decide (n ≤ k)
      | _ => decide (4294967296 ≤ k) := by
  funext k
  unfold isPending
  cases s.rq.next <;> exact Bool.or_comm _ _

section
variable {s : State} {o : ReadOrder} {r : Readback} {p : RecordProgress} {sequence total : Nat}
  (queue : s.sr.queue = [o]) (current : s.sr.current = some r) (record : r.record = some p)
  (known : p.known = some (sequence, total, true))
include queue current record known

/-- A record served that the end of the span cuts: PENDING or TORN by the entries of the queue (R169). -/
theorem cutAtEnd_served (mark : PieceMark)
    (judged : mark = if s.rq.entries.any fun x => x.record.sequence == sequence then .pending else .torn) :
    cutAtEnd s = s.setSr { s.sr with
      piece := some (handPiece o sequence p true mark)
      current := some { r with record := none, outcomes := r.outcomes.count mark, wanted := sequence + 1 } } := by
  have held : s.sr.current.bind Readback.record = some p := by rw [current]; exact record
  have same : p.sequence = sequence := by simp only [RecordProgress.sequence, known]
  rw [cutAtEnd, held]
  dsimp only
  rw [same, ← judged, cutRecord_known queue current record known,
    closeRecord_served queue current record known]
  rfl

/-- The order ends with the sequences left PENDING or ABSENT (R169). -/
theorem endServing_cutAtEnd (idle : s.sr.flight = none) (waiters : r.waiters = []) (going : r.cancel = false)
    (mark : PieceMark)
    (judged : mark = if s.rq.entries.any fun x => x.record.sequence == sequence then .pending else .torn) :
    let left := (List.range (o.last - sequence)).map (sequence + 1 + ·)
    let counted := r.outcomes.count mark
    endServing (cutAtEnd s) = readbackEnded o { counted with
      pending := counted.pending + (left.filter (isPending s)).length
      absent := counted.absent + (left.filter fun k => !isPending s k).length }
      (some (handPiece o sequence p true mark)) s := by
  intro left counted
  obtain ⟨q, eq⟩ : ∃ q : Readback, q = { r with record := none, outcomes := counted, wanted := sequence + 1 } := ⟨_, rfl⟩
  have cut : cutAtEnd s = s.setSr { s.sr with
      piece := some (handPiece o sequence p true mark), current := some q } := by
    rw [cutAtEnd_served queue current record known mark judged, eq]
  obtain ⟨t, placed⟩ : ∃ t, t = s.setSr { s.sr with
      piece := some (handPiece o sequence p true mark), current := some q } := ⟨_, rfl⟩
  have reader := congrArg State.sr placed
  have pending : isPending t = isPending s := by rw [placed]; rfl
  have wanted : o.last + 1 - q.wanted = o.last - sequence := by rw [eq]; exact Nat.add_sub_add_right _ _ _
  have from_ : q.wanted = sequence + 1 := congrArg Readback.wanted eq
  have outcomes : q.outcomes = counted := congrArg Readback.outcomes eq
  have ends := endServing_alone (s := t) ((congrArg SR.queue reader).trans queue) (congrArg SR.current reader)
    ((congrArg SR.flight reader).trans idle) ((congrArg Readback.waiters eq).trans waiters)
    ((congrArg Readback.cancel eq).trans going)
  rw [pending, wanted, from_, outcomes] at ends
  rw [cut, ← placed, ends, placed]
  rfl

end

end Sys2Proof.Machine
end

section
/-! The reads of a readback and the parse of its records settled (R167 to R170). -/

namespace Sys2Proof.Machine

/-! ## A valid page cuts the record in progress, an invalid one tears it (R168, R169) -/

section
variable {s : State} {o : ReadOrder} {rest : List ReadOrder} {r : Readback} {p : RecordProgress} {sequence total : Nat}
  {at_ : PagePos} {bytes : List Byte}
  (queue : s.sr.queue = o :: rest) (current : s.sr.current = some r) (record : r.record = some p)
include queue current record

/-- A copy of the record in progress begins: the record is TORN unless the page has its sequence (R169). -/
theorem walkPageRead_cutServed {h : PageHeader} (read : readHeader bytes = some h) (fresh : h.firstOffset = 0)
    (known : p.known = some (sequence, total, true)) :
    walkPageRead at_ bytes r s = s.setSr { s.sr with
      piece := some (handPiece o sequence p true .torn)
      current := some { r with
        phase := .parse at_ h.lastSequence (pagePayload bytes)
        record := none
        wanted := if h.seqRef = sequence then r.wanted else sequence + 1
        outcomes := if h.seqRef = sequence then r.outcomes else { r.outcomes with torn := r.outcomes.torn + 1 } } } := by
  have same : p.sequence = sequence := by simp only [RecordProgress.sequence, known]
  rw [walkPageRead_cut read record fresh, same, cutRecord_known queue current record known,
    closeRecord_served queue current record known]
  by_cases copy : h.seqRef = sequence
  · have uncounted : (h.seqRef != sequence) = false := bne_eq_false_iff_eq.mpr copy
    rw [uncounted, if_pos copy, if_pos copy]
    rfl
  · have counted : (h.seqRef != sequence) = true := bne_iff_ne.mpr copy
    rw [counted, if_neg copy, if_neg copy]
    rfl

/-- A record passed over is dropped as a page begins one at 0 (R169). -/
theorem walkPageRead_cutPassed {h : PageHeader} (read : readHeader bytes = some h) (fresh : h.firstOffset = 0)
    (known : p.known = some (sequence, total, false)) :
    walkPageRead at_ bytes r s = s.setSr { s.sr with current := some { r with
      phase := .parse at_ h.lastSequence (pagePayload bytes), record := none } } := by
  rw [walkPageRead_cut read record fresh, cutRecord_known queue current record known,
    closeRecord_passed queue current record known]
  rfl

/-- A page that is not valid tears the record in progress, and the walk goes on (R168, R169). -/
theorem walkPageRead_tornServed (read : readHeader bytes = none) (known : p.known = some (sequence, total, true))
    (within : s.sw.head ≠ some (nextPage s at_)) :
    walkPageRead at_ bytes r s = s.setSr { s.sr with
      piece := some (handPiece o sequence p true .torn)
      current := some { r with
        phase := .walk (nextPage s at_)
        record := none
        wanted := sequence + 1
        outcomes := { r.outcomes with torn := r.outcomes.torn + 1 } } } := by
  obtain ⟨x, eq⟩ : ∃ x, x = { s.sr with
      piece := some (handPiece o sequence p true .torn)
      current := some { r with
        record := none, wanted := sequence + 1, outcomes := { r.outcomes with torn := r.outcomes.torn + 1 } } } := ⟨_, rfl⟩
  have torn : cutRecord .torn true s = s.setSr x := by
    rw [cutRecord_known queue current record known, closeRecord_served queue current record known, eq]
    rfl
  rw [walkPageRead_torn read record, torn, moveOn_goes (s := s.setSr x) within,
    setPhase_eq (s := s.setSr x) (congrArg SR.current eq), eq]
  rfl

end

/-! ## The bytes of a record served (R170) -/

section
variable {s : State} {o : ReadOrder} {rest : List ReadOrder} {r : Readback} {p : RecordProgress} {sequence total : Nat}
  {at_ : PagePos} {last : Nat} {bytes : List Byte}
  (queue : s.sr.queue = o :: rest) (record : r.record = some p)
  (known : p.known = some (sequence, total, true)) (more : bytes ≠ [])
include queue record known more

/-- The last byte of a record: its last piece with the mark of its CRC-32 (R170). -/
theorem parseStep_lastPiece (mark : PieceMark) (whole : total ≤ (p.served total bytes).got)
    (judged : mark = if recordChecks (p.served total bytes).bytes then .good else .damaged) :
    parseStep at_ last bytes o r s = s.setSr { s.sr with
      piece := some (handPiece o sequence (p.served total bytes) true mark)
      current := some { r.serves at_ last p total bytes with
        record := none, wanted := sequence + 1, outcomes := r.outcomes.count mark } } := by
  rw [parseStep_serves record known more, if_pos whole, ← judged]
  exact closeRecord_served (s := reads { r.serves at_ last p total bytes with record := some (p.served total bytes) } s)
    queue rfl rfl known mark true

omit queue

/-- A piece of 1,000 bytes goes out and the record goes on (R170). -/
theorem parseStep_fullPiece (cut : (p.served total bytes).got < total) (full : (p.served total bytes).got - p.handed = 1000) :
    parseStep at_ last bytes o r s = s.setSr { s.sr with
      piece := some (handPiece o sequence (p.served total bytes) false .good)
      current := some { r.serves at_ last p total bytes with
        record := some { p.served total bytes with handed := p.handed + 1000 } } } := by
  rw [parseStep_serves record known more, if_neg (Nat.not_le.mpr cut)]
  exact if_pos full

/-- The page ends within a piece (R170). -/
theorem parseStep_partPiece (cut : (p.served total bytes).got < total) (part : (p.served total bytes).got - p.handed < 1000) :
    parseStep at_ last bytes o r s = s.setSr { s.sr with
      current := some { r.serves at_ last p total bytes with record := some (p.served total bytes) } } := by
  rw [parseStep_serves record known more, if_neg (Nat.not_le.mpr cut)]
  exact if_neg (Nat.ne_of_lt part)

end

end Sys2Proof.Machine
end

section
/-! The readback's reads and its parse, as the statement asks for them. -/

namespace Sys2Proof.Machine

/-- Settles O56, by the steps of the locating, of the walk and of the parse. -/
theorem readbackReadsEnd : Obligations.ReadbackReadsEnd := by
  unfold Obligations.ReadbackReadsEnd
  refine ⟨fun s a b n page r current => ?_, fun s o rest r at_ last bytes queue current free phase => ?_⟩
  · intro next
    have phased (p : ReadPhase) : setPhase p (landed s) = next p := setPhase_eq (s := landed s) current p
    refine ⟨fun flight => ?_, fun flight => ?_⟩
    · intro read
      rw [exec_headerRead flight]
      refine ⟨fun lo hi starts d m phase => ?_, fun sector lo hi starts phase => ?_⟩
      · rw [readerPageRead_sectors (s := landed s) current phase, phased] <;> rfl
      · rw [readerPageRead_pages (s := landed s) current phase, phased] <;> rfl
    · intro read payload
      rw [exec_pageRead flight]
      refine ⟨fun at_ h phase valid => ?_, fun at_ phase invalid => ?_, fun distance phase record => ?_⟩
      · rw [readerPageRead_walk (s := landed s) current phase]
        refine ⟨fun record => ?_, fun p record continued => ?_, fun p total sequence o rest record fresh queue =>
          ⟨fun known => ?_, fun known => ?_⟩⟩
        · rw [walkPageRead_fresh valid record, pagePayload_bytesOf, phased]
        · rw [walkPageRead_continued valid record continued, pagePayload_bytesOf, phased]
        · rw [walkPageRead_cutServed (s := landed s) queue current record valid fresh known, pagePayload_bytesOf]
          rfl
        · rw [walkPageRead_cutPassed (s := landed s) queue current record valid fresh known, pagePayload_bytesOf]
          rfl
      · intro target within
        rw [readerPageRead_walk (s := landed s) current phase]
        refine ⟨fun record => ?_, fun p total sequence o rest record known queue => ?_⟩
        · rw [walkPageRead_invalid invalid record, moveOn_goes (s := landed s) within, phased]
          rfl
        · rw [walkPageRead_tornServed (s := landed s) queue current record invalid known within]
          rfl
      · rw [readerPageRead_stepBack (s := landed s) current phase record, pagePayload_bytesOf, phased]
        rfl
  · intro put target ended alone
    have placed (q : Readback) : s.setSr { s.sr with current := some q } = put none q := by
      have same : s.sr = { s.sr with piece := none } := by rw [← free]
      exact congrArg (fun x : SR => s.setSr { x with current := some q }) same
    have ends (n : Outcomes) (piece : Option Piece) : readbackEnded o n piece s = ended piece n := rfl
    refine ⟨fun c left record going within head => ?_, fun p record unknown few whole => ?_,
      fun p sequence total record known more => ?_, fun p sequence total record known more => ?_,
      fun p sequence total record known done head span apart => ?_⟩
    · rw [readerStep_parses queue current free phase fun _ => ⟨going, within⟩, head]
      refine ⟨fun low high => ?_, fun other inside => ?_⟩
      · rw [parseStep_begins record low high, placed]
      · have none' : ¬ (1 ≤ c.toNat ∧ c.toNat ≤ 6) := by
          rintro ⟨low, high⟩
          rcases other with rfl | above
          · exact absurd low (by decide)
          · omega
        rw [parseStep_ends record none', moveOn_goes inside, setPhase_eq current, placed]
        rfl
    · intro header total sequence met
      rw [readerStep_inRecord queue current free phase record, parseStep_header record unknown few whole]
      refine ⟨fun bad inside => ?_, fun low high => ?_⟩
      · rw [classify_badLength bad inside, placed]
        rfl
      · rw [classify_judged low high]
        refine ⟨fun below => ?_, fun reached inside => ?_, fun reached beyond apart => ?_⟩
        · rw [if_pos below]
          exact placed _
        · rw [if_neg (Nat.not_lt.mpr reached), if_pos inside]
          exact placed _
        · obtain ⟨rfl, waiters, going, idle⟩ := apart
          rw [if_neg (Nat.not_lt.mpr reached), if_neg (Nat.not_le.mpr beyond)]
          refine (endBeyond_alone (s := reads { r with phase := .parse at_ last (bytes.drop (12 - p.got)), record := none } s)
            queue rfl idle waiters going).trans ?_
          rw [← ends, ← free]
          rfl
    · intro m q piece on done checked
      rw [readerStep_inRecord queue current free phase record]
      refine ⟨fun whole good => ?_, fun whole bad => ?_, fun cut full => ?_, fun cut part => ?_⟩
      · exact parseStep_lastPiece queue record known more .good whole (if_pos (beq_iff_eq.mpr good)).symm
      · exact parseStep_lastPiece queue record known more .damaged whole
          (if_neg fun good => bad (beq_iff_eq.mp good)).symm
      · exact parseStep_fullPiece record known more cut full
      · exact (parseStep_partPiece record known more cut part).trans (placed _)
    · intro m
      rw [readerStep_inRecord queue current free phase record, parseStep_passes record known more, placed]
    · intro held pending left m piece
      obtain ⟨rfl, waiters, going, idle⟩ := apart
      rw [readerStep_inRecord queue current free phase record, parseStep_done done, moveOn_ends head span]
      have judged : isPending s = pending := isPending_eq s
      have counts := endServing_cutAtEnd queue current record known idle waiters going
      rw [judged] at counts
      refine ⟨fun queued => ?_, fun gone => ?_⟩
      · refine (counts .pending (if_pos queued).symm).trans ?_
        exact congrArg (fun k => ended (piece .pending) { m with pending := k }) (Nat.add_right_comm _ _ _)
      · exact counts .torn (if_neg (Bool.eq_false_iff.mp gone)).symm

end Sys2Proof.Machine
end
